-- ==== Sys2Proof/Word.lean ====
section
/-! DEFINITION. The word and byte types of the block: a host register access is one 32-bit word (R27), packet and
frame contents are bytes in network order (R5). -/

namespace Sys2Proof

/-- One register word (R27). -/
abbrev Word := BitVec 32

/-- One byte of a frame, a message or a table image. -/
abbrev Byte := BitVec 8

end Sys2Proof
end

