-- ==== Sys2Proof/Syntax.lean ====
section
/-! DEFINITION. The commands of the block: host register accesses, events on pins and lines, the instants of the
block's clocks and the completions of its engines.  One constructor per row of `spec/opcode_table.json`.  An operand
is what the row's step takes from outside the state: who accesses, which unit, the value written, what arrived on a
line or was measured there. -/

namespace Sys2Proof

/-- Who makes a host access: the PCIe function, and by which way.  Function 0 is the physical function, whose BAR0 shows
every page; `slot` 0 is an access at the page's own offset, another value the BAR0 page of a tenant window through which it
reaches the page (R26, R48).  For a virtual function `slot` is the slot of its window (R48, R49).  `be` holds the byte
enables of the 32-bit access, bit k for byte k (R27). -/
structure By where
  func : Nat
  slot : Nat
  be : Nat := 15
  deriving DecidableEq, Repr

/-- What a host access to registers does.  The table of operations has one row for the plain write of a register and none
for the accesses beside it that change or show state, so that row carries them (DESIGN CHOICE, log 60). -/
inductive HostOp
  /-- a 32-bit write of a register word -/
  | write (v : Nat)
  /-- a read of a register word, with the read effects of that register (R27, R28, R46) -/
  | read
  /-- a configuration write of the physical function's SR-IOV capability: VF Enable with NumVFs, 0 for VF Enable = 0
  (R297, R424) -/
  | vfEnable (numVfs : Nat)
  /-- a write of a vector's mask bit in the function's MSI-X table that masks it (R424, R51; MSIX_VECTOR_UNMASK is the
  other direction) -/
  | msixMask (vec : Nat)
  deriving DecidableEq, Repr

/-- Downstream PLOAM message types by the names of Table DSF–3; `other` is every type the table does not list, by its
code. -/
inductive DsPloamType
  | burstProfile | assignOnuId | rangingTime | deactivateOnuId | disableSerialNumber
  | channelProfile | tuningControl | adjustTxWavelength | calibrationRequest
  | other (code : Nat)
  deriving DecidableEq, Repr

/-- Upstream PLOAM message types by the names of Table DSF–3; `other` is every type the table does not list. -/
inductive UsPloamType
  | serialNumberOnu | registration | acknowledge | other
  deriving DecidableEq, Repr

/-- What one upstream FEC codeword yields (R96–R98), in order; `g` is the place of its grant in the burst.  A codeword
that is uncorrectable has one item for each allocation it reaches into. -/
inductive UsItem
  /-- a DBRu: occupancy as on the wire and CRC-8 -/
  | report (g q crc : Nat)
  /-- an XGEM frame: port-ID, key index, options, position of its first payload word, payload -/
  | xgem (g port keyIdx options pos : Nat) (payload : List Byte)
  /-- an XGEM header that fails its check after correction: recovery ends for the allocation -/
  | headerFail (g : Nat)
  /-- a PLOAM message: its type (Table DSF–3), ONU-ID, bytes, integrity code -/
  | ploam (type : UsPloamType) (onu : Nat) (bytes : List Byte) (mic : Nat)
  /-- an OMCI message with its integrity code and trailer -/
  | omci (bytes : List Byte)
  deriving DecidableEq, Repr

/-- The commands of the block, one constructor per row of the table of operations and events, in its order.  Each
docstring is the table's own summary, with the rule that governs the step. -/
inductive Instr
  /-- A host write to a register field that has no behaviour of its own, applied to the fields the writer may write, with reserved and RO bits ignored. (R46) -/
  | registerWrite (b : By) (pg : Nat) (off : Nat) (op : HostOp)
  /-- A read of ERR_COUNT returns and clears the count and re-arms ERR_FIRST. (R37) -/
  | errCountRead (b : By) (pg : Nat)
  /-- A W1C write to INT_RAW clears interrupt bits, leaving set any bit with a new event in the same cycle. (R52) -/
  | intRawClear (b : By) (pg : Nat) (v : Nat)
  /-- A write of 1 to an INT_FORCE bit sets the matching INT_RAW bit as an event would, with no other action. (R36) -/
  | intForceWrite (b : By) (pg : Nat) (v : Nat)
  /-- Unmasking a vector while an INT_PEND or a ring completion it serves is pending sends a message. (R51) -/
  | msixVectorUnmask (f : Nat) (vec : Nat)
  /-- T0 writes PAGE_OWNER, refused when OWNER is outside READ_MASK or the page is not grantable, and deferred while a table command is busy. (R45) -/
  | pageOwnerWrite (b : By) (pg : Nat) (v : Nat)
  /-- A write of PAGE_CTRL.EN enables or disables a block or unit, with held work taken when EN rises. (R33) -/
  | pageEnableWrite (b : By) (pg : Nat) (v : Nat)
  /-- Writing QUIESCE_REQ = 1 stops the block taking new work and holds it at its inputs. (R34) -/
  | quiesceRequest (b : By) (pg : Nat) (v : Nat)
  /-- When outstanding memory and bus transactions complete, the block sets PAGE_STAT.QUIESCED. (R34) -/
  | quiesceReached (pg : Nat)
  /-- Writing QUIESCE_REQ = 0 clears QUIESCED and resumes work within 16 cycles. (R34) -/
  | quiesceRelease (b : By) (pg : Nat) (v : Nat)
  /-- Writing PAGE_CTRL.SOFT_RST starts a block-scope reset returning the page's non-RWS fields to reset values. (R35) -/
  | softRst (b : By) (pg : Nat) (v : Nat)
  /-- A block reset completes and SOFT_RST clears itself. (R35) -/
  | blockResetDone (pg : Nat)
  /-- A TBL_CMD NOP is accepted and completes with no entry change. (R39) -/
  | tblNop (b : By) (pg : Nat) (v : Nat)
  /-- A TBL_CMD READ copies one entry into TBL_DATA0–15 as a single snapshot. (R39) -/
  | tblRead (b : By) (pg : Nat) (v : Nat) (bad : Bool)
  /-- A TBL_CMD WRITE replaces a whole entry subject to RO-field and block refusal rules. (R39) -/
  | tblWrite (b : By) (pg : Nat) (v : Nat)
  /-- A TBL_CMD RMW replaces only the words enabled in ARG. (R39) -/
  | tblRmw (b : By) (pg : Nat) (v : Nat) (bad : Bool)
  /-- A TBL_CMD CLEAR_RANGE writes reset content to ARG + 1 consecutive entries after checking all of them. (R39) -/
  | tblClearRange (b : By) (pg : Nat) (v : Nat)
  /-- An indirect-table command completes, BUSY falls, DONE rises and TBL_DONE or TBL_ERR is set. (R41) -/
  | tblCmdDone (pg : Nat)
  /-- At each instant the frame timebase equals PHASE_NS, the tree's framer starts a frame and the superframe count advances. (R56) -/
  | frameStart (n : Nat)
  /-- Writing TE_OC_HI commits both operation-control words from the next frame start. (R54) -/
  | ocHiWrite (b : By) (n : Nat) (v : Nat)
  /-- Writing TE_TOD_CTRL.ARM = 1 arms a ToD stamp at the target index, or sets STALE if the target is not in the future. (R71) -/
  | todArm (b : By) (n : Nat) (v : Nat)
  /-- Writing FRAMER_EN = 1 with EN = 1 moves the framer from DISABLED to ALIGNING. (R73) -/
  | framerEnable (b : By) (n : Nat) (v : Nat)
  /-- Writing FRAMER_EN = 0 moves the framer to STOPPING or, from ALIGNING, straight to DISABLED. (R73) -/
  | framerDisable (b : By) (n : Nat) (v : Nat)
  /-- A TE_MODE.LINE_MODE write, accepted only with framer and receiver off, invalidates profiles and recall and sends ONUs to LOST. (R55) -/
  | lineModeWrite (b : By) (n : Nat) (v : Nat)
  /-- The framer places a downstream XGEM frame in the payload field, fragmenting or idling at the field's end. (R67) -/
  | dsXgemFrame (n : Nat)
  /-- A built ToD announcement reaches the framer and is sent first in the frame of its send index, or discarded if late. (R72) -/
  | todAnnouncement (n : Nat)
  /-- A host PLOAM body from T0's ring is queued for the tree or rejected with a reason code. (R64) -/
  | hostPloamSubmit (n : Nat)
  /-- At T − 126.5 µs a tree's bandwidth-engine cycle opens for report gathering. (R16) -/
  | cycleOpen (n : Nat)
  /-- At T − 55.0 µs the engine takes its configuration snapshot and computes the speculative map. (R18) -/
  | bellowsStart (n : Nat) (kind : Nat) (a : Nat)
  /-- The speculative map completes by T − 40 µs and streams to the Hardy pre-check and the receiver pre-arm. (R147) -/
  | speculativeMapComplete (n : Nat)
  /-- At T − 6.0 µs the engine reconciles reports decoded before the cut, recomputes steps 3–5 and lays out the confirmed map. (R17) -/
  | confirmationCut (n : Nat)
  /-- Each confirmed grant arriving at the Hardy is checked against rules 1–7 and kept or removed. (R160) -/
  | grantCheck (n : Nat) (badParity : Bool)
  /-- At T − 3.0 µs an incomplete confirmed stream makes the map unusable and the fallback is used. (R20) -/
  | reconciliationDeadline (n : Nat)
  /-- At T − 1.5 µs the checked map is handed to the framer and mirror, and the cycle ends. (R16) -/
  | mapHandover (n : Nat)
  /-- At T − 0.5 µs the framer takes the handed-over map or sends the empty map, and freezes PLOAM selection. (R61) -/
  | mapDeadline (n : Nat) (badCrc : Bool)
  /-- Every 1 µs the framer samples its TXDIS land and counts mismatch events against the commanded level. (R76) -/
  | txdisSample (n : Nat) (level : Bool)
  /-- Writing RX_EN = 0 lets a burst in PAYLOAD close, discards other slots and holds BRST high. (R99) -/
  | rxDisable (b : By) (n : Nat) (v : Nat)
  /-- An armed burst enters LOCK at its expected guard start, making the recalled tap bank live. (R95) -/
  | burstLockStart (n : Nat) (slotk : Nat)
  /-- The delimiter search window opens at D − WIN_MARGIN. (R93) -/
  | searchWindowOpen (n : Nat) (slotk : Nat) (locked : Bool)
  /-- A delimiter match in the window leads to header decode, acceptance, or resumption of search. (R94) -/
  | delimiterMatch (n : Nat) (slotk : Nat) (bits : Nat) (hdr : Nat) (id : Nat) (err : Int) (gasp : Bool)
  /-- The search window closes without acceptance and the burst closes from SEARCH. (R95) -/
  | searchWindowClose (n : Nat) (slotk : Nat) (locked : Bool)
  /-- The last granted block is received and the burst moves to CLOSE. (R95) -/
  | burstPayloadEnd (n : Nat) (slotk : Nat) (ffe : Nat) (dfe : Nat) (dc : Nat) (freq : Nat) (gain : Nat) (thresh : Nat) (phase : Nat)
  /-- After each burst the receiver drives a BRST pulse, or omits it when too little time remains. (R99) -/
  | brstPulse (n : Nat) (slotk : Nat)
  /-- An upstream FEC codeword finishes decoding, yielding XGEM frames, DBRu and BIP counts. (R96) -/
  | fecCodewordDecode (n : Nat) (slotk : Nat) (corr : Nat) (bad : Bool) (bip : Nat) (items : List UsItem)
  /-- An idle span of at least IDLE_MIN blocks is listened to for energy. (R100) -/
  | idleSpanListen (n : Nat) (k : Nat) (amp : Nat) (dur : Nat) (found : Option (Nat × Nat × Nat))
  /-- Every PERIOD_MS while discovery is pending the sequencer opens a discovery window. (R108) -/
  | discoveryWindowOpen (n : Nat)
  /-- A serial-number burst whose header and message check is accepted and handled by Table RNG-1. (R111) -/
  | snBurstAccept (n : Nat) (bits : Nat) (hdr : Nat) (id : Nat) (serial : Nat) (rnd : Nat) (err : Int) (bytes : List Byte) (mic : Nat)
  /-- A discovery window ends, counting a collision if energy was seen without an accepted serial number. (R112) -/
  | discoveryWindowEnd (n : Nat) (amp : Nat) (dur : Nat)
  /-- An entry DISCOVERED for 1,000 ms without AUTH returns to EMPTY. (R116) -/
  | discoveredTimeout (n : Nat) (j : Nat)
  /-- An accepted ranging burst yields RTD and EqD and a Ranging_Time message, or confirms the ONU into OPERATING. (R118) -/
  | rangingBurstAccept (n : Nat) (slotk : Nat)
  /-- The ONU acknowledges Ranging_Time, starting confirmation or resuming drift sampling. (R118) -/
  | rangingTimeAck (n : Nat) (j : Nat) (bytes : List Byte) (mic : Nat)
  /-- An unacknowledged Ranging_Time is re-sent after 8 frames, failing after RANGE_TRIES sends. (R118) -/
  | rangingAckTimeout (n : Nat) (j : Nat)
  /-- TE_ONU_CMD AUTHORISE sets AUTH and moves a DISCOVERED entry to RANGING at commit. (R127) -/
  | onuAuthorise (b : By) (n : Nat) (v : Nat)
  /-- TE_ONU_CMD RERANGE moves an OPERATING or DRIFTING ONU to RANGING at commit. (R127) -/
  | onuRerange (b : By) (n : Nat) (v : Nat)
  /-- TE_ONU_CMD DEACTIVATE moves the ONU to LOST with Deactivate_ONU-ID at commit. (R127) -/
  | onuDeactivate (b : By) (n : Nat) (v : Nat)
  /-- TE_ONU_CMD DISABLE moves the ONU to DISABLED with Disable_Serial_Number at commit. (R127) -/
  | onuDisable (b : By) (n : Nat) (v : Nat)
  /-- TE_ONU_CMD ENABLE moves a DISABLED or ISOLATED ONU to LOST at commit. (R127) -/
  | onuEnable (b : By) (n : Nat) (v : Nat)
  /-- TE_ONU_CMD RELEASE clears a DISCOVERED, LOST or DISABLED entry to EMPTY at commit. (R127) -/
  | onuRelease (b : By) (n : Nat) (v : Nat)
  /-- TE_ONU_CMD HUNT_ABORT ends a running rogue hunt at its next commit and releases hunt-isolated entries. (R125) -/
  | huntAbort (b : By) (n : Nat) (v : Nat)
  /-- After HUNT_OBS frames of listening a hunt round halves the suspects or resolves the hunt. (R124) -/
  | huntRoundEnd (n : Nat)
  /-- Writing TRACE_EN starts or stops the run-ahead trace and resets its count. (R152) -/
  | traceEnable (b : By) (v : Nat)
  /-- HY_SAFE_CMD enter, or a lasting grant-violation class, puts a tree in safe-map mode at the next handover. (R167) -/
  | safeEnter (b : By) (v : Nat)
  /-- HY_SAFE_CMD exit returns the tree to checking the engine's map from the next handover. (R169) -/
  | safeExit (b : By) (v : Nat)
  /-- A BD_GROUP write setting SIZE in an empty slot forms a bonded group and copies the group port's settings. (R176) -/
  | groupForm (b : By) (gs : Nat) (e : Nat)
  /-- A BD_GROUP write of SIZE = 0 dissolves the group with every member's framer off. (R178) -/
  | groupDissolve (b : By) (gs : Nat)
  /-- A BD_GROUP write changing LINE_MODE applies the mode to every member. (R178) -/
  | groupLineMode (b : By) (gs : Nat) (mode : Nat)
  /-- BD_CMD DOWN takes a bonded member DOWN at the next handover. (R189) -/
  | memberDown (b : By) (v : Nat)
  /-- BD_CMD RESTORE moves a DOWN member to PROBING. (R189) -/
  | memberRestore (b : By) (v : Nat)
  /-- BD_CMD REMEASURE schedules skew probes for an ONU on the group's members. (R185) -/
  | skewRemeasure (b : By) (v : Nat)
  /-- After RESTORE_MS without causes a DOWN member moves to PROBING. (R189) -/
  | memberRestoreTimeout (gs : Nat) (ms : Nat)
  /-- A downstream packet of a bonded group is cut into fragments assigned to the members with most free bytes. (R181) -/
  | dsFragmentDistribute (gs : Nat)
  /-- An upstream bonding fragment is delivered in SEQ order or held for reordering. (R188) -/
  | usFragmentReceive (gs : Nat)
  /-- A fragment waiting SKEW_MAX_US for its predecessor declares the missing numbers lost and discards their packets. (R188) -/
  | fragmentWaitTimeout (gs : Nat) (a : Nat)
  /-- Every OAM_PERIOD_US the degraded or cleared template is sent on the group's uplink. (R192) -/
  | oamTemplateSend (gs : Nat)
  /-- No edge on PROT_HOLD_IN for 3 µs, together with RELEASE or silence, leads the module to take control. (R196) -/
  | holdGapDetect (k : Nat) (edges : Bool) (agree : Bool)
  /-- After 4.0 µs without an edge the hold toggle resumes. (R197) -/
  | holdGapEnd (k : Nat)
  /-- Every 1.0 µs, or at once on a code change, a PROTECTION cell is sent. (R202) -/
  | protectionCellSend (k : Nat)
  /-- A PROTECTION cell updates the peer's codes, requests and epoch for each tree. (R202) -/
  | protectionCellReceive (k : Nat) (header : Nat) (payload : List Byte)
  /-- No valid PROTECTION cell from the peer for 8 µs makes the link silent. (R201) -/
  | linkSilent (k : Nat)
  /-- Every 10 µs a TIME cell carries the frame timebase and an echo. (R203) -/
  | timeCellSend (k : Nat)
  /-- A TIME cell updates the one-way delay in PX_LINK_DELAY. (R203) -/
  | timeCellReceive (k : Nat) (header : Nat) (payload : List Byte)
  /-- A complete mirror record with fitting CRC and consecutive SFC is applied at the standby. (R209) -/
  | mirrorRecordApply (k : Nat) (cells : List (Nat × List Byte))
  /-- A record not applied by T + 14.0 µs is discarded and the tree goes to STANDBY_NR with resync. (R209) -/
  | mirrorDeadline (n : Nat)
  /-- Fewer than 16 accepted bursts within 1,024 frames fails acquisition and restarts it later. (R211) -/
  | acquisitionTimeout (n : Nat)
  /-- PX_REQ CLEAR removes the local switch request. (R214) -/
  | reqClear (b : By) (v : Nat)
  /-- PX_REQ LOCKOUT keeps or returns control at home. (R214) -/
  | reqLockout (b : By) (v : Nat)
  /-- PX_REQ FORCED moves control to the non-home whatever its readiness. (R214) -/
  | reqForced (b : By) (v : Nat)
  /-- PX_REQ MANUAL moves control to the non-home if it shows READY. (R214) -/
  | reqManual (b : By) (v : Nat)
  /-- PX_REQ EXERCISE makes one marked hold gap without RELEASE and awaits EX_SEEN. (R214) -/
  | reqExercise (b : By) (v : Nat)
  /-- An exercise without EX_SEEN within 16 µs fails. (R214) -/
  | exerciseTimeout (n : Nat)
  /-- WTR_S elapsed in WTR makes the home send REVERT_REQ. (R215) -/
  | wtrExpiry (n : Nat)
  /-- A non-home in INIT with the link silent for START_MS takes the tree. (R196) -/
  | startTimeout (n : Nat)
  /-- Hold and cell indications disagreeing for 1 ms raise HOLD_FAULT. (R218) -/
  | holdFault (k : Nat)
  /-- A PX_ROLE write sets a tree's protection mode, link, home and peer with framer and receiver off. (R216) -/
  | pxRoleWrite (b : By) (n : Nat) (e : Nat)
  /-- A host-to-host message arrives over MESSAGE cells and is delivered to T0's ring. (R216) -/
  | aztilMessageReceive (k : Nat) (cells : List (Nat × List Byte))
  /-- A downstream frame from an uplink MAC is parsed, walked and given an action and target. (R227) -/
  | dsFrameClassify (u : Nat) (badNode : Option Nat) (badFlow : Option Nat)
  /-- An upstream XGEM frame is matched to its flow by tree and port-ID, then classified under the flow's profile. (R220) -/
  | usFrameClassify (n : Nat) (badNode : Option Nat) (badFlow : Option Nat)
  /-- A CL_PROFILE write completes once every walk begun under the previous entry has ended. (R229) -/
  | clProfileDrainDone
  /-- A classification result takes a buffer from its account and pool and enqueues its holders after the tag check. (R252) -/
  | bufferAdmit (desc : Nat) (damaged : Bool)
  /-- A holder's RELEASE request is resolved under Table BUF-4. (R246) -/
  | releaseRequest (handle : Nat) (tag : Nat) (damaged : Bool) (more : Bool)
  /-- A FREE request is resolved under Table BUF-4, returning the buffer when the last owner frees it. (R246) -/
  | freeRequest (handle : Nat) (tag : Nat) (damaged : Bool) (more : Bool)
  /-- The slack tub takes a refused reference, logs it and returns it as a RELEASE. (R249) -/
  | slackTubReceive
  /-- A root asking for its next frame selects down the hierarchy by smallest finish tag and dequeues it. (R263) -/
  | dequeueSelect (root : Nat) (damaged : Bool)
  /-- Module time reaching a head frame's launch time clears LAUNCH_WAIT. (R262) -/
  | launchTimeReached (a : Nat)
  /-- SC_CMD FLUSH releases every frame held by the queue at acceptance. (R270) -/
  | flush (b : By) (v : Nat)
  /-- A flush completes, STAT returns to 0 and FLUSH_DONE is raised. (R270) -/
  | flushDone
  /-- Each queue is sampled once per PERIOD_US for depth and head delay. (R275) -/
  | latencySample (q : Nat)
  /-- A downstream XGEM payload of an encrypted flow is encrypted in counter mode with the pair's downstream key. (R282) -/
  | dsEncrypt (n : Nat) (badCtx : Bool) (badData : Bool)
  /-- An upstream XGEM frame is decrypted under the context named by its key index and then policed. (R290) -/
  | usDecrypt (n : Nat) (badCtx : Bool)
  /-- After a key switch the engine's scan of all flow queues clears PAUSED on the pair's flows. (R288) -/
  | pauseScanDone (pair : Nat)
  /-- A tenant job CFB-128 encrypts the source buffer. (R293) -/
  | jobCfbEncrypt (f : Nat) (key : Nat) (len : Nat) (addr : Nat) (src : List Byte) (aux : List Byte) (dmaErr : Bool)
  /-- A tenant job CFB-128 decrypts the source buffer. (R293) -/
  | jobCfbDecrypt (f : Nat) (key : Nat) (len : Nat) (addr : Nat) (src : List Byte) (aux : List Byte) (dmaErr : Bool)
  /-- A tenant job generates a CMAC code over the source buffer. (R293) -/
  | jobCmacGenerate (f : Nat) (key : Nat) (len : Nat) (addr : Nat) (src : List Byte) (aux : List Byte) (dmaErr : Bool)
  /-- A tenant job verifies a CMAC code over the source buffer. (R293) -/
  | jobCmacVerify (f : Nat) (key : Nat) (len : Nat) (addr : Nat) (src : List Byte) (aux : List Byte) (dmaErr : Bool)
  /-- A job completes, its status is written, CI advances and JOB_DONE or JOB_ERR is set. (R293) -/
  | jobComplete (f : Nat) (badOp : Bool)
  /-- A tenant writes its job queue PI, refused when the ring would overflow. (R293) -/
  | jobqPiWrite (b : By) (f : Nat) (v : Nat)
  /-- A function-level reset of one function stops its rings and job queue. (R307) -/
  | functionLevelReset (f : Nat)
  /-- A function-level reset completes: epoch incremented, FLR_BUSY cleared, FLR_DONE raised. (R307) -/
  | flrDone (f : Nat)
  /-- TM_TOD_CMD SET makes TM_TOD_SET the new module time. (R314) -/
  | todSet (b : By) (v : Nat)
  /-- TM_TOD_CMD STEP adds a signed offset to module time. (R314) -/
  | todStep (b : By) (v : Nat)
  /-- A read of TM_TOD0 latches TM_TOD1 and TM_TOD2 for the reading function. (R313) -/
  | todRead (b : By)
  /-- A read of TE_SFC_LO latches the high superframe bits for the reading function. (R59) -/
  | sfcLoRead (b : By) (n : Nat)
  /-- The nanosecond field wrapping, or a step across a second, emits a tick that latches the counter shadows. (R315) -/
  | oneSecondTick
  /-- A host write of TM_OFS_IN gives the servo one offset sample. (R316) -/
  | hostOffsetSample (b : By) (v : Nat)
  /-- A matching Sync gives a hardware offset sample or waits for its Follow_Up. (R318) -/
  | ptpSyncReceive (u : Nat) (transport : Nat) (version : Nat) (domain : Nat) (clockId : Nat) (portNum : Nat) (seq : Nat) (twoStep : Bool) (sec : Nat) (ns : Nat) (corr : Nat)
  /-- A Follow_Up completes a two-step Sync pair into a servo sample. (R318) -/
  | ptpFollowUpReceive (u : Nat) (transport : Nat) (version : Nat) (domain : Nat) (clockId : Nat) (portNum : Nat) (seq : Nat) (sec : Nat) (ns : Nat) (corr : Nat)
  /-- No sample for TIMEOUT_MS sets FREERUN and holds I and y. (R319) -/
  | servoTimeout
  /-- Each 1 s gate measures XTAL_A against REFCLK into TM_XTAL_PPB. (R320) -/
  | xtalGate (v : Nat)
  /-- A read of TM_TSQ pops the head transmit-timestamp entry and latches its time. (R323) -/
  | tsqPop (b : By) (u : Nat)
  /-- A write of LN_PSTATE.TARGET requests a lane power-state change. (R339) -/
  | pstateRequest (b : By) (l : Nat) (v : Nat)
  /-- A lane's power-state transition completes and PSTATE_DONE is raised when STATE reaches TARGET. (R339) -/
  | pstateTransitionDone (l : Nat)
  /-- After 1,024 clean cycles a domain shows CLK_GOOD. (R357) -/
  | clkGoodRise (m : Nat)
  /-- Writing RESTART runs full receive adaptation on a continuous lane. (R336) -/
  | adaptRestart (b : By) (l : Nat) (v : Nat)
  /-- Full adaptation converges and the lane tracks. (R336) -/
  | adaptDone (l : Nat)
  /-- Adaptation not converged within 5 ms reads FAILED and retries. (R336) -/
  | adaptFail (l : Nat) (present : Bool)
  /-- Writing INJ inverts LEN consecutive generator bits. (R343) -/
  | prbsInject (b : By) (l : Nat) (v : Nat)
  /-- Writing CLR clears both PRBS counters. (R342) -/
  | prbsClear (b : By) (l : Nat) (v : Nat)
  /-- More than 512 errors in 4,096 bits loses checker lock and reseeds it. (R342) -/
  | prbsLost (l : Nat) (bits : Nat) (errs : Nat)
  /-- A read of a PRBS low word latches its high word. (R342) -/
  | prbsErrLoRead (b : By) (l : Nat) (total : Bool) (bits : Nat) (errs : Nat)
  /-- A frame received on an uplink port is passed to the classifier or discarded and counted. (R349) -/
  | ulFrameReceive (u : Nat) (bytes : List Byte) (marked : Bool) (corr : Nat) (unc : Nat) (syms : Nat)
  /-- The MAC pads, appends FCS and transmits a frame, stamping it where asked. (R350) -/
  | ulFrameTransmit (u : Nat) (held : Bool) (badData : Bool)
  /-- Alignment without faults held for LINK_UP_MS raises LINK_UP. (R348) -/
  | linkUp (u : Nat)
  /-- Loss of alignment or a fault drops LINK_UP within 1 µs. (R348) -/
  | linkDown (u : Nat) (aligned : Bool) (lf : Bool) (rf : Bool) (trunc : Bool)
  /-- Four good count windows detect REFCLK and move REFL to ACQ_R. (R356) -/
  | refclkDetect (refRate : Nat)
  /-- Loss of REFCLK moves REFL to HOLDOVER and TM to XTAL_A with holdover compensation. (R360) -/
  | refclkLoss
  /-- REFL reaching LOCKED_R moves TM to source 17 and ends holdover. (R360) -/
  | reflLock
  /-- A failure of FOSC, XTAL_A or a loop forces TXDIS and BRST high, stops toggles and dependent domains, and drives FAULT_N. (R371) -/
  | clockFailure (src : Nat) (dead : Bool)
  /-- An XTAL_B failure moves AON to SOSC. (R366) -/
  | xtalBFailure (dead : Bool)
  /-- XTAL_B passing 100 consecutive windows returns AON to it. (R366) -/
  | xtalBReturn
  /-- SYS first locking after reset moves FAB from FOSC to SYS. (R366) -/
  | sysLock
  /-- A write of CK_DOMAIN_CTRL.SRC starts a glitch-free source switch. (R364) -/
  | sourceSwitch (b : By) (m : Nat) (src : Nat)
  /-- The first pulse from the new source arrives and BUSY clears. (R364) -/
  | sourceSwitchDone (m : Nat)
  /-- An old source without edges forces the multiplexer to the new source. (R365) -/
  | deadSource (m : Nat) (newDead : Bool)
  /-- Writing GATE = 1 holds the block's inputs and waits for its bus to go idle. (R367) -/
  | gateRequest (b : By) (m : Nat)
  /-- The block goes idle within 256 cycles and its clock is stopped. (R367) -/
  | gateComplete (m : Nat)
  /-- The block not idle within 256 cycles releases its inputs and records a timeout. (R367) -/
  | gateTimeout (m : Nat)
  /-- Writing GATE = 0 restarts the clock, access returning after CLK_GOOD. (R369) -/
  | ungate (b : By) (m : Nat)
  /-- Writing CK_FAIL.FAIL = 1 with clocks good restarts stopped domains and releases forced outputs. (R373) -/
  | clockFailClear (b : By) (v : Nat) (locked : Nat) (xtalA : Bool)
  /-- A feed's voltage crosses a classification threshold, changing its state and carrying feed. (R377) -/
  | feedStateChange (feed : Nat) (mag : Nat) (rev : Bool)
  /-- A feed at 35.0 V or more for 1 ms becomes usable. (R377) -/
  | feedUsable (feed : Nat)
  /-- The higher feed below 33.0 V for 2 µs starts the last-word sequence of quench, release and record. (R380) -/
  | lastWordStart (magA : Nat) (magB : Nat) (lid : Nat)
  /-- The last-word record is programmed and verified. (R380) -/
  | lastWordRecordDone
  /-- The hold-up store reaches charge and HOLDUP_OK rises, or falls when it is lost. (R381) -/
  | holdupOk (ok : Bool)
  /-- The spare last-word sector is erased and the store charged, setting ARMED. (R383) -/
  | lwArmed
  /-- A feed becoming usable after both were unusable runs a cold reset. (R384) -/
  | powerOnReset (retain : Bool)
  /-- A recognised low pulse on RST_N starts a cold or warm reset and holds the pins. (R388) -/
  | rstNAssert
  /-- RST_N high for 1 µs ends the reset and starts the release sequence. (R388) -/
  | rstNRelease
  /-- A PCIe hot or link-down reset resets domain HI, or the module when HOT_WARM = 1. (R384) -/
  | pcieHotReset
  /-- RS_RESET_CTRL OP 1 starts a cold reset. (R398) -/
  | resetCold (b : By) (v : Nat)
  /-- RS_RESET_CTRL OP 2 starts a warm reset. (R398) -/
  | resetWarm (b : By) (v : Nat)
  /-- RS_RESET_CTRL OP 3 starts a domain-scope reset. (R398) -/
  | resetDomain (b : By) (v : Nat)
  /-- RS_RESET_CTRL OP 4 releases a domain held by escalation and ends the holding units. (R398) -/
  | releaseEscalated (b : By) (v : Nat)
  /-- A domain-scope reset completes and BUSY clears. (R386) -/
  | domainResetDone (m : Nat)
  /-- The release sequence releases its next step once that step's condition and CLK_GOOD hold. (R386) -/
  | releaseStep
  /-- Writing KICK restarts the watchdog count. (R393) -/
  | watchdogKick (b : By) (v : Nat)
  /-- 75% of PERIOD_MS without a kick raises WDT_WARN. (R393) -/
  | watchdogWarn
  /-- The whole period without a kick resets the module. (R393) -/
  | watchdogExpiry
  /-- RS_CAL_CMD COMMIT writes RS_CAL_IMG to the other calibration bank. (R395) -/
  | calCommit (b : By) (v : Nat)
  /-- RS_CAL_CMD RELOAD replaces RS_CAL_IMG with the active bank. (R395) -/
  | calReload (b : By) (v : Nat)
  /-- A commit completes with its verify mark written, or fails verify. (R395) -/
  | calDone (ok : Bool)
  /-- A recognised fall of QUENCH_N withdraws key B for every tree and clears QREL. (R403) -/
  | quenchNAssert
  /-- Writing QREL = 1 releases the quench when its conditions hold. (R403) -/
  | qrelWrite (b : By) (v : Nat)
  /-- A supervisor core mismatch withdraws key B, stops the toggles and drives FAULT_N. (R405) -/
  | lockstepMismatch (sig : Nat)
  /-- Writing CMP_TEST forces a shadow difference to check the comparator. (R406) -/
  | cmpTest (b : By) (v : Nat)
  /-- The comparator check completes, setting CMP_OK or reporting class 54. (R406) -/
  | cmpTestDone (ok : Bool)
  /-- A PROT_HOLD_OUT land disagreeing with its command for 3 µs reports class 57. (R407) -/
  | holdOutputMismatch (k : Nat)
  /-- Every 1 ms each thermal sensor is sampled and reported against classes 11 to 13. (R416) -/
  | thermalSample (sensor : Nat) (temp : Nat)
  /-- An event reported to FT counts in its window and may make the unit lasting and apply its action. (R410) -/
  | faultEvent (cls : Nat) (unit : Nat) (onu : Option Nat) (detail : Nat)
  /-- A window closes after W, ending it as transient if below N. (R410) -/
  | faultWindowClose (cls : Nat) (unit : Nat)
  /-- A whole W without an event ends a lasting log, interrupt or give-up unit. (R411) -/
  | lastingExpiry (cls : Nat) (unit : Nat)
  /-- A coalescing interval ends and one KIND 1 event record is written. (R417) -/
  | coalIntervalEnd (cls : Nat) (unit : Nat)
  /-- FT_CMD CLEAR ends a lasting unit and withdraws its action. (R411) -/
  | ftClear (b : By) (v : Nat)
  /-- FT_CMD INJECT counts one event exactly as a report would. (R421) -/
  | ftInject (b : By) (v : Nat)
  /-- A host write of a TX ring PI makes new descriptors available to the module. (R429) -/
  | txRingDoorbell (b : By) (f : Nat) (r : Nat) (v : Nat)
  /-- A host write of an RX ring CI consumes messages and frees descriptors. (R429) -/
  | rxRingConsume (b : By) (f : Nat) (x : Nat) (v : Nat) (lens : List Nat)
  /-- A class 1 TX descriptor injects a frame into a flow queue without classification. (R433) -/
  | txFlowFrame (f : Nat) (r : Nat) (target : Nat) (bytes : List Byte) (tsMode : Nat) (tsId : Nat) (tsOfs : Nat) (udpOfs : Nat) (launch : Bool) (pSec : Nat) (pNs : Nat)
  /-- A class 2 TX descriptor injects a frame into an aggregate, with optional timestamp and launch. (R433) -/
  | txAggFrame (f : Nat) (r : Nat) (target : Nat) (bytes : List Byte) (tsMode : Nat) (tsId : Nat) (tsOfs : Nat) (udpOfs : Nat) (launch : Bool) (pSec : Nat) (pNs : Nat)
  /-- A class 3 TX descriptor submits a PLOAM body for a tree. (R433) -/
  | txPloam (f : Nat) (r : Nat) (target : Nat) (len : Nat) (onuId : Nat) (type : DsPloamType) (body : List Byte) (stamp : Bool)
  /-- A class 4 TX descriptor sends an OMCI message with integrity code and trailer check. (R433) -/
  | txOmci (f : Nat) (r : Nat) (target : Nat) (bytes : List Byte) (stamp : Bool)
  /-- A class 5 TX descriptor sends a host-to-host message over an Aztil link. (R433) -/
  | txAztilMessage (f : Nat) (r : Nat) (target : Nat) (bytes : List Byte) (stamp : Bool)
  /-- A host aggregate frame is dequeued into a free class-2 RX descriptor of its function. (R436) -/
  | hostAggDequeue (f : Nat) (badData : Bool) (damaged : Bool)
  /-- A DMA completing with an error stops the ring and logs HI_ERR code 8. (R430) -/
  | dmaError (f : Nat) (slot : Nat) (i : Nat) (isRead : Bool) (canWrite : Bool)
  /-- COAL_US after the first unsignalled completion sends the ring's MSI-X message. (R431) -/
  | ringCoalesceTimeout (f : Nat) (slot : Nat)
  /-- A change of HI_LINK.L0 raises LINK_CHG and a link-down reports class 53. (R445) -/
  | pcieLinkChange (up : Bool) (rate : Nat) (width : Nat)
  /-- A read of HI_ERR_CNT returns and clears the count of logged errors. (R437) -/
  | hiErrCntRead (b : By)
  /-- A read of HI_OMCI_DROP returns and clears the count of unpathed OMCI drops. (R444) -/
  | hiOmciDropRead (b : By)
  /-- Writing PM_SNAP_CMD.SNAP copies and clears a counter group and records the time. (R440) -/
  | pmSnap (b : By) (g : Nat) (v : Nat)
  /-- A read of a PM counter or snapshot low word latches its high word for the reader. (R440) -/
  | pmCntLoRead (b : By) (g : Nat) (c : Nat) (snap : Bool)
  /-- Writing CV_CTRL.ALG selects the algorithm and sets CV_INIT. (R443) -/
  | cvAlgWrite (b : By) (cv : Nat) (v : Nat)
  /-- Writing START loads the check register from CV_INIT and zeroes BYTES. (R443) -/
  | cvStart (b : By) (cv : Nat) (v : Nat)
  /-- A write of CV_DATA8 feeds one byte to the check unit. (R443) -/
  | cvData8 (b : By) (cv : Nat) (v : Nat)
  /-- A write of CV_DATA16 feeds two bytes to the check unit. (R443) -/
  | cvData16 (b : By) (cv : Nat) (v : Nat)
  /-- A write of CV_DATA32 feeds four bytes to the check unit. (R443) -/
  | cvData32 (b : By) (cv : Nat) (v : Nat)
  /-- A read of CV_STAT returns and clears the path trailer failure count. (R444) -/
  | cvStatRead (b : By) (cv : Nat)
  /-- QUENCH_N returns high, clearing QUENCH_PIN and starting the 1 µs high time that a later QREL write requires. (R403) -/
  | quenchNRelease
  /-- The PRBS checker declares lock after 64 consecutive matching bits and begins counting compared and errored bits. (R342) -/
  | prbsLock (l : Nat)
  /-- The last inverted bit of an injection leaves the generator and PENDING falls. (R343) -/
  | prbsInjectDone (l : Nat)
  /-- SOSC shows no edge for 200 µs or counts outside its band against FOSC, and CK_STAT.SOSC_OK falls. (R355) -/
  | soscFailure
  /-- A two-wire bus controller sees a transfer without acknowledge, or a line held low for more than 10 ms, and reports class 52. (R416) -/
  | opticBusError (bus : Nat)
  /-- An uncorrectable PCIe error is logged in HI_ERR with code 9 and reported under class 53. (R437) -/
  | pcieUncorrectableError
  /-- Total input current of 10,000 mA or more held for 10 ms reports class 56. (R416) -/
  | inputCurrentHigh (cur : Nat)
  /-- The peer's acknowledgement of a consumed host-to-host message, or its drop for length, reaches the sender, which completes the class 5 descriptor and frees one of its 64 unacknowledged slots. (R216) -/
  | aztilMessageAck (k : Nat) (id : Nat) (dropped : Bool)
  deriving DecidableEq, Repr

end Sys2Proof
end

