-- ==== Sys2Proof/Decode.lean ====
section
/-! DEFINITION. The command that a table word spells.  No row of the table of operations and events gives bits: the
commands are accesses and events, not encodings. -/

namespace Sys2Proof

/-- No word spells a command. -/
def decodeTableWord (_nbits _w : Nat) : Option Instr := none

end Sys2Proof
end

