-- ==== Sys2Proof/Machine/Aes.lean ====
section
/-! DEFINITION. The block cipher that the spec names and does not restate (chapter 13, "AES"): AES-128 and AES-256
encryption of one block, as FIPS 197 defines it (PRESUMED, log 4).  Bytes are numbers below 256, a block is 16 of them
in order. -/

namespace Sys2Proof.Machine

/-- The S-box, 32 entries to the number, entry 0 in the top byte. -/
def sboxRow : Nat → Nat
  | 0 => 0x637c777bf26b6fc53001672bfed7ab76ca82c97dfa5947f0add4a2af9ca472c0
  | 1 => 0xb7fd9326363ff7cc34a5e5f171d8311504c723c31896059a071280e2eb27b275
  | 2 => 0x09832c1a1b6e5aa0523bd6b329e32f8453d100ed20fcb15b6acbbe394a4c58cf
  | 3 => 0xd0efaafb434d338545f9027f503c9fa851a3408f929d38f5bcb6da2110fff3d2
  | 4 => 0xcd0c13ec5f974417c4a77e3d645d197360814fdc222a908846eeb814de5e0bdb
  | 5 => 0xe0323a0a4906245cc2d3ac629195e479e7c8376d8dd54ea96c56f4ea657aae08
  | 6 => 0xba78252e1ca6b4c6e8dd741f4bbd8b8a703eb5664803f60e613557b986c11d9e
  | _ => 0xe1f8981169d98e949b1e87e9ce5528df8ca1890dbfe6426841992d0fb054bb16

/-- SubBytes on one byte. -/
def sbox (x : Nat) : Nat := sboxRow (x / 32) / 256 ^ (31 - x % 32) % 256

/-- Multiplication by x in the field of the cipher. -/
def xtime (b : Nat) : Nat := if b < 128 then 2 * b else (2 * b % 256) ^^^ 0x1b

/-- The round constant of a step: x to the power `k`. -/
def rcon : Nat → Nat
  | 0 => 1
  | k + 1 => xtime (rcon k)

/-- Bytes combined pairwise. -/
def xorBytes (a b : List Nat) : List Nat := List.zipWith (fun x y => x ^^^ y) a b

/-- SubBytes and ShiftRows: row `r` of column `c` comes from column `c + r`. -/
def subShift (s : List Nat) : List Nat := (List.range 16).map (fun i => sbox (s.getD ((i + 4 * (i % 4)) % 16) 0))

/-- MixColumns. -/
def mixColumns (s : List Nat) : List Nat :=
  (List.range 16).map (fun i =>
    let at_ := fun k => s.getD (i / 4 * 4 + (i + k) % 4) 0
    xtime (at_ 0) ^^^ (xtime (at_ 1) ^^^ at_ 1) ^^^ at_ 2 ^^^ at_ 3)

/-- The key expansion, newest word first: `k` more words after the `i` of `w`, for a key of `nk` words. -/
def expandKey (nk : Nat) : Nat → Nat → List (List Nat) → List (List Nat)
  | 0, _, w => w
  | k + 1, i, w =>
    let t := w.headD []
    let u := if i % nk = 0 then xorBytes ((t.drop 1 ++ t.take 1).map sbox) [rcon (i / nk - 1), 0, 0, 0]
             else if nk = 8 ∧ i % 8 = 4 then t.map sbox
             else t
    expandKey nk k (i + 1) (xorBytes (w.getD (nk - 1) []) u :: w)

/-- The low `n` bytes of a number, most significant first. -/
def numBytes (n v : Nat) : List Nat := (List.range n).map (fun j => v / 256 ^ (n - 1 - j) % 256)

/-- The words of a key, newest first. -/
def keyWords (nk key : Nat) : List (List Nat) := (List.range nk).reverse.map (fun j => numBytes 4 (key / 2 ^ (32 * (nk - 1 - j))))

/-- The rounds after the first key: every one mixes columns but the last. -/
def aesRounds : List (List Nat) → List Nat → List Nat
  | [], s => s
  | [k], s => xorBytes (subShift s) k
  | k :: t, s => aesRounds t (xorBytes (mixColumns (subShift s)) k)

/-- The round keys of 16 bytes, in order. -/
def roundKeys (n : Nat) (w : List (List Nat)) : List (List Nat) :=
  (List.range n).map (fun r => ((w.drop (4 * r)).take 4).flatten)

/-- One block encrypted: ALG 0 AES-128 with a 128-bit key, 1 AES-256 with a 256-bit key (Table CPH–1). -/
def aes (alg key block : Nat) : Nat :=
  let nk := if alg = 0 then 4 else 8
  let ks := roundKeys (nk + 7) (expandKey nk (4 * (nk + 7) - nk) nk (keyWords nk key)).reverse
  let s0 := xorBytes (numBytes 16 block) (ks.headD [])
  (aesRounds (ks.drop 1) s0).foldl (fun v b => v * 256 + b) 0

end Sys2Proof.Machine
end

