-- ==== Sys2Proof/Config.lean ====
section
/-! DEFINITION. What one part of the module fixes and the spec leaves open: constants without a body, so that nothing
can evaluate them and no proof can lean on a value of them. -/

namespace Sys2Proof.Config

/-- A free value: where the spec states an effect but not the value, the step takes `freeNat` of the counter
`Dev.freeCtr`, which it advances.  DESIGN CHOICE, log 1. -/
opaque freeNat : Nat → Nat

/-- Whether this part is the ILP-HE48-T: GL_ID.ORDER has no code but 0 and 1 (R1, Table REG–14 "Per part").
DESIGN CHOICE, log 2. -/
opaque orderT : Bool
/-- GL_REV.DIE_MAJOR of this die (Table REG–15).  DESIGN CHOICE, log 2. -/
opaque dieMajor : Nat
/-- GL_REV.DIE_MINOR of this die (Table REG–15).  DESIGN CHOICE, log 2. -/
opaque dieMinor : Nat
/-- GL_REV.ASSEMBLY of this module (Table REG–15).  DESIGN CHOICE, log 2. -/
opaque assembly : Nat

/-- The built-in calibration defaults of R394: word `w` of the image.  DESIGN CHOICE, log 3. -/
opaque calDefault : Nat → Nat

/-- The counter block that the recommendation in use defines for an unbonded tree, from the superframe count, the
direction (0 downstream), the position of the payload's first word in the frame and the block number (R282, R290).
DESIGN CHOICE, log 4. -/
opaque ctrBlock : Nat → Nat → Nat → Nat → Nat

/-- The type code on the wire of a message of Table DSF–3, by its place in the table: the recommendations give the codes
(R63).  DESIGN CHOICE, log 15. -/
opaque ploamCode : Nat → Nat

/-- The default PLOAM key that the engine holds built in (R291).  DESIGN CHOICE, log 4. -/
opaque ploamKey : Nat

/-- The 13-bit HEC of the recommendations over a header body, from the body's width in bits and its value (R54, R67).
DESIGN CHOICE, log 5. -/
opaque headerCheck : Nat → Nat → Nat

/-- The 8-byte PSync structure of a line mode (R54): the recommendations give it.  DESIGN CHOICE, log 5. -/
opaque psync : Nat → Nat

/-- The unit in which Ranging_Time carries an equalisation delay on a tree of a line mode, as a fraction: one UI is
`(eqdUnit mode).1 / (eqdUnit mode).2` units (R105: "the unit the recommendation defines").  DESIGN CHOICE, log 15. -/
opaque eqdUnit : Nat → Nat × Nat

/-- The CRC-32 of a mirror record's CFG_DIGEST over a list of register-field values: the spec names the fields and not
the order of their bytes (Table PRT–9).  DESIGN CHOICE, log 4. -/
opaque digest : List Nat → Nat

/-- The HBM stack that holds the buffer of a descriptor: the spec names two stacks and no assignment (R306).
DESIGN CHOICE, log 78. -/
opaque hbmStack : Nat → Nat

end Sys2Proof.Config
end

