-- ==== Sys2Proof/Machine/Fields.lean ====
section
/-! DEFINITION. The field maps of the spec: every field of every register page and of every indirect table, under
the spec's own names (`REGISTER.FIELD`, `TABLE.FIELD`), with its offset, its lowest bit, its width, its access code
(Table SCP–4) and its reset value.  A reserved field has no entry: it reads 0 and ignores writes (R6).  Where the
spec makes the reset value depend on the page or on the entry, `Sys2Proof/Machine/Space.lean` gives it. -/

namespace Sys2Proof.Machine

/-- The access codes of Table SCP–4 (R7). -/
inductive Acc
  | ro | rw | rwt | w1c | w1s | wo | rc | rws
  deriving DecidableEq, Repr

/-- One field of a register (byte offset `off` in its page) or of a table entry (`off = 0`): bits
`[lo + width - 1 : lo]`, with its access code and its reset value. -/
structure Fld where
  off : Nat
  lo : Nat
  width : Nat
  acc : Acc
  rst : Nat
  deriving DecidableEq, Repr


/-! PAGE_ID (Table REG–3) -/
abbrev PAGE_ID.BLOCK : Fld := ⟨0x0, 16, 16, .ro, 0⟩
abbrev PAGE_ID.INDEX : Fld := ⟨0x0, 8, 8, .ro, 0⟩
abbrev PAGE_ID.LAYOUT : Fld := ⟨0x0, 0, 8, .ro, 1⟩

/-! PAGE_CAP (Table REG–4) -/
abbrev PAGE_CAP.INSTANCE : Fld := ⟨0x4, 24, 8, .ro, 0⟩
abbrev PAGE_CAP.TABLES : Fld := ⟨0x4, 16, 8, .ro, 0⟩
abbrev PAGE_CAP.INT_SRC : Fld := ⟨0x4, 8, 8, .ro, 0⟩
abbrev PAGE_CAP.GRANTABLE : Fld := ⟨0x4, 3, 1, .ro, 0⟩
abbrev PAGE_CAP.GATEABLE : Fld := ⟨0x4, 2, 1, .ro, 0⟩
abbrev PAGE_CAP.SOFTRST : Fld := ⟨0x4, 1, 1, .ro, 0⟩
abbrev PAGE_CAP.QUIESCE : Fld := ⟨0x4, 0, 1, .ro, 0⟩

/-! PAGE_CTRL (Table REG–5) -/
abbrev PAGE_CTRL.SOFT_RST : Fld := ⟨0x8, 2, 1, .w1s, 0⟩
abbrev PAGE_CTRL.QUIESCE_REQ : Fld := ⟨0x8, 1, 1, .rw, 0⟩
abbrev PAGE_CTRL.EN : Fld := ⟨0x8, 0, 1, .rw, 0⟩

/-! PAGE_STAT (Table REG–6) -/
abbrev PAGE_STAT.IN_RESET : Fld := ⟨0xc, 3, 1, .ro, 1⟩
abbrev PAGE_STAT.CLK_GOOD : Fld := ⟨0xc, 2, 1, .ro, 0⟩
abbrev PAGE_STAT.BUSY : Fld := ⟨0xc, 1, 1, .ro, 0⟩
abbrev PAGE_STAT.QUIESCED : Fld := ⟨0xc, 0, 1, .ro, 0⟩

/-! ERR_FIRST (Table REG–8) -/
abbrev ERR_FIRST.CODE : Fld := ⟨0x20, 20, 12, .ro, 0⟩
abbrev ERR_FIRST.TIME : Fld := ⟨0x20, 0, 20, .ro, 0⟩

/-! ERR_COUNT (Table REG–9) -/
abbrev ERR_COUNT.COUNT : Fld := ⟨0x24, 0, 32, .rc, 0⟩

/-! TBL_SEL (Table REG–11) -/
abbrev TBL_SEL.TABLE : Fld := ⟨0x28, 0, 8, .rwt, 0⟩

/-! TBL_INDEX (Table REG–11) -/
abbrev TBL_INDEX.INDEX : Fld := ⟨0x2c, 0, 20, .rwt, 0⟩

/-! TBL_CMD (Table REG–11) -/
abbrev TBL_CMD.ARG : Fld := ⟨0x30, 16, 16, .rwt, 0⟩
abbrev TBL_CMD.OP : Fld := ⟨0x30, 0, 4, .rwt, 0⟩

/-! TBL_STAT (Table REG–11) -/
abbrev TBL_STAT.CODE : Fld := ⟨0x34, 8, 12, .ro, 0⟩
abbrev TBL_STAT.ERR : Fld := ⟨0x34, 4, 4, .ro, 0⟩
abbrev TBL_STAT.OVERRUN : Fld := ⟨0x34, 3, 1, .ro, 0⟩
abbrev TBL_STAT.DONE : Fld := ⟨0x34, 1, 1, .ro, 0⟩
abbrev TBL_STAT.BUSY : Fld := ⟨0x34, 0, 1, .ro, 0⟩

/-! PAGE_OWNER (Table REG–12) -/
abbrev PAGE_OWNER.VECTOR : Fld := ⟨0x80, 24, 6, .rws, 0⟩
abbrev PAGE_OWNER.OWNER : Fld := ⟨0x80, 16, 4, .rws, 0⟩
abbrev PAGE_OWNER.READ_MASK : Fld := ⟨0x80, 0, 16, .rws, 0⟩

/-! TN_SELF (Table REG–13) -/
abbrev TN_SELF.EPOCH : Fld := ⟨0x100, 4, 16, .ro, 0⟩
abbrev TN_SELF.TENANT : Fld := ⟨0x100, 0, 4, .ro, 0⟩

/-! TN_INT_SUMMARY (Table REG–13) -/
abbrev TN_INT_SUMMARY.SUM : Fld := ⟨0x104, 0, 32, .ro, 0⟩

/-! GL_ID (Table REG–14) -/
abbrev GL_ID.PART : Fld := ⟨0x100, 16, 16, .ro, 3656⟩
abbrev GL_ID.ORDER : Fld := ⟨0x100, 14, 2, .ro, 0⟩
abbrev GL_ID.DOMAIN_ID : Fld := ⟨0x100, 0, 10, .rws, 0⟩

/-! GL_REV (Table REG–15) -/
abbrev GL_REV.DIE_MAJOR : Fld := ⟨0x104, 24, 8, .ro, 0⟩
abbrev GL_REV.DIE_MINOR : Fld := ⟨0x104, 16, 8, .ro, 0⟩
abbrev GL_REV.ASSEMBLY : Fld := ⟨0x104, 8, 8, .ro, 0⟩
abbrev GL_REV.LAYOUT : Fld := ⟨0x104, 0, 8, .ro, 1⟩

/-! GL_INT_SUMMARY (Table REG–16) -/
abbrev GL_INT_SUMMARY.SUBSYS : Fld := ⟨0x108, 1, 14, .ro, 0⟩
abbrev GL_INT_SUMMARY.GL : Fld := ⟨0x108, 0, 1, .ro, 0⟩

/-! GL_TE_SUM_LO (Table REG–16) -/
abbrev GL_TE_SUM_LO.TE_LO : Fld := ⟨0x10c, 0, 32, .ro, 0⟩

/-! GL_TE_SUM_HI (Table REG–16) -/
abbrev GL_TE_SUM_HI.TE_HI : Fld := ⟨0x110, 0, 16, .ro, 0⟩

/-! TE_MODE (Table DSF–6) -/
abbrev TE_MODE.BONDED : Fld := ⟨0x100, 8, 1, .ro, 0⟩
abbrev TE_MODE.LINE_MODE : Fld := ⟨0x100, 0, 2, .rw, 0⟩

/-! TE_TX_CTRL (Table DSF–7) -/
abbrev TE_TX_CTRL.PLOAM_MAX : Fld := ⟨0x104, 16, 4, .rw, 4⟩
abbrev TE_TX_CTRL.TX_EN : Fld := ⟨0x104, 1, 1, .rw, 0⟩
abbrev TE_TX_CTRL.FRAMER_EN : Fld := ⟨0x104, 0, 1, .rw, 0⟩

/-! TE_TX_STAT (Table DSF–8) -/
abbrev TE_TX_STAT.FSTATE : Fld := ⟨0x108, 6, 2, .ro, 0⟩
abbrev TE_TX_STAT.TXDIS_PIN : Fld := ⟨0x108, 5, 1, .ro, 1⟩
abbrev TE_TX_STAT.KEY_B : Fld := ⟨0x108, 4, 1, .ro, 0⟩
abbrev TE_TX_STAT.KEY_A : Fld := ⟨0x108, 3, 1, .ro, 0⟩
abbrev TE_TX_STAT.MAP_SUBST : Fld := ⟨0x108, 2, 1, .ro, 0⟩
abbrev TE_TX_STAT.QUIESCE_IDLE : Fld := ⟨0x108, 1, 1, .ro, 0⟩

/-! TE_FRAME_PHASE (Table DSF–9) -/
abbrev TE_FRAME_PHASE.PHASE_NS : Fld := ⟨0x10c, 0, 17, .rw, 0⟩

/-! TE_SFC_LO (Table DSF–10) -/
abbrev TE_SFC_LO.SFC_LO : Fld := ⟨0x110, 0, 32, .ro, 0⟩

/-! TE_SFC_HI (Table DSF–10) -/
abbrev TE_SFC_HI.SFC_HI : Fld := ⟨0x114, 0, 19, .ro, 0⟩

/-! TE_SFC_INIT_LO (Table DSF–10) -/
abbrev TE_SFC_INIT_LO.INIT_LO : Fld := ⟨0x118, 0, 32, .rw, 0⟩

/-! TE_SFC_INIT_HI (Table DSF–10) -/
abbrev TE_SFC_INIT_HI.INIT_HI : Fld := ⟨0x11c, 0, 19, .rw, 0⟩

/-! TE_OC_LO (Table DSF–10) -/
abbrev TE_OC_LO.OC_LO : Fld := ⟨0x120, 0, 32, .rw, 0⟩

/-! TE_OC_HI (Table DSF–10) -/
abbrev TE_OC_HI.OC_HI : Fld := ⟨0x124, 0, 19, .rw, 0⟩

/-! TE_TOD_CTRL (Table DSF–11) -/
abbrev TE_TOD_CTRL.STALE : Fld := ⟨0x128, 2, 1, .ro, 0⟩
abbrev TE_TOD_CTRL.DONE : Fld := ⟨0x128, 1, 1, .ro, 0⟩
abbrev TE_TOD_CTRL.ARM : Fld := ⟨0x128, 0, 1, .rw, 0⟩

/-! TE_TOD_SF_LO (Table DSF–11) -/
abbrev TE_TOD_SF_LO.SF_LO : Fld := ⟨0x12c, 0, 32, .rw, 0⟩

/-! TE_TOD_SF_HI (Table DSF–11) -/
abbrev TE_TOD_SF_HI.SF_HI : Fld := ⟨0x130, 0, 19, .rw, 0⟩

/-! TE_TOD_STAMP0 (Table DSF–11) -/
abbrev TE_TOD_STAMP0.SEC_LO : Fld := ⟨0x134, 0, 32, .ro, 0⟩

/-! TE_TOD_STAMP1 (Table DSF–11) -/
abbrev TE_TOD_STAMP1.SEC_HI : Fld := ⟨0x138, 16, 16, .ro, 0⟩
abbrev TE_TOD_STAMP1.FRAC : Fld := ⟨0x138, 0, 16, .ro, 0⟩

/-! TE_TOD_STAMP2 (Table DSF–11) -/
abbrev TE_TOD_STAMP2.NS : Fld := ⟨0x13c, 0, 32, .ro, 0⟩

/-! CNT (Table DSF–12) -/
abbrev CNT.COUNT : Fld := ⟨0x0, 0, 40, .ro, 0⟩

/-! TE_BURST_PROFILE (Table BRX–2) -/
abbrev TE_BURST_PROFILE.PREAMBLE_PAT : Fld := ⟨0x0, 192, 64, .rw, 0⟩
abbrev TE_BURST_PROFILE.DELIMITER : Fld := ⟨0x0, 128, 64, .rw, 0⟩
abbrev TE_BURST_PROFILE.OH_BLOCKS : Fld := ⟨0x0, 24, 8, .ro, 0⟩
abbrev TE_BURST_PROFILE.GUARD : Fld := ⟨0x0, 16, 8, .rw, 64⟩
abbrev TE_BURST_PROFILE.PREAMBLE_REP : Fld := ⟨0x0, 8, 8, .rw, 0⟩
abbrev TE_BURST_PROFILE.RECALL_REQ : Fld := ⟨0x0, 2, 1, .rw, 0⟩
abbrev TE_BURST_PROFILE.FEC_EN : Fld := ⟨0x0, 1, 1, .rw, 1⟩
abbrev TE_BURST_PROFILE.VALID : Fld := ⟨0x0, 0, 1, .rw, 0⟩

/-! TE_EQ_RECALL (Table BRX–4) -/
abbrev TE_EQ_RECALL.LAST_SFC : Fld := ⟨0x0, 448, 32, .rw, 0⟩
abbrev TE_EQ_RECALL.FFE : Fld := ⟨0x0, 208, 240, .rw, 0⟩
abbrev TE_EQ_RECALL.DFE : Fld := ⟨0x0, 128, 80, .rw, 0⟩
abbrev TE_EQ_RECALL.DC_OFS : Fld := ⟨0x0, 112, 16, .rw, 0⟩
abbrev TE_EQ_RECALL.FREQ_OFS : Fld := ⟨0x0, 96, 16, .rw, 0⟩
abbrev TE_EQ_RECALL.GAIN : Fld := ⟨0x0, 88, 8, .rw, 0⟩
abbrev TE_EQ_RECALL.THRESH : Fld := ⟨0x0, 80, 8, .rw, 0⟩
abbrev TE_EQ_RECALL.CDR_PHASE : Fld := ⟨0x0, 64, 6, .rw, 0⟩
abbrev TE_EQ_RECALL.HITS : Fld := ⟨0x0, 16, 16, .rw, 0⟩
abbrev TE_EQ_RECALL.INVAL_CAUSE : Fld := ⟨0x0, 4, 2, .rw, 0⟩
abbrev TE_EQ_RECALL.SOURCE : Fld := ⟨0x0, 2, 1, .rw, 0⟩
abbrev TE_EQ_RECALL.VALID : Fld := ⟨0x0, 0, 1, .rw, 0⟩

/-! TE_RX_CTRL (Table BRX–8) -/
abbrev TE_RX_CTRL.RECALL_EN : Fld := ⟨0x100, 3, 1, .rw, 1⟩
abbrev TE_RX_CTRL.LISTEN_EN : Fld := ⟨0x100, 2, 1, .rw, 1⟩
abbrev TE_RX_CTRL.PREARM_EN : Fld := ⟨0x100, 1, 1, .rw, 1⟩
abbrev TE_RX_CTRL.RX_EN : Fld := ⟨0x100, 0, 1, .rw, 0⟩

/-! TE_RX_CFG (Table BRX–9) -/
abbrev TE_RX_CFG.RECALL_AGE : Fld := ⟨0x104, 16, 16, .rw, 64⟩
abbrev TE_RX_CFG.DELIM_TOL : Fld := ⟨0x104, 8, 4, .rw, 3⟩
abbrev TE_RX_CFG.WIN_MARGIN : Fld := ⟨0x104, 0, 8, .rw, 16⟩

/-! TE_RX_BRST (Table BRX–10) -/
abbrev TE_RX_BRST.BRST_MIN : Fld := ⟨0x108, 16, 8, .rw, 4⟩
abbrev TE_RX_BRST.BRST_WIDTH : Fld := ⟨0x108, 8, 8, .rw, 8⟩

/-! TE_RX_LISTEN (Table BRX–11) -/
abbrev TE_RX_LISTEN.ENERGY_MIN : Fld := ⟨0x10c, 24, 8, .rw, 20⟩
abbrev TE_RX_LISTEN.ENERGY_THR : Fld := ⟨0x10c, 16, 8, .rw, 0⟩
abbrev TE_RX_LISTEN.IDLE_MIN : Fld := ⟨0x10c, 0, 16, .rw, 8⟩

/-! TE_RX_STAT (Table BRX–12) -/
abbrev TE_RX_STAT.RX_RUN : Fld := ⟨0x110, 31, 1, .ro, 0⟩
abbrev TE_RX_STAT.ARMED_NEXT : Fld := ⟨0x110, 10, 10, .ro, 0⟩
abbrev TE_RX_STAT.ARMED_CUR : Fld := ⟨0x110, 0, 10, .ro, 0⟩

/-! TE_RX_LAST (Table BRX–12) -/
abbrev TE_RX_LAST.OUTCOME : Fld := ⟨0x114, 28, 4, .ro, 0⟩
abbrev TE_RX_LAST.ONU : Fld := ⟨0x114, 8, 8, .ro, 0⟩
abbrev TE_RX_LAST.DELIM_ERR : Fld := ⟨0x114, 4, 4, .ro, 0⟩
abbrev TE_RX_LAST.PROFILE : Fld := ⟨0x114, 0, 4, .ro, 0⟩

/-! TE_ONU_LINE (Table BRX–14) -/
abbrev TE_ONU_LINE.LOST : Fld := ⟨0x0, 256, 40, .ro, 0⟩
abbrev TE_ONU_LINE.BURST_ERR : Fld := ⟨0x0, 192, 40, .ro, 0⟩
abbrev TE_ONU_LINE.FEC_UNCORR : Fld := ⟨0x0, 128, 40, .ro, 0⟩
abbrev TE_ONU_LINE.FEC_CORR : Fld := ⟨0x0, 64, 40, .ro, 0⟩
abbrev TE_ONU_LINE.BIP : Fld := ⟨0x0, 0, 40, .ro, 0⟩

/-! TE_RANGE_CFG (Table RNG–4) -/
abbrev TE_RANGE_CFG.MAX_KM : Fld := ⟨0x100, 26, 6, .rw, 60⟩
abbrev TE_RANGE_CFG.DIFF_KM : Fld := ⟨0x100, 20, 6, .rw, 40⟩
abbrev TE_RANGE_CFG.TEQD_NS : Fld := ⟨0x100, 0, 20, .rw, 640000⟩

/-! TE_DISC_CFG (Table RNG–5) -/
abbrev TE_DISC_CFG.PERIOD_MS : Fld := ⟨0x104, 16, 16, .rw, 1000⟩
abbrev TE_DISC_CFG.RAND_SPAN_US : Fld := ⟨0x104, 10, 6, .rw, 24⟩
abbrev TE_DISC_CFG.DISC_PROFILE : Fld := ⟨0x104, 6, 4, .rw, 0⟩
abbrev TE_DISC_CFG.AUTO_ASSIGN : Fld := ⟨0x104, 5, 1, .rw, 1⟩
abbrev TE_DISC_CFG.AUTO_AUTH : Fld := ⟨0x104, 4, 1, .rw, 0⟩
abbrev TE_DISC_CFG.DISC_EN : Fld := ⟨0x104, 0, 1, .rw, 0⟩

/-! TE_DISC_STAT (Table RNG–6) -/
abbrev TE_DISC_STAT.OPEN : Fld := ⟨0x108, 31, 1, .ro, 0⟩
abbrev TE_DISC_STAT.UNK_NEXT : Fld := ⟨0x108, 24, 4, .ro, 0⟩
abbrev TE_DISC_STAT.SN_LAST : Fld := ⟨0x108, 16, 8, .ro, 0⟩
abbrev TE_DISC_STAT.MS_TO_NEXT : Fld := ⟨0x108, 0, 16, .ro, 0⟩

/-! TE_DRIFT_CFG (Table RNG–7) -/
abbrev TE_DRIFT_CFG.HARD_UI : Fld := ⟨0x10c, 24, 8, .rw, 64⟩
abbrev TE_DRIFT_CFG.SOFT_UI : Fld := ⟨0x10c, 16, 8, .rw, 4⟩
abbrev TE_DRIFT_CFG.LOB_BURSTS : Fld := ⟨0x10c, 8, 8, .rw, 4⟩
abbrev TE_DRIFT_CFG.AUTO_RERANGE : Fld := ⟨0x10c, 7, 1, .rw, 1⟩
abbrev TE_DRIFT_CFG.RANGE_TRIES : Fld := ⟨0x10c, 4, 3, .rw, 3⟩

/-! TE_ROGUE_CFG (Table RNG–8) -/
abbrev TE_ROGUE_CFG.HUNT_OBS : Fld := ⟨0x110, 16, 16, .rw, 16⟩
abbrev TE_ROGUE_CFG.HUNT_EN : Fld := ⟨0x110, 0, 1, .rw, 1⟩

/-! TE_ONU_CMD (Table RNG–9) -/
abbrev TE_ONU_CMD.OP : Fld := ⟨0x114, 28, 4, .rw, 0⟩
abbrev TE_ONU_CMD.STAT : Fld := ⟨0x114, 22, 2, .ro, 0⟩
abbrev TE_ONU_CMD.INDEX : Fld := ⟨0x114, 0, 8, .rw, 0⟩

/-! TE_SEQ_STAT (Table RNG–10) -/
abbrev TE_SEQ_STAT.HUNT : Fld := ⟨0x118, 30, 2, .ro, 0⟩
abbrev TE_SEQ_STAT.ROUND : Fld := ⟨0x118, 26, 4, .ro, 0⟩
abbrev TE_SEQ_STAT.SUSPECTS : Fld := ⟨0x118, 17, 9, .ro, 0⟩
abbrev TE_SEQ_STAT.OPERATING_N : Fld := ⟨0x118, 0, 9, .ro, 0⟩

/-! TE_ONU (Table RNG–11) -/
abbrev TE_ONU.SERIAL : Fld := ⟨0x0, 448, 64, .rw, 0⟩
abbrev TE_ONU.EQD : Fld := ⟨0x0, 416, 32, .ro, 0⟩
abbrev TE_ONU.RTD : Fld := ⟨0x0, 384, 32, .ro, 0⟩
abbrev TE_ONU.DRIFT_F : Fld := ⟨0x0, 368, 16, .ro, 0⟩
abbrev TE_ONU.CORR_CNT : Fld := ⟨0x0, 352, 16, .ro, 0⟩
abbrev TE_ONU.LAST_SFC : Fld := ⟨0x0, 320, 32, .ro, 0⟩
abbrev TE_ONU.RAND_DELAY : Fld := ⟨0x0, 296, 24, .ro, 0⟩
abbrev TE_ONU.PLOAM_SEQ : Fld := ⟨0x0, 288, 8, .ro, 0⟩
abbrev TE_ONU.PROF_MAP : Fld := ⟨0x0, 272, 16, .rw, 0⟩
abbrev TE_ONU.ROGUE_CNT : Fld := ⟨0x0, 256, 16, .ro, 0⟩
abbrev TE_ONU.MCAST : Fld := ⟨0x0, 40, 1, .rw, 0⟩
abbrev TE_ONU.LOB_CNT : Fld := ⟨0x0, 32, 8, .ro, 0⟩
abbrev TE_ONU.CAUSE : Fld := ⟨0x0, 28, 4, .ro, 0⟩
abbrev TE_ONU.DRIFT_N : Fld := ⟨0x0, 19, 5, .ro, 0⟩
abbrev TE_ONU.AUTH : Fld := ⟨0x0, 6, 1, .rw, 0⟩
abbrev TE_ONU.SN_VALID : Fld := ⟨0x0, 5, 1, .rw, 0⟩
abbrev TE_ONU.STATE : Fld := ⟨0x0, 0, 3, .ro, 0⟩

/-! TE_SN_UNK (Table RNG–12) -/
abbrev TE_SN_UNK.REASON : Fld := ⟨0x0, 96, 4, .ro, 0⟩
abbrev TE_SN_UNK.SFC : Fld := ⟨0x0, 64, 32, .ro, 0⟩
abbrev TE_SN_UNK.SERIAL : Fld := ⟨0x0, 0, 64, .ro, 0⟩

/-! BW_ALLOC (Table BW–2) -/
abbrev BW_ALLOC.REPORT_AGE : Fld := ⟨0x0, 248, 8, .ro, 255⟩
abbrev BW_ALLOC.GRANTED : Fld := ⟨0x0, 224, 16, .ro, 0⟩
abbrev BW_ALLOC.NEED : Fld := ⟨0x0, 192, 16, .ro, 0⟩
abbrev BW_ALLOC.LAMBDA : Fld := ⟨0x0, 160, 24, .ro, 0⟩
abbrev BW_ALLOC.LAST_Q : Fld := ⟨0x0, 128, 24, .ro, 0⟩
abbrev BW_ALLOC.WIRE_ID : Fld := ⟨0x0, 112, 14, .rw, 0⟩
abbrev BW_ALLOC.PER_COUNT : Fld := ⟨0x0, 108, 4, .rw, 0⟩
abbrev BW_ALLOC.MAX_BLK : Fld := ⟨0x0, 80, 16, .rw, 0⟩
abbrev BW_ALLOC.WEIGHT : Fld := ⟨0x0, 72, 8, .rw, 1⟩
abbrev BW_ALLOC.MIN_GRANT : Fld := ⟨0x0, 64, 8, .rw, 1⟩
abbrev BW_ALLOC.FIXED_BLK : Fld := ⟨0x0, 48, 16, .rw, 0⟩
abbrev BW_ALLOC.ASSURED_BLK : Fld := ⟨0x0, 32, 16, .rw, 0⟩
abbrev BW_ALLOC.TENANT : Fld := ⟨0x0, 28, 4, .rw, 0⟩
abbrev BW_ALLOC.ONU : Fld := ⟨0x0, 20, 8, .rw, 0⟩
abbrev BW_ALLOC.TREE : Fld := ⟨0x0, 14, 6, .rw, 0⟩
abbrev BW_ALLOC.TYPE : Fld := ⟨0x0, 8, 3, .rw, 0⟩
abbrev BW_ALLOC.DBRU : Fld := ⟨0x0, 1, 1, .rw, 0⟩
abbrev BW_ALLOC.VALID : Fld := ⟨0x0, 0, 1, .rw, 0⟩

/-! BW_TRACE (Table BW–6) -/
abbrev BW_TRACE.SFC : Fld := ⟨0x0, 96, 32, .ro, 0⟩
abbrev BW_TRACE.KIND : Fld := ⟨0x0, 92, 4, .ro, 0⟩
abbrev BW_TRACE.ALLOC : Fld := ⟨0x0, 78, 14, .ro, 0⟩
abbrev BW_TRACE.ONU : Fld := ⟨0x0, 70, 8, .ro, 0⟩
abbrev BW_TRACE.SEQ : Fld := ⟨0x0, 69, 1, .ro, 0⟩
abbrev BW_TRACE.START : Fld := ⟨0x0, 48, 16, .ro, 0⟩
abbrev BW_TRACE.SIZE : Fld := ⟨0x0, 32, 16, .ro, 0⟩
abbrev BW_TRACE.SIZE_OLD : Fld := ⟨0x0, 16, 16, .ro, 0⟩
abbrev BW_TRACE.TIME_NS : Fld := ⟨0x0, 0, 16, .ro, 0⟩

/-! BW_MAP_MIRROR (Table BW–7) -/
abbrev BW_MAP_MIRROR.WIRE_ID : Fld := ⟨0x0, 50, 14, .ro, 0⟩
abbrev BW_MAP_MIRROR.START : Fld := ⟨0x0, 34, 16, .ro, 0⟩
abbrev BW_MAP_MIRROR.SIZE : Fld := ⟨0x0, 18, 16, .ro, 0⟩
abbrev BW_MAP_MIRROR.PROF_IDX : Fld := ⟨0x0, 16, 2, .ro, 0⟩
abbrev BW_MAP_MIRROR.DBRU : Fld := ⟨0x0, 15, 1, .ro, 0⟩
abbrev BW_MAP_MIRROR.PLOAMU : Fld := ⟨0x0, 14, 1, .ro, 0⟩
abbrev BW_MAP_MIRROR.SEQ : Fld := ⟨0x0, 13, 1, .ro, 0⟩
abbrev BW_MAP_MIRROR.SUBST : Fld := ⟨0x0, 12, 1, .ro, 0⟩

/-! BW_CYCLE_CFG (Table BW–9) -/
abbrev BW_CYCLE_CFG.PLOAMU_PERIOD : Fld := ⟨0x100, 24, 8, .rw, 8⟩
abbrev BW_CYCLE_CFG.TREND_SHIFT : Fld := ⟨0x100, 0, 4, .rw, 3⟩

/-! BW_RUNAHEAD (Table BW–10) -/
abbrev BW_RUNAHEAD.TRACE_TREE : Fld := ⟨0x104, 8, 6, .rw, 0⟩
abbrev BW_RUNAHEAD.TRACE_WRAP : Fld := ⟨0x104, 2, 1, .rw, 0⟩
abbrev BW_RUNAHEAD.TRACE_EN : Fld := ⟨0x104, 1, 1, .rw, 0⟩
abbrev BW_RUNAHEAD.EN : Fld := ⟨0x104, 0, 1, .rw, 1⟩

/-! BW_STAT (Table BW–11) -/
abbrev BW_STAT.TRACE_FULL : Fld := ⟨0x108, 31, 1, .ro, 0⟩
abbrev BW_STAT.TRACE_COUNT : Fld := ⟨0x108, 0, 13, .ro, 0⟩

/-! BW_TREE_CFG (Table BW–12) -/
abbrev BW_TREE_CFG.PROF_SHORT_IDX : Fld := ⟨0x100, 4, 2, .rw, 1⟩
abbrev BW_TREE_CFG.PROF_LONG_IDX : Fld := ⟨0x100, 2, 2, .rw, 0⟩
abbrev BW_TREE_CFG.EN : Fld := ⟨0x100, 0, 1, .rw, 0⟩

/-! BW_TREE_STAT (Table BW–12) -/
abbrev BW_TREE_STAT.RUNAHEAD : Fld := ⟨0x104, 31, 1, .ro, 0⟩
abbrev BW_TREE_STAT.SHORT : Fld := ⟨0x104, 30, 1, .ro, 0⟩
abbrev BW_TREE_STAT.ENTRIES : Fld := ⟨0x104, 0, 10, .ro, 0⟩

/-! BW_MIRROR_CTRL (Table BW–12) -/
abbrev BW_MIRROR_CTRL.FREEZE : Fld := ⟨0x108, 0, 1, .rw, 0⟩

/-! BW_CEIL (Table BW–13) -/
abbrev BW_CEIL.CEIL_BLK : Fld := ⟨0x0, 0, 16, .rw, 65535⟩

/-! HY_GAP_MIN (Table HY–4) -/
abbrev HY_GAP_MIN.GAP : Fld := ⟨0x100, 0, 8, .rw, 2⟩

/-! HY_STAT (Table HY–4) -/
abbrev HY_STAT.LOG_FULL : Fld := ⟨0x104, 31, 1, .ro, 0⟩
abbrev HY_STAT.LOG_COUNT : Fld := ⟨0x104, 0, 9, .ro, 0⟩

/-! HY_SAFE_CMD (Table HY–4) -/
abbrev HY_SAFE_CMD.OP : Fld := ⟨0x118, 28, 4, .rw, 0⟩
abbrev HY_SAFE_CMD.TREE : Fld := ⟨0x118, 0, 6, .rw, 0⟩

/-! HY_LOG_CTRL (Table HY–4) -/
abbrev HY_LOG_CTRL.WRAP : Fld := ⟨0x11c, 0, 1, .rw, 0⟩

/-! HY_VIOL_LOG (Table HY–5) -/
abbrev HY_VIOL_LOG.SFC : Fld := ⟨0x0, 96, 32, .ro, 0⟩
abbrev HY_VIOL_LOG.TREE : Fld := ⟨0x0, 90, 6, .ro, 0⟩
abbrev HY_VIOL_LOG.CODE : Fld := ⟨0x0, 80, 5, .ro, 0⟩
abbrev HY_VIOL_LOG.WIRE_ID : Fld := ⟨0x0, 66, 14, .ro, 0⟩
abbrev HY_VIOL_LOG.ONU : Fld := ⟨0x0, 58, 8, .ro, 0⟩
abbrev HY_VIOL_LOG.START : Fld := ⟨0x0, 32, 16, .ro, 0⟩
abbrev HY_VIOL_LOG.SIZE : Fld := ⟨0x0, 16, 16, .ro, 0⟩
abbrev HY_VIOL_LOG.OTHER_END : Fld := ⟨0x0, 0, 16, .ro, 0⟩

/-! HY_SAFE_MAP (Table HY–6) -/
abbrev HY_SAFE_MAP.WIRE_ID : Fld := ⟨0x0, 50, 14, .rw, 0⟩
abbrev HY_SAFE_MAP.START : Fld := ⟨0x0, 34, 16, .rw, 0⟩
abbrev HY_SAFE_MAP.SIZE : Fld := ⟨0x0, 18, 16, .rw, 0⟩
abbrev HY_SAFE_MAP.PROF_IDX : Fld := ⟨0x0, 16, 2, .rw, 0⟩
abbrev HY_SAFE_MAP.DBRU : Fld := ⟨0x0, 15, 1, .rw, 0⟩
abbrev HY_SAFE_MAP.PLOAMU : Fld := ⟨0x0, 14, 1, .rw, 0⟩

/-! BD_GROUP (Table BND–5) -/
abbrev BD_GROUP.SKEW_SPREAD_NS : Fld := ⟨0x0, 208, 16, .ro, 0⟩
abbrev BD_GROUP.PROBES_PENDING : Fld := ⟨0x0, 192, 16, .ro, 0⟩
abbrev BD_GROUP.CAUSE : Fld := ⟨0x0, 176, 16, .ro, 0⟩
abbrev BD_GROUP.ACTING_LEAD : Fld := ⟨0x0, 168, 2, .ro, 0⟩
abbrev BD_GROUP.MEMBER_STATE : Fld := ⟨0x0, 160, 8, .ro, 0⟩
abbrev BD_GROUP.IND_EN : Fld := ⟨0x0, 129, 1, .rw, 0⟩
abbrev BD_GROUP.OAM_LEN_DEG : Fld := ⟨0x0, 120, 8, .rw, 64⟩
abbrev BD_GROUP.OAM_LEN_CLR : Fld := ⟨0x0, 112, 8, .rw, 0⟩
abbrev BD_GROUP.SEQ_OFS : Fld := ⟨0x0, 104, 8, .rw, 0⟩
abbrev BD_GROUP.OAM_CONT : Fld := ⟨0x0, 97, 1, .rw, 0⟩
abbrev BD_GROUP.OAM_EN : Fld := ⟨0x0, 96, 1, .rw, 0⟩
abbrev BD_GROUP.OAM_PERIOD_US : Fld := ⟨0x0, 72, 24, .rw, 3333⟩
abbrev BD_GROUP.UPLINK : Fld := ⟨0x0, 67, 5, .rw, 0⟩
abbrev BD_GROUP.OAM_CLASS : Fld := ⟨0x0, 64, 3, .rw, 7⟩
abbrev BD_GROUP.RESTORE_MS : Fld := ⟨0x0, 48, 16, .rw, 1000⟩
abbrev BD_GROUP.SPLIT_MIN : Fld := ⟨0x0, 40, 8, .rw, 64⟩
abbrev BD_GROUP.SIZE : Fld := ⟨0x0, 30, 2, .rw, 0⟩
abbrev BD_GROUP.LINE_MODE : Fld := ⟨0x0, 28, 2, .rw, 0⟩
abbrev BD_GROUP.SKEW_MAX_US : Fld := ⟨0x0, 24, 4, .rw, 12⟩
abbrev BD_GROUP.LOSS_BURSTS : Fld := ⟨0x0, 16, 8, .rw, 8⟩
abbrev BD_GROUP.PROBES : Fld := ⟨0x0, 12, 4, .rw, 2⟩
abbrev BD_GROUP.FRAG_MAX : Fld := ⟨0x0, 0, 12, .rw, 1536⟩

/-! BD_SKEW (Table BND–6) -/
abbrev BD_SKEW.VALID : Fld := ⟨0x0, 31, 1, .ro, 0⟩
abbrev BD_SKEW.EXCL : Fld := ⟨0x0, 30, 1, .ro, 0⟩
abbrev BD_SKEW.SKEW : Fld := ⟨0x0, 0, 24, .ro, 0⟩

/-! BD_CMD (Table BND–7) -/
abbrev BD_CMD.OP : Fld := ⟨0x100, 28, 4, .rw, 0⟩
abbrev BD_CMD.STAT : Fld := ⟨0x100, 26, 2, .ro, 0⟩
abbrev BD_CMD.GROUP : Fld := ⟨0x100, 10, 5, .rw, 0⟩
abbrev BD_CMD.SLOT : Fld := ⟨0x100, 8, 2, .rw, 0⟩
abbrev BD_CMD.ONU : Fld := ⟨0x100, 0, 8, .rw, 0⟩

/-! BD_STAT (Table BND–7) -/
abbrev BD_STAT.DEGRADED : Fld := ⟨0x104, 0, 24, .ro, 0⟩

/-! PX_ROLE (Table PRT–13) -/
abbrev PX_ROLE.ARR_OFS : Fld := ⟨0x0, 96, 32, .ro, 0⟩
abbrev PX_ROLE.PATH_DIFF : Fld := ⟨0x0, 64, 32, .ro, 0⟩
abbrev PX_ROLE.WTR_LEFT : Fld := ⟨0x0, 48, 16, .ro, 0⟩
abbrev PX_ROLE.WTR_S : Fld := ⟨0x0, 32, 16, .rw, 300⟩
abbrev PX_ROLE.CAUSE : Fld := ⟨0x0, 28, 4, .ro, 0⟩
abbrev PX_ROLE.REQ_EFF : Fld := ⟨0x0, 24, 4, .ro, 0⟩
abbrev PX_ROLE.STATE : Fld := ⟨0x0, 20, 4, .ro, 0⟩
abbrev PX_ROLE.PEER_CODE : Fld := ⟨0x0, 16, 4, .ro, 0⟩
abbrev PX_ROLE.REQ_LOCAL : Fld := ⟨0x0, 12, 4, .ro, 0⟩
abbrev PX_ROLE.PEER_TREE : Fld := ⟨0x0, 6, 6, .rw, 0⟩
abbrev PX_ROLE.ACQ : Fld := ⟨0x0, 4, 1, .ro, 0⟩
abbrev PX_ROLE.LINK : Fld := ⟨0x0, 3, 1, .rw, 0⟩
abbrev PX_ROLE.HOME : Fld := ⟨0x0, 2, 1, .rw, 0⟩
abbrev PX_ROLE.MODE : Fld := ⟨0x0, 0, 2, .rw, 0⟩

/-! PX_REQ (Table PRT–14) -/
abbrev PX_REQ.OP : Fld := ⟨0x100, 28, 4, .rw, 0⟩
abbrev PX_REQ.STAT : Fld := ⟨0x100, 26, 2, .ro, 0⟩
abbrev PX_REQ.TREE : Fld := ⟨0x100, 0, 6, .rw, 0⟩

/-! PX_PEER_CFG (Table PRT–15) -/
abbrev PX_PEER_CFG.EN : Fld := ⟨0x100, 31, 1, .rw, 0⟩
abbrev PX_PEER_CFG.PEER_ID : Fld := ⟨0x100, 16, 10, .rw, 0⟩
abbrev PX_PEER_CFG.START_MS : Fld := ⟨0x100, 0, 16, .rw, 1000⟩

/-! PX_LINK_STAT (Table PRT–15) -/
abbrev PX_LINK_STAT.ALIGNED : Fld := ⟨0x104, 31, 1, .ro, 0⟩
abbrev PX_LINK_STAT.SILENT : Fld := ⟨0x104, 30, 1, .ro, 1⟩
abbrev PX_LINK_STAT.HOLD_IN : Fld := ⟨0x104, 29, 1, .ro, 0⟩
abbrev PX_LINK_STAT.HOLD_OUT : Fld := ⟨0x104, 28, 1, .ro, 0⟩
abbrev PX_LINK_STAT.PEER_EPOCH : Fld := ⟨0x104, 0, 16, .ro, 0⟩

/-! PX_LINK_DELAY (Table PRT–15) -/
abbrev PX_LINK_DELAY.ONE_WAY : Fld := ⟨0x108, 0, 24, .ro, 0⟩

/-! CL_STAT (Table CLS–6) -/
abbrev CL_STAT.ERR_PROFILE : Fld := ⟨0x100, 0, 6, .ro, 0⟩

/-! CL_PORT_PROF (Table CLS–7) -/
abbrev CL_PORT_PROF.PROFILE : Fld := ⟨0x0, 0, 6, .rw, 0⟩

/-! CL_PROFILE (Table CLS–8) -/
abbrev CL_PROFILE.MAL_REASON : Fld := ⟨0x0, 255, 8, .rw, 0⟩
abbrev CL_PROFILE.MAL_TARGET : Fld := ⟨0x0, 237, 18, .rw, 0⟩
abbrev CL_PROFILE.MAL_ACT : Fld := ⟨0x0, 234, 3, .rw, 0⟩
abbrev CL_PROFILE.INC_REASON : Fld := ⟨0x0, 226, 8, .rw, 0⟩
abbrev CL_PROFILE.INC_TARGET : Fld := ⟨0x0, 208, 18, .rw, 0⟩
abbrev CL_PROFILE.INC_ACT : Fld := ⟨0x0, 205, 3, .rw, 0⟩
abbrev CL_PROFILE.MPLS_UDP_PORT : Fld := ⟨0x0, 189, 16, .rw, 6635⟩
abbrev CL_PROFILE.VXLAN_PORT : Fld := ⟨0x0, 173, 16, .rw, 4789⟩
abbrev CL_PROFILE.TPID_EXTRA : Fld := ⟨0x0, 157, 16, .rw, 0⟩
abbrev CL_PROFILE.RULES : Fld := ⟨0x0, 140, 17, .rw, 0⟩
abbrev CL_PROFILE.RANGE_COUNT : Fld := ⟨0x0, 131, 9, .rw, 0⟩
abbrev CL_PROFILE.RANGE_BASE : Fld := ⟨0x0, 121, 10, .rw, 0⟩
abbrev CL_PROFILE.NODE_COUNT : Fld := ⟨0x0, 102, 19, .rw, 0⟩
abbrev CL_PROFILE.NODE_BASE : Fld := ⟨0x0, 84, 18, .rw, 0⟩
abbrev CL_PROFILE.ROOT : Fld := ⟨0x0, 66, 18, .rw, 0⟩
abbrev CL_PROFILE.TENANT : Fld := ⟨0x0, 62, 4, .rw, 0⟩
abbrev CL_PROFILE.TRAIL_OK : Fld := ⟨0x0, 13, 1, .rw, 0⟩
abbrev CL_PROFILE.LAYERS : Fld := ⟨0x0, 9, 4, .rw, 12⟩
abbrev CL_PROFILE.DEPTH4 : Fld := ⟨0x0, 2, 7, .rw, 32⟩
abbrev CL_PROFILE.DIR : Fld := ⟨0x0, 1, 1, .rw, 0⟩
abbrev CL_PROFILE.VALID : Fld := ⟨0x0, 0, 1, .rw, 0⟩

/-! CL_RANGE (Table CLS–9) -/
abbrev CL_RANGE.OFFSET : Fld := ⟨0x0, 53, 11, .rw, 0⟩
abbrev CL_RANGE.WIDTHM1 : Fld := ⟨0x0, 49, 4, .rw, 0⟩
abbrev CL_RANGE.VALID : Fld := ⟨0x0, 48, 1, .rw, 0⟩
abbrev CL_RANGE.LO : Fld := ⟨0x0, 16, 16, .rw, 0⟩
abbrev CL_RANGE.HI : Fld := ⟨0x0, 0, 16, .rw, 0⟩

/-! CL_FLOW (Table CLS–12) -/
abbrev CL_FLOW.US_BYTES : Fld := ⟨0x0, 464, 48, .ro, 0⟩
abbrev CL_FLOW.US_PKTS : Fld := ⟨0x0, 424, 40, .ro, 0⟩
abbrev CL_FLOW.DS_BYTES : Fld := ⟨0x0, 376, 48, .ro, 0⟩
abbrev CL_FLOW.DS_PKTS : Fld := ⟨0x0, 336, 40, .ro, 0⟩
abbrev CL_FLOW.US_PROFILE : Fld := ⟨0x0, 64, 6, .rw, 0⟩
abbrev CL_FLOW.KEY_CTX : Fld := ⟨0x0, 48, 15, .rw, 0⟩
abbrev CL_FLOW.XGEM_PORT : Fld := ⟨0x0, 32, 16, .rw, 0⟩
abbrev CL_FLOW.CLASS : Fld := ⟨0x0, 22, 3, .rw, 0⟩
abbrev CL_FLOW.ONU : Fld := ⟨0x0, 14, 8, .rw, 0⟩
abbrev CL_FLOW.TREE : Fld := ⟨0x0, 8, 6, .rw, 0⟩
abbrev CL_FLOW.TENANT : Fld := ⟨0x0, 4, 4, .rw, 0⟩
abbrev CL_FLOW.CIPHER_EN : Fld := ⟨0x0, 3, 1, .rw, 1⟩
abbrev CL_FLOW.US_EN : Fld := ⟨0x0, 2, 1, .rw, 0⟩
abbrev CL_FLOW.DS_EN : Fld := ⟨0x0, 1, 1, .rw, 0⟩
abbrev CL_FLOW.VALID : Fld := ⟨0x0, 0, 1, .rw, 0⟩

/-! BP_DESC (Table BUF–3) -/
abbrev BP_DESC.HOLDER_A : Fld := ⟨0x0, 102, 26, .ro, 0⟩
abbrev BP_DESC.HOLDER_B : Fld := ⟨0x0, 76, 26, .ro, 0⟩
abbrev BP_DESC.LAST : Fld := ⟨0x0, 74, 2, .ro, 0⟩
abbrev BP_DESC.REFCNT : Fld := ⟨0x0, 72, 2, .ro, 0⟩
abbrev BP_DESC.ACCT : Fld := ⟨0x0, 61, 11, .ro, 0⟩
abbrev BP_DESC.LEN : Fld := ⟨0x0, 46, 15, .ro, 0⟩
abbrev BP_DESC.POOL : Fld := ⟨0x0, 43, 3, .ro, 0⟩
abbrev BP_DESC.TIER : Fld := ⟨0x0, 42, 1, .ro, 0⟩
abbrev BP_DESC.GEN : Fld := ⟨0x0, 13, 8, .ro, 0⟩

/-! BP_CTRL (Table BUF–6) -/
abbrev BP_CTRL.TUB_WRAP : Fld := ⟨0x100, 1, 1, .rw, 0⟩
abbrev BP_CTRL.MODE : Fld := ⟨0x100, 0, 1, .rw, 0⟩

/-! BP_STAT (Table BUF–6) -/
abbrev BP_STAT.TUB_FULL : Fld := ⟨0x104, 31, 1, .ro, 0⟩
abbrev BP_STAT.TUB_COUNT : Fld := ⟨0x104, 0, 7, .ro, 0⟩

/-! BP_ERR (Table BUF–6) -/
abbrev BP_ERR.CODE : Fld := ⟨0x108, 30, 2, .ro, 0⟩
abbrev BP_ERR.HANDLE : Fld := ⟨0x108, 0, 28, .ro, 0⟩

/-! BP_ERR_REQ (Table BUF–6) -/
abbrev BP_ERR_REQ.TAG : Fld := ⟨0x10c, 0, 26, .ro, 0⟩

/-! BP_POOL_CFG (Table BUF–7) -/
abbrev BP_POOL_CFG.FREE_HBM : Fld := ⟨0x0, 107, 21, .ro, 0⟩
abbrev BP_POOL_CFG.FREE_SRAM : Fld := ⟨0x0, 86, 21, .ro, 0⟩
abbrev BP_POOL_CFG.RETIRED : Fld := ⟨0x0, 65, 21, .ro, 0⟩
abbrev BP_POOL_CFG.HBM_BUFS : Fld := ⟨0x0, 44, 21, .rw, 0⟩
abbrev BP_POOL_CFG.SRAM_BUFS : Fld := ⟨0x0, 23, 21, .rw, 0⟩
abbrev BP_POOL_CFG.SHARED_USED : Fld := ⟨0x0, 2, 21, .ro, 0⟩

/-! BP_TUB_LOG (Table BUF–10) -/
abbrev BP_TUB_LOG.REASON : Fld := ⟨0x0, 124, 4, .ro, 0⟩
abbrev BP_TUB_LOG.HANDLE : Fld := ⟨0x0, 96, 28, .ro, 0⟩
abbrev BP_TUB_LOG.EXPECTED : Fld := ⟨0x0, 70, 26, .ro, 0⟩
abbrev BP_TUB_LOG.FOUND : Fld := ⟨0x0, 44, 26, .ro, 0⟩
abbrev BP_TUB_LOG.TIME : Fld := ⟨0x0, 0, 20, .ro, 0⟩

/-! SC_SAMPLE_CFG (Table SCH–3) -/
abbrev SC_SAMPLE_CFG.EN : Fld := ⟨0x100, 31, 1, .rw, 1⟩
abbrev SC_SAMPLE_CFG.PERIOD_US : Fld := ⟨0x100, 0, 10, .rw, 100⟩

/-! SC_CMD (Table SCH–3) -/
abbrev SC_CMD.OP : Fld := ⟨0x104, 28, 4, .rw, 0⟩
abbrev SC_CMD.STAT : Fld := ⟨0x104, 26, 2, .ro, 0⟩
abbrev SC_CMD.QUEUE : Fld := ⟨0x104, 0, 18, .rw, 0⟩

/-! SC_NODE (Table SCH–4) -/
abbrev SC_NODE.VTIME : Fld := ⟨0x0, 208, 48, .ro, 0⟩
abbrev SC_NODE.STAG : Fld := ⟨0x0, 160, 48, .ro, 0⟩
abbrev SC_NODE.FTAG : Fld := ⟨0x0, 112, 48, .ro, 0⟩
abbrev SC_NODE.CREDIT : Fld := ⟨0x0, 80, 32, .ro, 0⟩
abbrev SC_NODE.RATE : Fld := ⟨0x0, 48, 32, .rw, 0⟩
abbrev SC_NODE.BURST : Fld := ⟨0x0, 24, 24, .rw, 16384⟩
abbrev SC_NODE.WEIGHT : Fld := ⟨0x0, 8, 16, .rw, 1⟩
abbrev SC_NODE.GATE : Fld := ⟨0x0, 3, 1, .rw, 1⟩
abbrev SC_NODE.ACTIVE : Fld := ⟨0x0, 2, 1, .ro, 0⟩
abbrev SC_NODE.EN : Fld := ⟨0x0, 0, 1, .rw, 1⟩

/-! SC_QUEUE (Table SCH–5) -/
abbrev SC_QUEUE.STAG : Fld := ⟨0x0, 208, 48, .ro, 0⟩
abbrev SC_QUEUE.FTAG : Fld := ⟨0x0, 160, 48, .ro, 0⟩
abbrev SC_QUEUE.CREDIT : Fld := ⟨0x0, 128, 32, .ro, 0⟩
abbrev SC_QUEUE.RATE : Fld := ⟨0x0, 96, 32, .rw, 0⟩
abbrev SC_QUEUE.BURST : Fld := ⟨0x0, 72, 24, .rw, 16384⟩
abbrev SC_QUEUE.WEIGHT : Fld := ⟨0x0, 56, 16, .rw, 1⟩
abbrev SC_QUEUE.DEPTH_PKT : Fld := ⟨0x0, 35, 21, .ro, 0⟩
abbrev SC_QUEUE.QLIM_KB : Fld := ⟨0x0, 15, 20, .rw, 0⟩
abbrev SC_QUEUE.PAUSED : Fld := ⟨0x0, 4, 1, .ro, 0⟩
abbrev SC_QUEUE.LAUNCH_WAIT : Fld := ⟨0x0, 3, 1, .ro, 0⟩
abbrev SC_QUEUE.ACTIVE : Fld := ⟨0x0, 2, 1, .ro, 0⟩
abbrev SC_QUEUE.EN : Fld := ⟨0x0, 0, 1, .rw, 1⟩

/-! SC_AGG (Table SCH–6) -/
abbrev SC_AGG.PORT : Fld := ⟨0x0, 7, 5, .rw, 0⟩
abbrev SC_AGG.TENANT : Fld := ⟨0x0, 3, 4, .rw, 0⟩
abbrev SC_AGG.CLASS : Fld := ⟨0x0, 0, 3, .rw, 0⟩

/-! SC_SAMPLE (Table SCH–7) -/
abbrev SC_SAMPLE.DLY_LAST : Fld := ⟨0x0, 224, 32, .ro, 0⟩
abbrev SC_SAMPLE.DLY_MIN : Fld := ⟨0x0, 192, 32, .ro, 4294967295⟩
abbrev SC_SAMPLE.DLY_MAX : Fld := ⟨0x0, 160, 32, .ro, 0⟩
abbrev SC_SAMPLE.DEP_LAST : Fld := ⟨0x0, 128, 32, .ro, 0⟩
abbrev SC_SAMPLE.DEP_MIN : Fld := ⟨0x0, 96, 32, .ro, 4294967295⟩
abbrev SC_SAMPLE.DEP_MAX : Fld := ⟨0x0, 64, 32, .ro, 0⟩
abbrev SC_SAMPLE.DLY_OVER : Fld := ⟨0x0, 48, 16, .ro, 0⟩
abbrev SC_SAMPLE.DEP_OVER : Fld := ⟨0x0, 32, 16, .ro, 0⟩
abbrev SC_SAMPLE.DLY_THR : Fld := ⟨0x0, 16, 16, .rw, 65535⟩
abbrev SC_SAMPLE.DEP_THR : Fld := ⟨0x0, 0, 16, .rw, 65535⟩

/-! SC_POLICER (Table SCH–8) -/
abbrev SC_POLICER.GREEN_PKTS : Fld := ⟨0x0, 472, 40, .ro, 0⟩
abbrev SC_POLICER.YELLOW_PKTS : Fld := ⟨0x0, 432, 40, .ro, 0⟩
abbrev SC_POLICER.RED_PKTS : Fld := ⟨0x0, 392, 40, .ro, 0⟩
abbrev SC_POLICER.TC : Fld := ⟨0x0, 360, 32, .ro, 0⟩
abbrev SC_POLICER.TP : Fld := ⟨0x0, 328, 32, .ro, 0⟩
abbrev SC_POLICER.CIR : Fld := ⟨0x0, 128, 32, .rw, 0⟩
abbrev SC_POLICER.PIR : Fld := ⟨0x0, 96, 32, .rw, 0⟩
abbrev SC_POLICER.CBS : Fld := ⟨0x0, 72, 24, .rw, 0⟩
abbrev SC_POLICER.PBS : Fld := ⟨0x0, 48, 24, .rw, 0⟩
abbrev SC_POLICER.YEL_DROP : Fld := ⟨0x0, 2, 1, .rw, 0⟩
abbrev SC_POLICER.EN : Fld := ⟨0x0, 0, 1, .rw, 0⟩

/-! CX_KEY (Table CPH–1) -/
abbrev CX_KEY.KEY : Fld := ⟨0x0, 256, 256, .rw, 0⟩
abbrev CX_KEY.USAGE : Fld := ⟨0x0, 208, 48, .ro, 0⟩
abbrev CX_KEY.HWM_SFC : Fld := ⟨0x0, 157, 51, .ro, 0⟩
abbrev CX_KEY.ACT_SFC : Fld := ⟨0x0, 106, 51, .rw, 0⟩
abbrev CX_KEY.HARD_LOG2 : Fld := ⟨0x0, 100, 6, .rw, 46⟩
abbrev CX_KEY.SOFT_LOG2 : Fld := ⟨0x0, 94, 6, .rw, 44⟩
abbrev CX_KEY.TAG_P : Fld := ⟨0x0, 93, 1, .ro, 0⟩
abbrev CX_KEY.TAG_TENANT : Fld := ⟨0x0, 88, 4, .rw, 0⟩
abbrev CX_KEY.TAG_TREE : Fld := ⟨0x0, 82, 6, .rw, 0⟩
abbrev CX_KEY.TAG_ONU : Fld := ⟨0x0, 74, 8, .rw, 0⟩
abbrev CX_KEY.FREEZE_CAUSE : Fld := ⟨0x0, 68, 4, .ro, 0⟩
abbrev CX_KEY.FROZEN : Fld := ⟨0x0, 7, 1, .ro, 0⟩
abbrev CX_KEY.SOFT_HIT : Fld := ⟨0x0, 6, 1, .ro, 0⟩
abbrev CX_KEY.ACTIVE_DS : Fld := ⟨0x0, 5, 1, .ro, 0⟩
abbrev CX_KEY.KIND : Fld := ⟨0x0, 3, 2, .rw, 0⟩
abbrev CX_KEY.ALG : Fld := ⟨0x0, 2, 1, .rw, 0⟩
abbrev CX_KEY.VALID : Fld := ⟨0x0, 0, 1, .rw, 0⟩

/-! CX_ONU_KEYS (Table CPH–3) -/
abbrev CX_ONU_KEYS.PLOAM_V : Fld := ⟨0x0, 31, 1, .rw, 0⟩
abbrev CX_ONU_KEYS.PLOAM_IK : Fld := ⟨0x0, 16, 15, .rw, 0⟩
abbrev CX_ONU_KEYS.OMCI_V : Fld := ⟨0x0, 15, 1, .rw, 0⟩
abbrev CX_ONU_KEYS.OMCI_IK : Fld := ⟨0x0, 0, 15, .rw, 0⟩

/-! CX_CTRL (Table CPH–6) -/
abbrev CX_CTRL.LOG_WRAP : Fld := ⟨0x100, 1, 1, .rw, 0⟩
abbrev CX_CTRL.JOB_EN : Fld := ⟨0x100, 0, 1, .rw, 1⟩

/-! CX_STAT (Table CPH–6) -/
abbrev CX_STAT.LOG_FULL : Fld := ⟨0x104, 31, 1, .ro, 0⟩
abbrev CX_STAT.LOG_COUNT : Fld := ⟨0x104, 16, 7, .ro, 0⟩
abbrev CX_STAT.CORES_BUSY : Fld := ⟨0x104, 0, 16, .ro, 0⟩

/-! CX_JOBQ_CFG (Table CPH–6) -/
abbrev CX_JOBQ_CFG.EN : Fld := ⟨0x108, 31, 1, .rwt, 0⟩
abbrev CX_JOBQ_CFG.SIZE_LOG2 : Fld := ⟨0x108, 0, 4, .rwt, 4⟩

/-! CX_JOBQ_PI (Table CPH–6) -/
abbrev CX_JOBQ_PI.PI : Fld := ⟨0x10c, 0, 13, .rwt, 0⟩

/-! CX_JOBQ_CI (Table CPH–6) -/
abbrev CX_JOBQ_CI.CI : Fld := ⟨0x110, 0, 13, .ro, 0⟩

/-! CX_JOB_WIN (Table CPH–7) -/
abbrev CX_JOB_WIN.BASE : Fld := ⟨0x0, 12, 15, .rw, 0⟩
abbrev CX_JOB_WIN.COUNT : Fld := ⟨0x0, 0, 11, .rw, 0⟩

/-! CX_KEY_LOG (Table CPH–7) -/
abbrev CX_KEY_LOG.SFC : Fld := ⟨0x0, 96, 32, .ro, 0⟩
abbrev CX_KEY_LOG.CTX : Fld := ⟨0x0, 81, 15, .ro, 0⟩
abbrev CX_KEY_LOG.EVENT : Fld := ⟨0x0, 77, 4, .ro, 0⟩
abbrev CX_KEY_LOG.TREE : Fld := ⟨0x0, 71, 6, .ro, 0⟩
abbrev CX_KEY_LOG.TIME : Fld := ⟨0x0, 0, 20, .ro, 0⟩

/-! TN_TENANT (Table TNT–6) -/
abbrev TN_TENANT.EPOCH : Fld := ⟨0x0, 112, 16, .ro, 0⟩
abbrev TN_TENANT.FLR_COUNT : Fld := ⟨0x0, 96, 16, .ro, 0⟩
abbrev TN_TENANT.ONU_COUNT : Fld := ⟨0x0, 68, 14, .ro, 0⟩
abbrev TN_TENANT.OMCI_EN : Fld := ⟨0x0, 2, 1, .rw, 0⟩
abbrev TN_TENANT.FLR_BUSY : Fld := ⟨0x0, 1, 1, .ro, 0⟩
abbrev TN_TENANT.EN : Fld := ⟨0x0, 0, 1, .rw, 0⟩

/-! TN_OWNER (Table TNT–7) -/
abbrev TN_OWNER.TENANT : Fld := ⟨0x0, 0, 4, .rw, 0⟩

/-! TN_SLOT (Table TNT–7) -/
abbrev TN_SLOT.VALID : Fld := ⟨0x0, 31, 1, .rw, 0⟩
abbrev TN_SLOT.PAGE : Fld := ⟨0x0, 0, 14, .rw, 0⟩

/-! TN_SEP_LAST (Table TNT–7) -/
abbrev TN_SEP_LAST.TENANT : Fld := ⟨0x100, 20, 4, .ro, 0⟩
abbrev TN_SEP_LAST.TIME : Fld := ⟨0x100, 0, 20, .ro, 0⟩

/-! TM_TOD0 (Table TIM–2) -/
abbrev TM_TOD0.SEC_LO : Fld := ⟨0x100, 0, 32, .ro, 0⟩

/-! TM_TOD1 (Table TIM–2) -/
abbrev TM_TOD1.SEC_HI : Fld := ⟨0x104, 16, 16, .ro, 0⟩
abbrev TM_TOD1.FRAC : Fld := ⟨0x104, 0, 16, .ro, 0⟩

/-! TM_TOD2 (Table TIM–2) -/
abbrev TM_TOD2.NS : Fld := ⟨0x108, 0, 32, .ro, 0⟩

/-! TM_TOD_CMD (Table TIM–2) -/
abbrev TM_TOD_CMD.OP : Fld := ⟨0x118, 28, 4, .rw, 0⟩
abbrev TM_TOD_CMD.STAT : Fld := ⟨0x118, 26, 2, .ro, 0⟩

/-! TM_SERVO (Table TIM–2) -/
abbrev TM_SERVO.EN : Fld := ⟨0x11c, 31, 1, .rw, 0⟩
abbrev TM_SERVO.SRC : Fld := ⟨0x11c, 30, 1, .rw, 0⟩
abbrev TM_SERVO.TRANSPORT : Fld := ⟨0x11c, 28, 2, .rw, 0⟩
abbrev TM_SERVO.PORT : Fld := ⟨0x11c, 23, 5, .rw, 0⟩
abbrev TM_SERVO.DOMAIN : Fld := ⟨0x11c, 8, 8, .rw, 0⟩
abbrev TM_SERVO.MATCH_EN : Fld := ⟨0x11c, 0, 1, .rw, 0⟩

/-! TM_SERVO_GAIN (Table TIM–2) -/
abbrev TM_SERVO_GAIN.KP : Fld := ⟨0x120, 16, 16, .rw, 512⟩
abbrev TM_SERVO_GAIN.KI : Fld := ⟨0x120, 0, 16, .rw, 128⟩

/-! TM_SERVO_LIM (Table TIM–2) -/
abbrev TM_SERVO_LIM.MAX_PPM : Fld := ⟨0x124, 24, 8, .rw, 100⟩
abbrev TM_SERVO_LIM.TIMEOUT_MS : Fld := ⟨0x124, 0, 16, .rw, 3000⟩

/-! TM_STEP_THR (Table TIM–2) -/
abbrev TM_STEP_THR.THR : Fld := ⟨0x128, 0, 32, .rw, 20000⟩

/-! TM_SERVO_MPD (Table TIM–2) -/
abbrev TM_SERVO_MPD.NS : Fld := ⟨0x12c, 8, 24, .rw, 0⟩
abbrev TM_SERVO_MPD.FRAC : Fld := ⟨0x12c, 0, 8, .rw, 0⟩

/-! TM_OFS_IN (Table TIM–2) -/
abbrev TM_OFS_IN.OFS : Fld := ⟨0x130, 0, 32, .wo, 0⟩

/-! TM_MASTER2 (Table TIM–2) -/
abbrev TM_MASTER2.PORT_NUM : Fld := ⟨0x13c, 0, 16, .rw, 0⟩

/-! TM_SERVO_ADJ (Table TIM–2) -/
abbrev TM_SERVO_ADJ.Y : Fld := ⟨0x140, 0, 32, .ro, 0⟩

/-! TM_SERVO_INT (Table TIM–2) -/
abbrev TM_SERVO_INT.I : Fld := ⟨0x144, 0, 32, .ro, 0⟩

/-! TM_SERVO_LAST (Table TIM–2) -/
abbrev TM_SERVO_LAST.THETA : Fld := ⟨0x148, 0, 32, .ro, 0⟩

/-! TM_XTAL_PPB (Table TIM–2) -/
abbrev TM_XTAL_PPB.XTAL : Fld := ⟨0x14c, 0, 32, .ro, 0⟩

/-! TM_STAT (Table TIM–2) -/
abbrev TM_STAT.HOLDOVER : Fld := ⟨0x150, 31, 1, .ro, 1⟩
abbrev TM_STAT.FREERUN : Fld := ⟨0x150, 30, 1, .ro, 0⟩
abbrev TM_STAT.CLAMPED : Fld := ⟨0x150, 29, 1, .ro, 0⟩
abbrev TM_STAT.TICK_STEP : Fld := ⟨0x150, 28, 1, .ro, 0⟩
abbrev TM_STAT.REF : Fld := ⟨0x150, 0, 2, .ro, 0⟩

/-! TM_TICK (Table TIM–2) -/
abbrev TM_TICK.SEC : Fld := ⟨0x154, 0, 32, .ro, 0⟩

/-! TM_RXTS_EN (Table TIM–3) -/
abbrev TM_RXTS_EN.EN : Fld := ⟨0x300, 0, 32, .rw, 0⟩

/-! TM_LAUNCH (Table TIM–3) -/
abbrev TM_LAUNCH.MAX_MS : Fld := ⟨0x304, 20, 12, .rw, 1000⟩
abbrev TM_LAUNCH.LEAD_US4 : Fld := ⟨0x304, 10, 10, .rw, 16⟩
abbrev TM_LAUNCH.LATE_US4 : Fld := ⟨0x304, 0, 10, .rw, 8⟩

/-! TM_ANN (Table TIM–5) -/
abbrev TM_ANN.TPL : Fld := ⟨0x0, 192, 320, .rw, 0⟩
abbrev TM_ANN.SEND_SFC : Fld := ⟨0x0, 141, 51, .rw, 0⟩
abbrev TM_ANN.TARGET_SFC : Fld := ⟨0x0, 90, 51, .rw, 0⟩
abbrev TM_ANN.OFS_PS : Fld := ⟨0x0, 58, 32, .rw, 0⟩
abbrev TM_ANN.XGEM_PORT : Fld := ⟨0x0, 42, 16, .rw, 0⟩
abbrev TM_ANN.ONU : Fld := ⟨0x0, 34, 8, .rw, 0⟩
abbrev TM_ANN.TOD_OFS : Fld := ⟨0x0, 28, 6, .rw, 0⟩
abbrev TM_ANN.SFC_OFS : Fld := ⟨0x0, 22, 6, .rw, 0⟩
abbrev TM_ANN.LEN : Fld := ⟨0x0, 16, 6, .rw, 0⟩
abbrev TM_ANN.SFC_EN : Fld := ⟨0x0, 9, 1, .rw, 0⟩
abbrev TM_ANN.TOD_EN : Fld := ⟨0x0, 8, 1, .rw, 0⟩
abbrev TM_ANN.OMCI : Fld := ⟨0x0, 7, 1, .rw, 0⟩
abbrev TM_ANN.STEPPED : Fld := ⟨0x0, 3, 1, .ro, 0⟩
abbrev TM_ANN.DONE : Fld := ⟨0x0, 2, 1, .ro, 0⟩
abbrev TM_ANN.FAIL : Fld := ⟨0x0, 1, 1, .ro, 0⟩
abbrev TM_ANN.ARM : Fld := ⟨0x0, 0, 1, .rw, 0⟩

/-! LN_LANE_CTRL (Table SLU–6) -/
abbrev LN_LANE_CTRL.LOOPBACK : Fld := ⟨0x100, 2, 2, .rw, 0⟩
abbrev LN_LANE_CTRL.RX_POL : Fld := ⟨0x100, 1, 1, .rw, 0⟩
abbrev LN_LANE_CTRL.TX_POL : Fld := ⟨0x100, 0, 1, .rw, 0⟩

/-! LN_TXEQ (Table SLU–6) -/
abbrev LN_TXEQ.SWING : Fld := ⟨0x104, 16, 5, .rw, 0⟩
abbrev LN_TXEQ.POST : Fld := ⟨0x104, 8, 6, .rw, 0⟩
abbrev LN_TXEQ.PRE : Fld := ⟨0x104, 0, 5, .rw, 0⟩

/-! LN_RX_ADAPT (Table SLU–6) -/
abbrev LN_RX_ADAPT.STATE : Fld := ⟨0x108, 16, 2, .ro, 0⟩
abbrev LN_RX_ADAPT.RESTART : Fld := ⟨0x108, 1, 1, .w1s, 0⟩
abbrev LN_RX_ADAPT.FREEZE : Fld := ⟨0x108, 0, 1, .rw, 0⟩

/-! LN_PSTATE (Table SLU–6) -/
abbrev LN_PSTATE.TRANS : Fld := ⟨0x10c, 8, 1, .ro, 0⟩
abbrev LN_PSTATE.STATE : Fld := ⟨0x10c, 4, 2, .ro, 2⟩
abbrev LN_PSTATE.TARGET : Fld := ⟨0x10c, 0, 2, .rw, 0⟩

/-! LN_STAT (Table SLU–6) -/
abbrev LN_STAT.CLK_GOOD : Fld := ⟨0x110, 31, 1, .ro, 0⟩
abbrev LN_STAT.SIG_DET : Fld := ⟨0x110, 30, 1, .ro, 0⟩
abbrev LN_STAT.CDR_LOCK : Fld := ⟨0x110, 29, 1, .ro, 0⟩

/-! LN_PRBS (Table SLU–6) -/
abbrev LN_PRBS.CLR : Fld := ⟨0x114, 17, 1, .w1s, 0⟩
abbrev LN_PRBS.CHK_LOCK : Fld := ⟨0x114, 16, 1, .ro, 0⟩
abbrev LN_PRBS.CHK_INV : Fld := ⟨0x114, 13, 1, .rw, 0⟩
abbrev LN_PRBS.GEN_INV : Fld := ⟨0x114, 12, 1, .rw, 0⟩
abbrev LN_PRBS.CHK_POLY : Fld := ⟨0x114, 8, 3, .rw, 4⟩
abbrev LN_PRBS.GEN_POLY : Fld := ⟨0x114, 4, 3, .rw, 4⟩
abbrev LN_PRBS.CHK_EN : Fld := ⟨0x114, 1, 1, .rw, 0⟩
abbrev LN_PRBS.GEN_EN : Fld := ⟨0x114, 0, 1, .rw, 0⟩

/-! LN_PRBS_INJ (Table SLU–6) -/
abbrev LN_PRBS_INJ.INJ : Fld := ⟨0x118, 31, 1, .w1s, 0⟩
abbrev LN_PRBS_INJ.PENDING : Fld := ⟨0x118, 30, 1, .ro, 0⟩
abbrev LN_PRBS_INJ.LEN : Fld := ⟨0x118, 0, 8, .rw, 1⟩

/-! LN_PRBS_ERR_LO (Table SLU–6) -/
abbrev LN_PRBS_ERR_LO.ERR_LO : Fld := ⟨0x11c, 0, 32, .ro, 0⟩

/-! LN_PRBS_ERR_HI (Table SLU–6) -/
abbrev LN_PRBS_ERR_HI.ERR_HI : Fld := ⟨0x120, 0, 16, .ro, 0⟩

/-! LN_PRBS_BITS_LO (Table SLU–6) -/
abbrev LN_PRBS_BITS_LO.BITS_LO : Fld := ⟨0x124, 0, 32, .ro, 0⟩

/-! LN_PRBS_BITS_HI (Table SLU–6) -/
abbrev LN_PRBS_BITS_HI.BITS_HI : Fld := ⟨0x128, 0, 16, .ro, 0⟩

/-! UL_PORT_CFG (Table SLU–7) -/
abbrev UL_PORT_CFG.LINK_UP_MS : Fld := ⟨0x100, 16, 10, .rw, 10⟩
abbrev UL_PORT_CFG.MAX_FRAME : Fld := ⟨0x100, 0, 16, .rw, 16388⟩

/-! UL_PORT_STAT (Table SLU–7) -/
abbrev UL_PORT_STAT.LINK_UP : Fld := ⟨0x104, 31, 1, .ro, 0⟩
abbrev UL_PORT_STAT.ALIGNED : Fld := ⟨0x104, 30, 1, .ro, 0⟩
abbrev UL_PORT_STAT.LOCAL_FAULT : Fld := ⟨0x104, 29, 1, .ro, 0⟩
abbrev UL_PORT_STAT.REMOTE_FAULT : Fld := ⟨0x104, 28, 1, .ro, 0⟩
abbrev UL_PORT_STAT.RATE : Fld := ⟨0x104, 0, 2, .ro, 0⟩

/-! CK_SRC_SEL (Table CLK–5) -/
abbrev CK_SRC_SEL.REFL_SLEW : Fld := ⟨0x100, 24, 8, .rw, 10⟩
abbrev CK_SRC_SEL.REF_MODE : Fld := ⟨0x100, 0, 2, .rw, 0⟩

/-! CK_STAT (Table CLK–5) -/
abbrev CK_STAT.XTAL_A_OK : Fld := ⟨0x104, 31, 1, .ro, 1⟩
abbrev CK_STAT.XTAL_B_OK : Fld := ⟨0x104, 30, 1, .ro, 1⟩
abbrev CK_STAT.SOSC_OK : Fld := ⟨0x104, 29, 1, .ro, 1⟩
abbrev CK_STAT.REFL_STATE : Fld := ⟨0x104, 2, 2, .ro, 0⟩
abbrev CK_STAT.REF : Fld := ⟨0x104, 0, 2, .ro, 0⟩

/-! CK_FAIL (Table CLK–5) -/
abbrev CK_FAIL.FAIL : Fld := ⟨0x108, 31, 1, .w1c, 0⟩
abbrev CK_FAIL.FIRST_SRC : Fld := ⟨0x108, 0, 6, .ro, 0⟩

/-! CK_GATE_TIMEOUT (Table CLK–5) -/
abbrev CK_GATE_TIMEOUT.VALID : Fld := ⟨0x10c, 31, 1, .w1c, 0⟩
abbrev CK_GATE_TIMEOUT.DOMAIN : Fld := ⟨0x10c, 0, 8, .ro, 0⟩

/-! CK_SW_DEAD_SRC (Table CLK–5) -/
abbrev CK_SW_DEAD_SRC.VALID : Fld := ⟨0x110, 31, 1, .w1c, 0⟩
abbrev CK_SW_DEAD_SRC.SRC : Fld := ⟨0x110, 8, 6, .ro, 0⟩
abbrev CK_SW_DEAD_SRC.DOMAIN : Fld := ⟨0x110, 0, 8, .ro, 0⟩

/-! CK_OBS (Table CLK–5) -/
abbrev CK_OBS.EN : Fld := ⟨0x114, 31, 1, .rw, 0⟩
abbrev CK_OBS.KIND : Fld := ⟨0x114, 30, 1, .rw, 0⟩
abbrev CK_OBS.SEL : Fld := ⟨0x114, 16, 8, .rw, 0⟩
abbrev CK_OBS.DIV : Fld := ⟨0x114, 0, 16, .rw, 0⟩

/-! CK_DOMAIN_CTRL (Table CLK–6) -/
abbrev CK_DOMAIN_CTRL.GATED : Fld := ⟨0x0, 31, 1, .ro, 0⟩
abbrev CK_DOMAIN_CTRL.CLK_GOOD : Fld := ⟨0x0, 30, 1, .ro, 0⟩
abbrev CK_DOMAIN_CTRL.BUSY : Fld := ⟨0x0, 29, 1, .ro, 0⟩
abbrev CK_DOMAIN_CTRL.STOPPED : Fld := ⟨0x0, 28, 1, .ro, 0⟩
abbrev CK_DOMAIN_CTRL.CUR_SRC : Fld := ⟨0x0, 22, 6, .ro, 0⟩
abbrev CK_DOMAIN_CTRL.SRC : Fld := ⟨0x0, 16, 6, .rw, 0⟩
abbrev CK_DOMAIN_CTRL.GATE : Fld := ⟨0x0, 0, 1, .rw, 0⟩

/-! CK_LOOP (Table CLK–7) -/
abbrev CK_LOOP.FREQ_KHZ : Fld := ⟨0x0, 32, 32, .ro, 0⟩
abbrev CK_LOOP.FAILED : Fld := ⟨0x0, 6, 1, .ro, 0⟩
abbrev CK_LOOP.LOCKED : Fld := ⟨0x0, 5, 1, .ro, 0⟩
abbrev CK_LOOP.HOLDOVER : Fld := ⟨0x0, 4, 1, .ro, 0⟩
abbrev CK_LOOP.EN : Fld := ⟨0x0, 0, 1, .rw, 1⟩

/-! RS_RESET_CTRL (Table PWR–10) -/
abbrev RS_RESET_CTRL.OP : Fld := ⟨0x100, 28, 4, .wo, 0⟩
abbrev RS_RESET_CTRL.DOMAIN : Fld := ⟨0x100, 16, 8, .rw, 0⟩
abbrev RS_RESET_CTRL.HOT_WARM : Fld := ⟨0x100, 1, 1, .rws, 0⟩
abbrev RS_RESET_CTRL.PIN_WARM : Fld := ⟨0x100, 0, 1, .rws, 0⟩

/-! RS_STAT (Table PWR–10) -/
abbrev RS_STAT.RETAIN_VALID : Fld := ⟨0x104, 31, 1, .ro, 0⟩
abbrev RS_STAT.CAL_DEFAULT : Fld := ⟨0x104, 30, 1, .ro, 0⟩
abbrev RS_STAT.REL_PEND_CLK : Fld := ⟨0x104, 29, 1, .ro, 0⟩
abbrev RS_STAT.BUSY : Fld := ⟨0x104, 28, 1, .ro, 0⟩
abbrev RS_STAT.PEND_DOMAIN : Fld := ⟨0x104, 20, 8, .ro, 0⟩
abbrev RS_STAT.LAST_SOURCE : Fld := ⟨0x104, 16, 4, .ro, 1⟩
abbrev RS_STAT.LAST_SCOPE : Fld := ⟨0x104, 14, 2, .ro, 3⟩
abbrev RS_STAT.PHASE : Fld := ⟨0x104, 11, 3, .ro, 0⟩

/-! RS_WDT (Table PWR–10) -/
abbrev RS_WDT.EN : Fld := ⟨0x108, 31, 1, .rws, 0⟩
abbrev RS_WDT.WDT_COLD : Fld := ⟨0x108, 30, 1, .rws, 0⟩
abbrev RS_WDT.KICK : Fld := ⟨0x108, 29, 1, .w1s, 0⟩
abbrev RS_WDT.PERIOD_MS : Fld := ⟨0x108, 0, 16, .rws, 1000⟩

/-! RS_CAL_CMD (Table PWR–10) -/
abbrev RS_CAL_CMD.OP : Fld := ⟨0x10c, 28, 4, .rw, 0⟩
abbrev RS_CAL_CMD.STAT : Fld := ⟨0x10c, 26, 2, .ro, 0⟩

/-! RS_CAL_STAT (Table PWR–10) -/
abbrev RS_CAL_STAT.INCOMPLETE : Fld := ⟨0x110, 31, 1, .w1c, 0⟩
abbrev RS_CAL_STAT.VERIFY_FAIL : Fld := ⟨0x110, 30, 1, .w1c, 0⟩
abbrev RS_CAL_STAT.BANK : Fld := ⟨0x110, 29, 1, .ro, 0⟩

/-! RS_CAL_SEQ (Table PWR–10) -/
abbrev RS_CAL_SEQ.SEQ : Fld := ⟨0x114, 0, 32, .ro, 0⟩

/-! RS_CAL_CRC (Table PWR–10) -/
abbrev RS_CAL_CRC.CRC : Fld := ⟨0x118, 0, 32, .ro, 0⟩

/-! RS_LW_CFG (Table PWR–10) -/
abbrev RS_LW_CFG.EN : Fld := ⟨0x11c, 31, 1, .rws, 1⟩
abbrev RS_LW_CFG.SRC_OFS64 : Fld := ⟨0x11c, 0, 10, .rws, 0⟩

/-! RS_LW_STAT (Table PWR–10) -/
abbrev RS_LW_STAT.ARMED : Fld := ⟨0x120, 31, 1, .ro, 0⟩
abbrev RS_LW_STAT.VALID : Fld := ⟨0x120, 30, 1, .ro, 0⟩

/-! PW_FEED_STATUS (Table PWR–11) -/
abbrev PW_FEED_STATUS.POWER_GOOD : Fld := ⟨0x100, 31, 1, .ro, 1⟩
abbrev PW_FEED_STATUS.HOLDUP_OK : Fld := ⟨0x100, 30, 1, .ro, 0⟩
abbrev PW_FEED_STATUS.CARRY_B : Fld := ⟨0x100, 7, 1, .ro, 1⟩
abbrev PW_FEED_STATUS.STATE_B : Fld := ⟨0x100, 4, 3, .ro, 4⟩
abbrev PW_FEED_STATUS.CARRY_A : Fld := ⟨0x100, 3, 1, .ro, 1⟩
abbrev PW_FEED_STATUS.STATE_A : Fld := ⟨0x100, 0, 3, .ro, 4⟩

/-! PW_INPUT (Table PWR–11) -/
abbrev PW_INPUT.CURRENT : Fld := ⟨0x10c, 16, 16, .ro, 0⟩
abbrev PW_INPUT.POWER : Fld := ⟨0x10c, 0, 16, .ro, 0⟩

/-! FT_CTRL (Table FLT–4) -/
abbrev FT_CTRL.COAL_MS : Fld := ⟨0x100, 8, 10, .rw, 1⟩
abbrev FT_CTRL.FAULT_MIN : Fld := ⟨0x100, 4, 3, .rw, 2⟩
abbrev FT_CTRL.RING_MSG : Fld := ⟨0x100, 0, 1, .rw, 0⟩

/-! FT_STAT (Table FLT–4) -/
abbrev FT_STAT.FAULT_LOW : Fld := ⟨0x104, 31, 1, .ro, 0⟩
abbrev FT_STAT.MISMATCH : Fld := ⟨0x104, 30, 1, .ro, 0⟩
abbrev FT_STAT.RING_FULL : Fld := ⟨0x104, 29, 1, .ro, 0⟩
abbrev FT_STAT.LASTING_N : Fld := ⟨0x104, 0, 15, .ro, 0⟩

/-! FT_RING_PI (Table FLT–4) -/
abbrev FT_RING_PI.PI : Fld := ⟨0x108, 0, 13, .ro, 0⟩

/-! FT_RING_CI (Table FLT–4) -/
abbrev FT_RING_CI.CI : Fld := ⟨0x10c, 0, 13, .rw, 0⟩

/-! FT_CMD (Table FLT–4) -/
abbrev FT_CMD.OP : Fld := ⟨0x110, 28, 4, .rw, 0⟩
abbrev FT_CMD.STAT : Fld := ⟨0x110, 26, 2, .ro, 0⟩
abbrev FT_CMD.CLASS : Fld := ⟨0x110, 8, 6, .rw, 0⟩
abbrev FT_CMD.INST : Fld := ⟨0x110, 0, 8, .rw, 0⟩

/-! FT_DROPPED (Table FLT–4) -/
abbrev FT_DROPPED.COUNT : Fld := ⟨0x114, 0, 16, .ro, 0⟩

/-! FT_CLASS (Table FLT–5) -/
abbrev FT_CLASS.W_MS : Fld := ⟨0x0, 24, 22, .rw, 0⟩
abbrev FT_CLASS.N : Fld := ⟨0x0, 16, 8, .rw, 0⟩
abbrev FT_CLASS.SCOPE : Fld := ⟨0x0, 8, 3, .ro, 0⟩
abbrev FT_CLASS.FIXED : Fld := ⟨0x0, 7, 1, .ro, 0⟩
abbrev FT_CLASS.REC : Fld := ⟨0x0, 6, 1, .rw, 0⟩
abbrev FT_CLASS.ACTION : Fld := ⟨0x0, 0, 3, .rw, 0⟩

/-! FT_EVENT (Table FLT–6) -/
abbrev FT_EVENT.BITMAP : Fld := ⟨0x0, 256, 256, .ro, 0⟩
abbrev FT_EVENT.SEC : Fld := ⟨0x0, 224, 32, .ro, 0⟩
abbrev FT_EVENT.NS : Fld := ⟨0x0, 192, 32, .ro, 0⟩
abbrev FT_EVENT.COUNT : Fld := ⟨0x0, 176, 16, .ro, 0⟩
abbrev FT_EVENT.DROPPED : Fld := ⟨0x0, 160, 16, .ro, 0⟩
abbrev FT_EVENT.DETAIL : Fld := ⟨0x0, 128, 32, .ro, 0⟩
abbrev FT_EVENT.INST : Fld := ⟨0x0, 120, 8, .ro, 0⟩
abbrev FT_EVENT.CLASS : Fld := ⟨0x0, 114, 6, .ro, 0⟩
abbrev FT_EVENT.KIND : Fld := ⟨0x0, 111, 3, .ro, 0⟩
abbrev FT_EVENT.ACT : Fld := ⟨0x0, 108, 3, .ro, 0⟩
abbrev FT_EVENT.TENANT : Fld := ⟨0x0, 104, 4, .ro, 0⟩
abbrev FT_EVENT.LASTING : Fld := ⟨0x0, 103, 1, .ro, 0⟩
abbrev FT_EVENT.INJ : Fld := ⟨0x0, 102, 1, .ro, 0⟩
abbrev FT_EVENT.SEQ : Fld := ⟨0x0, 64, 32, .ro, 0⟩

/-! FT_INST (Table FLT–7) -/
abbrev FT_INST.TOTAL : Fld := ⟨0x0, 40, 24, .ro, 0⟩
abbrev FT_INST.WCOUNT : Fld := ⟨0x0, 32, 8, .ro, 0⟩
abbrev FT_INST.W_LEFT_MS : Fld := ⟨0x0, 10, 22, .ro, 0⟩
abbrev FT_INST.ACT : Fld := ⟨0x0, 7, 3, .ro, 0⟩
abbrev FT_INST.WOPEN : Fld := ⟨0x0, 1, 1, .ro, 0⟩
abbrev FT_INST.LASTING : Fld := ⟨0x0, 0, 1, .ro, 0⟩

/-! RS_KEYS (Table FLT–8) -/
abbrev RS_KEYS.QREL : Fld := ⟨0x140, 31, 1, .rw, 0⟩
abbrev RS_KEYS.QUENCH_PIN : Fld := ⟨0x140, 30, 1, .ro, 0⟩
abbrev RS_KEYS.QUENCH_ALL : Fld := ⟨0x140, 29, 1, .ro, 0⟩
abbrev RS_KEYS.MISMATCH : Fld := ⟨0x140, 28, 1, .ro, 0⟩

/-! RS_SUP_CTRL (Table FLT–8) -/
abbrev RS_SUP_CTRL.CMP_TEST : Fld := ⟨0x154, 0, 1, .w1s, 0⟩

/-! RS_SUP_STAT (Table FLT–8) -/
abbrev RS_SUP_STAT.CMP_OK : Fld := ⟨0x158, 31, 1, .ro, 0⟩
abbrev RS_SUP_STAT.CMP_RUN : Fld := ⟨0x158, 30, 1, .ro, 0⟩
abbrev RS_SUP_STAT.MISMATCH_SIG : Fld := ⟨0x158, 0, 16, .ro, 0⟩

/-! RS_HOLD_STAT (Table FLT–8) -/
abbrev RS_HOLD_STAT.OUT_TOGGLING : Fld := ⟨0x15c, 0, 2, .ro, 0⟩

/-! HI_ERR (Table HIF–12) -/
abbrev HI_ERR.CODE : Fld := ⟨0x100, 28, 4, .ro, 0⟩
abbrev HI_ERR.FUNC : Fld := ⟨0x100, 24, 4, .ro, 0⟩
abbrev HI_ERR.RD : Fld := ⟨0x100, 23, 1, .ro, 0⟩

/-! HI_ERR_ADDR (Table HIF–12) -/
abbrev HI_ERR_ADDR.OFS : Fld := ⟨0x104, 0, 26, .ro, 0⟩

/-! HI_ERR_CNT (Table HIF–12) -/
abbrev HI_ERR_CNT.COUNT : Fld := ⟨0x108, 0, 32, .rc, 0⟩

/-! HI_LINK (Table HIF–12) -/
abbrev HI_LINK.L0 : Fld := ⟨0x10c, 31, 1, .ro, 0⟩
abbrev HI_LINK.RATE : Fld := ⟨0x10c, 8, 3, .ro, 0⟩
abbrev HI_LINK.WIDTH : Fld := ⟨0x10c, 0, 4, .ro, 0⟩

/-! HI_OMCI_DROP (Table HIF–12) -/
abbrev HI_OMCI_DROP.COUNT : Fld := ⟨0x110, 0, 32, .rc, 0⟩

/-! CV_CTRL (Table HIF–14) -/
abbrev CV_CTRL.PATH : Fld := ⟨0x100, 31, 1, .rw, 0⟩
abbrev CV_CTRL.START : Fld := ⟨0x100, 2, 1, .rwt, 0⟩
abbrev CV_CTRL.ALG : Fld := ⟨0x100, 0, 2, .rwt, 0⟩

/-! CV_INIT (Table HIF–14) -/
abbrev CV_INIT.INIT : Fld := ⟨0x104, 0, 32, .rwt, 4294967295⟩

/-! CV_DATA8 (Table HIF–14) -/
abbrev CV_DATA8.D : Fld := ⟨0x108, 0, 8, .wo, 0⟩

/-! CV_DATA16 (Table HIF–14) -/
abbrev CV_DATA16.D : Fld := ⟨0x10c, 0, 16, .wo, 0⟩

/-! CV_DATA32 (Table HIF–14) -/
abbrev CV_DATA32.D : Fld := ⟨0x110, 0, 32, .wo, 0⟩

/-! CV_RESULT (Table HIF–14) -/
abbrev CV_RESULT.CHECK : Fld := ⟨0x114, 0, 32, .ro, 0⟩

/-! CV_STAT (Table HIF–14) -/
abbrev CV_STAT.FAIL : Fld := ⟨0x118, 16, 16, .rc, 0⟩
abbrev CV_STAT.BYTES : Fld := ⟨0x118, 0, 16, .ro, 0⟩

/-! PM_SEL (Table HIF–15) -/
abbrev PM_SEL.EVENT : Fld := ⟨0x0, 56, 8, .rw, 0⟩
abbrev PM_SEL.INSTANCE : Fld := ⟨0x0, 38, 18, .rw, 0⟩
abbrev PM_SEL.N : Fld := ⟨0x0, 14, 24, .rw, 0⟩

/-! PM_ACCESS (Table HIF–15) -/
abbrev PM_ACCESS.READ_MASK : Fld := ⟨0x0, 0, 16, .rw, 1⟩

/-! PM_SNAP_TIME -/
abbrev PM_SNAP_TIME.SEC_LO : Fld := ⟨0x304, 0, 32, .ro, 0⟩
abbrev PM_SNAP_TIME.SEC_HI : Fld := ⟨0x308, 16, 16, .ro, 0⟩
abbrev PM_SNAP_TIME.FRAC : Fld := ⟨0x308, 0, 16, .ro, 0⟩
abbrev PM_SNAP_TIME.NS : Fld := ⟨0x30c, 0, 32, .ro, 0⟩

/-! TM_TOD_SET -/
abbrev TM_TOD_SET.SEC_LO : Fld := ⟨0x10c, 0, 32, .rw, 0⟩
abbrev TM_TOD_SET.SEC_HI : Fld := ⟨0x110, 16, 16, .rw, 0⟩
abbrev TM_TOD_SET.FRAC : Fld := ⟨0x110, 0, 16, .rw, 0⟩
abbrev TM_TOD_SET.NS : Fld := ⟨0x114, 0, 32, .rw, 0⟩

/-! PM_SNAP_CMD -/
abbrev PM_SNAP_CMD.SNAP : Fld := ⟨0x300, 0, 1, .rwt, 0⟩

/-! INT_RAW (Table REG–7) -/
abbrev INT_RAW.RAW : Fld := ⟨0x10, 0, 32, .w1c, 0⟩

/-! INT_EN (Table REG–7) -/
abbrev INT_EN.EN : Fld := ⟨0x14, 0, 32, .rw, 0⟩

/-! INT_PEND (Table REG–7) -/
abbrev INT_PEND.PEND : Fld := ⟨0x18, 0, 32, .ro, 0⟩

/-! INT_FORCE (Table REG–7) -/
abbrev INT_FORCE.FORCE : Fld := ⟨0x1c, 0, 32, .w1s, 0⟩

/-! CX_JOBQ_BASE (Table CPH–6) -/
abbrev CX_JOBQ_BASE.LO : Fld := ⟨0x100, 0, 32, .rwt, 0⟩
abbrev CX_JOBQ_BASE.HI : Fld := ⟨0x104, 0, 32, .rwt, 0⟩

/-! PW_FEED_A_MV (Table PWR–11) -/
abbrev PW_FEED_A_MV.MAG : Fld := ⟨0x104, 0, 16, .ro, 4800⟩

/-! PW_FEED_B_MV (Table PWR–11) -/
abbrev PW_FEED_B_MV.MAG : Fld := ⟨0x108, 0, 16, .ro, 4800⟩

/-! TN_SEP_COUNT (R309) -/
abbrev TN_SEP_COUNT.SUM : Fld := ⟨0x108, 0, 32, .ro, 0⟩

/-! BW_MIRROR_SFC_LO (Table BW–8) -/
abbrev BW_MIRROR_SFC_LO.SFC : Fld := ⟨0x10c, 0, 32, .ro, 0⟩

/-! BW_MIRROR_SFC_HI (Table BW–8) -/
abbrev BW_MIRROR_SFC_HI.SFC : Fld := ⟨0x110, 0, 19, .ro, 0⟩

/-! CL_NODE (Table CLS–10) -/
abbrev CL_NODE.KIND : Fld := ⟨0x0, 510, 2, .rw, 0⟩
abbrev CL_NODE.OFFSET : Fld := ⟨0x0, 490, 11, .rw, 0⟩
abbrev CL_NODE.WIDTHM1 : Fld := ⟨0x0, 486, 4, .rw, 0⟩
abbrev CL_NODE.NT : Fld := ⟨0x0, 483, 3, .rw, 0⟩

/-! CL_LEAF (Table CLS–11) -/
abbrev CL_LEAF.RULE_ID : Fld := ⟨0x0, 480, 16, .rw, 0⟩
abbrev CL_LEAF.ACTION : Fld := ⟨0x0, 477, 3, .rw, 0⟩
abbrev CL_LEAF.TARGET : Fld := ⟨0x0, 456, 18, .rw, 0⟩
abbrev CL_LEAF.MIRROR_DIR : Fld := ⟨0x0, 455, 1, .rw, 0⟩
abbrev CL_LEAF.MIRROR_TARGET : Fld := ⟨0x0, 437, 18, .rw, 0⟩
abbrev CL_LEAF.REASON : Fld := ⟨0x0, 429, 8, .rw, 0⟩

/-! HY_ALLOC (Table HY–7) -/
abbrev HY_ALLOC.VALID : Fld := ⟨0x0, 32, 1, .ro, 0⟩
abbrev HY_ALLOC.WIRE_ID : Fld := ⟨0x0, 18, 14, .ro, 0⟩
abbrev HY_ALLOC.TREE : Fld := ⟨0x0, 12, 6, .ro, 0⟩
abbrev HY_ALLOC.ONU : Fld := ⟨0x0, 4, 8, .ro, 0⟩
abbrev HY_ALLOC.TENANT : Fld := ⟨0x0, 0, 4, .ro, 0⟩

/-! HY_ONU (Table HY–7) -/
abbrev HY_ONU.PROF_MAP : Fld := ⟨0x0, 3, 16, .ro, 0⟩
abbrev HY_ONU.STATE : Fld := ⟨0x0, 0, 3, .ro, 0⟩

/-! HY_PROF (Table HY–7) -/
abbrev HY_PROF.VALID : Fld := ⟨0x0, 8, 1, .ro, 0⟩
abbrev HY_PROF.OH_BLOCKS : Fld := ⟨0x0, 0, 8, .ro, 0⟩

/-! HY_CEIL (Table HY–7) -/
abbrev HY_CEIL.CEIL_BLK : Fld := ⟨0x0, 0, 16, .ro, 65535⟩

/-! RAW (a table entry without fields of its own: word i) -/
abbrev RAW.W0 : Fld := ⟨0x0, 0, 32, .rw, 0⟩
abbrev RAW.W1 : Fld := ⟨0x0, 32, 32, .rw, 0⟩
abbrev RAW.W2 : Fld := ⟨0x0, 64, 32, .rw, 0⟩
abbrev RAW.W3 : Fld := ⟨0x0, 96, 32, .rw, 0⟩
abbrev RAW.W4 : Fld := ⟨0x0, 128, 32, .rw, 0⟩
abbrev RAW.W5 : Fld := ⟨0x0, 160, 32, .rw, 0⟩
abbrev RAW.W6 : Fld := ⟨0x0, 192, 32, .rw, 0⟩
abbrev RAW.W7 : Fld := ⟨0x0, 224, 32, .rw, 0⟩
abbrev RAW.W8 : Fld := ⟨0x0, 256, 32, .rw, 0⟩
abbrev RAW.W9 : Fld := ⟨0x0, 288, 32, .rw, 0⟩
abbrev RAW.W10 : Fld := ⟨0x0, 320, 32, .rw, 0⟩
abbrev RAW.W11 : Fld := ⟨0x0, 352, 32, .rw, 0⟩
abbrev RAW.W12 : Fld := ⟨0x0, 384, 32, .rw, 0⟩
abbrev RAW.W13 : Fld := ⟨0x0, 416, 32, .rw, 0⟩
abbrev RAW.W14 : Fld := ⟨0x0, 448, 32, .rw, 0⟩
abbrev RAW.W15 : Fld := ⟨0x0, 480, 32, .rw, 0⟩

/-! TBL_DATA: one field per index -/
def TBL_DATA.D (k : Nat) : Fld := ⟨0x40 + 4 * k, 0, 32, .rwt, 0⟩

/-! TM_TSQ: one field per index -/
def TM_TSQ.VALID (k : Nat) : Fld := ⟨0x100 + 16 * k, 31, 1, .rc, 0⟩
def TM_TSQ.DROPPED (k : Nat) : Fld := ⟨0x100 + 16 * k, 30, 1, .rc, 0⟩
def TM_TSQ.OVF (k : Nat) : Fld := ⟨0x100 + 16 * k, 29, 1, .rc, 0⟩
def TM_TSQ.LEFT (k : Nat) : Fld := ⟨0x100 + 16 * k, 16, 5, .rc, 0⟩
def TM_TSQ.ID (k : Nat) : Fld := ⟨0x100 + 16 * k, 0, 16, .rc, 0⟩

/-! TM_TSQ_TS: one field per index -/
def TM_TSQ_TS.SEC_LO (k : Nat) : Fld := ⟨0x104 + 16 * k, 0, 32, .ro, 0⟩
def TM_TSQ_TS.SEC_HI (k : Nat) : Fld := ⟨0x108 + 16 * k, 16, 16, .ro, 0⟩
def TM_TSQ_TS.FRAC (k : Nat) : Fld := ⟨0x108 + 16 * k, 0, 16, .ro, 0⟩
def TM_TSQ_TS.NS (k : Nat) : Fld := ⟨0x10c + 16 * k, 0, 32, .ro, 0⟩

/-! TM_MASTER: one field per index -/
def TM_MASTER.CLOCK_ID (k : Nat) : Fld := ⟨0x134 + 4 * k, 0, 32, .rw, 0⟩

/-! UL_OCTET_CFG: one field per index -/
def UL_OCTET_CFG.MODE (k : Nat) : Fld := ⟨0x100, 2 * k, 2, .rw, 0⟩

/-! HY_SAFE_STAT: one field per index -/
def HY_SAFE_STAT.BIT (n : Nat) : Fld := ⟨0x108 + 4 * (n / 32), n % 32, 1, .ro, 0⟩

/-! HY_SAFE_LOCK: one field per index -/
def HY_SAFE_LOCK.BIT (n : Nat) : Fld := ⟨0x110 + 4 * (n / 32), n % 32, 1, .rw, 0⟩

/-! PX_ACTIVE: one field per index -/
def PX_ACTIVE.BIT (n : Nat) : Fld := ⟨0x104 + 4 * (n / 32), n % 32, 1, .ro, 0⟩

/-! PX_READY: one field per index -/
def PX_READY.BIT (n : Nat) : Fld := ⟨0x10c + 4 * (n / 32), n % 32, 1, .ro, 0⟩

/-! RS_KEYB: one field per index -/
def RS_KEYB.BIT (n : Nat) : Fld := ⟨0x144 + 4 * (n / 32), n % 32, 1, .ro, 0⟩

/-! RS_CTLBIT: one field per index -/
def RS_CTLBIT.BIT (n : Nat) : Fld := ⟨0x14c + 4 * (n / 32), n % 32, 1, .ro, 0⟩

/-! SC_OVH: one field per index -/
def SC_OVH.OVH (k : Nat) : Fld := ⟨0x110 + 4 * k, 0, 9, .rw, if k ≤ 4 then 8 else 24⟩

/-! RS_BACKUP: one field per index -/
def RS_BACKUP.DATA (k : Nat) : Fld := ⟨0x180 + 4 * k, 0, 32, .rw, 0⟩

/-! HI_RING_BASE: one field per index -/
def HI_RING_BASE.BASE_LO (r : Nat) : Fld := ⟨0x100 + 16 * r, 6, 26, .rwt, 0⟩
def HI_RING_BASE.BASE_HI (r : Nat) : Fld := ⟨0x104 + 16 * r, 0, 32, .rwt, 0⟩

/-! HI_RING_CFG: one field per index -/
def HI_RING_CFG.EN (r : Nat) : Fld := ⟨0x108 + 16 * r, 31, 1, .rwt, 0⟩
def HI_RING_CFG.ERR (r : Nat) : Fld := ⟨0x108 + 16 * r, 30, 1, .ro, 0⟩
def HI_RING_CFG.VECTOR (r : Nat) : Fld := ⟨0x108 + 16 * r, 24, 6, .rwt, 0⟩
def HI_RING_CFG.CLASSES (r : Nat) : Fld := ⟨0x108 + 16 * r, 18, 6, .rwt, 0⟩
def HI_RING_CFG.COAL_US (r : Nat) : Fld := ⟨0x108 + 16 * r, 8, 8, .rwt, 0⟩
def HI_RING_CFG.COAL_N_LOG2 (r : Nat) : Fld := ⟨0x108 + 16 * r, 4, 4, .rwt, 0⟩
def HI_RING_CFG.SIZE_LOG2 (r : Nat) : Fld := ⟨0x108 + 16 * r, 0, 4, .rwt, 4⟩

/-! HI_RING_IDX: one field per index -/
def HI_RING_IDX.CI (r : Nat) : Fld := ⟨0x10c + 16 * r, 16, 13, if r < 8 then .ro else .rwt, 0⟩
def HI_RING_IDX.PI (r : Nat) : Fld := ⟨0x10c + 16 * r, 0, 13, if r < 8 then .rwt else .ro, 0⟩

/-! PM_CNT: one field per index -/
def PM_CNT.LO (k : Nat) : Fld := ⟨0x100 + 8 * k, 0, 32, .ro, 0⟩
def PM_CNT.HI (k : Nat) : Fld := ⟨0x104 + 8 * k, 0, 16, .ro, 0⟩

/-! PM_SNAPV: one field per index -/
def PM_SNAPV.LO (k : Nat) : Fld := ⟨0x200 + 8 * k, 0, 32, .ro, 0⟩
def PM_SNAPV.HI (k : Nat) : Fld := ⟨0x204 + 8 * k, 0, 16, .ro, 0⟩

/-! BP_ACCOUNT: one field per index -/
def BP_ACCOUNT.USE (p : Nat) : Fld := ⟨0, 64 * p + 40, 20, .ro, 0⟩
def BP_ACCOUNT.MAX (p : Nat) : Fld := ⟨0, 64 * p + 20, 20, .rw, 0⟩
def BP_ACCOUNT.RES (p : Nat) : Fld := ⟨0, 64 * p + 0, 20, .rw, 0⟩

/-! CL_NODE: one field per index -/
def CL_NODE.THRESH (k : Nat) : Fld := ⟨0, 464 - 16 * k, 16, .rw, 0⟩
def CL_NODE.CHILD (k : Nat) : Fld := ⟨0, 32 * k, 18, .rw, 0⟩

end Sys2Proof.Machine
end

