-- ==== Sys2Proof/Machine/Space.lean ====
section
/-! DEFINITION. The address space of the block: every register page of the physical function's BAR0 (Table REG–1,
R26) and every indirect table, with the fields each holds, what its PAGE_CAP reads, its clock domain (Table CLK–4)
and its reset contents. -/

namespace Sys2Proof.Machine

/-- A register page (R26).  An index that its chapter does not define makes no page: see `Page.ofNum`. -/
inductive Page
  | gl | ck | rs | pw | ft
  | tm (i : Nat)
  | hi0 | hir (f : Nat) | cv (u : Nat)
  | te (n p : Nat)
  | bw0 | bw1 | bwt (n : Nat)
  | hy0 | hy1 | bd | px0 | pxl (k : Nat)
  | cl (i : Nat) | bp (i : Nat) | sc (i : Nat)
  | cx0 | cx1 | cxt (t : Nat)
  | ln (i : Nat) | ul0 | ulp (u : Nat)
  | pm0 | pmg (g : Nat) | tn
  | hdr (t : Nat)
  deriving DecidableEq, Repr

/-- The page's number: its BAR0 offset divided by 4 KB (Table REG–1). -/
def Page.num : Page → Nat
  | .gl => 0x0 | .ck => 0x1 | .rs => 0x2 | .pw => 0x3 | .ft => 0x4
  | .tm i => 0x10 + i
  | .hi0 => 0x20 | .hir f => 0x30 + f | .cv u => 0xa0 + u
  | .te n p => 0x100 + n * 0x20 + p
  | .bw0 => 0x700 | .bw1 => 0x701 | .bwt n => 0x710 + n
  | .hy0 => 0x740 | .hy1 => 0x741 | .bd => 0x760 | .px0 => 0x780 | .pxl k => 0x781 + k
  | .cl i => 0x800 + i | .bp i => 0x900 + i | .sc i => 0xa00 + i
  | .cx0 => 0xb00 | .cx1 => 0xb01 | .cxt t => 0xb10 + t
  | .ln i => 0xc00 + i | .ul0 => 0xd00 | .ulp u => 0xd01 + u
  | .pm0 => 0xe00 | .pmg g => 0xe01 + g | .tn => 0xf00
  | .hdr t => 0x2000 + t * 0x200

/-- The page at a page number of BAR0; `none` where the address map or the region's chapter defines none (R28). -/
def Page.ofNum (k : Nat) : Option Page :=
  if k < 5 then
    some (if k = 0 then .gl else if k = 1 then .ck else if k = 2 then .rs else if k = 3 then .pw else .ft)
  else if k < 0x10 then none
  else if k < 0x13 then some (.tm (k - 0x10))
  else if k = 0x20 then some .hi0
  else if 0x30 ≤ k ∧ k < 0x40 then some (.hir (k - 0x30))
  else if 0xa0 ≤ k ∧ k < 0xa8 then some (.cv (k - 0xa0))
  else if 0x100 ≤ k ∧ k < 0x700 then
    if (k - 0x100) % 0x20 < 3 then some (.te ((k - 0x100) / 0x20) ((k - 0x100) % 0x20)) else none
  else if k = 0x700 then some .bw0
  else if k = 0x701 then some .bw1
  else if 0x710 ≤ k ∧ k < 0x740 then some (.bwt (k - 0x710))
  else if k = 0x740 then some .hy0
  else if k = 0x741 then some .hy1
  else if k = 0x760 then some .bd
  else if k = 0x780 then some .px0
  else if k = 0x781 ∨ k = 0x782 then some (.pxl (k - 0x781))
  else if 0x800 ≤ k ∧ k < 0x805 then some (.cl (k - 0x800))
  else if 0x900 ≤ k ∧ k < 0x903 then some (.bp (k - 0x900))
  else if 0xa00 ≤ k ∧ k < 0xa06 then some (.sc (k - 0xa00))
  else if k = 0xb00 then some .cx0
  else if k = 0xb01 then some .cx1
  else if 0xb10 ≤ k ∧ k < 0xb20 then some (.cxt (k - 0xb10))
  else if 0xc00 ≤ k ∧ k < 0xc58 then some (.ln (k - 0xc00))
  else if k = 0xd00 then some .ul0
  else if 0xd01 ≤ k ∧ k < 0xd21 then some (.ulp (k - 0xd01))
  else if k = 0xe00 then some .pm0
  else if 0xe01 ≤ k ∧ k < 0xe81 then some (.pmg (k - 0xe01))
  else if k = 0xf00 then some .tn
  else if 0x2000 ≤ k ∧ k < 0x4000 ∧ (k - 0x2000) % 0x200 = 0 then some (.hdr ((k - 0x2000) / 0x200))
  else none

/-- The block code of Table REG–1. -/
def Page.blockCode : Page → Nat
  | .gl => 0x474c | .ck => 0x434b | .rs => 0x5253 | .pw => 0x5057 | .ft => 0x4654 | .tm _ => 0x544d
  | .hi0 => 0x4849 | .hir _ => 0x4849 | .cv _ => 0x4356 | .te _ _ => 0x5445
  | .bw0 => 0x4257 | .bw1 => 0x4257 | .bwt _ => 0x4257 | .hy0 => 0x4859 | .hy1 => 0x4859
  | .bd => 0x4244 | .px0 => 0x5058 | .pxl _ => 0x5058 | .cl _ => 0x434c | .bp _ => 0x4250 | .sc _ => 0x5343
  | .cx0 => 0x4358 | .cx1 => 0x4358 | .cxt _ => 0x4358 | .ln _ => 0x4c4e | .ul0 => 0x554c | .ulp _ => 0x554c
  | .pm0 => 0x504d | .pmg _ => 0x504d | .tn => 0x544e | .hdr _ => 0x544e

/-- PAGE_ID.INDEX: the page's index within its region (Table REG–3); 0xFF on a slot-0 header page (R466). -/
def Page.index : Page → Nat
  | .tm i => i | .hir f => 16 + f | .cv u => 128 + u | .te _ p => p
  | .bw1 => 1 | .bwt n => 16 + n | .hy1 => 1 | .pxl k => 1 + k | .cl i => i | .bp i => i | .sc i => i
  | .cx1 => 1 | .cxt t => 16 + t | .ln i => i | .ulp u => 1 + u | .pmg g => 1 + g | .hdr _ => 0xff
  | .gl => 0 | .ck => 0 | .rs => 0 | .pw => 0 | .ft => 0 | .hi0 => 0 | .bw0 => 0 | .hy0 => 0 | .bd => 0
  | .px0 => 0 | .cx0 => 0 | .ul0 => 0 | .pm0 => 0 | .tn => 0

/-- What a page's PAGE_CAP reads (Table REG–4): the instanced number, the number of tables, the number of
interrupt sources, and the four capability bits. -/
structure Cap where
  inst : Nat
  tables : Nat
  intSrc : Nat
  grantable : Bool
  gateable : Bool
  softrst : Bool
  quiesce : Bool
  deriving DecidableEq, Repr

/-- PAGE_CAP of every page, from each chapter's page table (R31, R78, R102, R126, R154, R173, R194, R217, R233,
R255, R276, R295, R309, R330, R352, R353, R375, R398, R399, R419, R426, R466). -/
def Page.cap : Page → Cap
  | .gl => ⟨0, 0, 0, false, false, false, false⟩
  | .ck => ⟨0, 2, 5, false, false, false, false⟩
  | .rs => ⟨0, 3, 4, false, false, false, false⟩
  | .pw => ⟨0, 1, 3, false, false, false, false⟩
  | .ft => ⟨0, 3, 4, false, false, false, false⟩
  | .tm i => if i = 0 then ⟨0, 0, 5, false, false, false, false⟩ else ⟨0, 1, 3, false, false, false, false⟩
  | .hi0 => ⟨0, 0, 2, false, false, false, false⟩
  | .hir _ => ⟨0, 1, 3, true, false, false, false⟩
  | .cv u => ⟨u, 0, 0, true, false, true, false⟩
  | .te n p =>
    if p = 0 then ⟨n, 1, 7, true, true, true, true⟩
    else if p = 1 then ⟨n, 4, 5, true, true, true, true⟩ else ⟨n, 3, 6, true, true, true, true⟩
  | .bw0 => ⟨0, 1, 2, false, false, true, false⟩
  | .bw1 => ⟨0, 3, 0, false, false, false, false⟩
  | .bwt _ => ⟨0, 2, 3, false, false, false, false⟩
  | .hy0 => ⟨0, 3, 5, false, false, true, false⟩
  | .hy1 => ⟨0, 4, 0, false, false, false, false⟩
  | .bd => ⟨0, 5, 5, false, false, true, false⟩
  | .px0 => ⟨0, 2, 7, false, false, false, false⟩
  | .pxl k => ⟨k, 1, 5, false, false, false, false⟩
  | .cl i =>
    if i = 0 then ⟨0, 2, 4, false, true, true, true⟩
    else if i = 1 then ⟨0, 2, 0, false, true, false, false⟩ else ⟨0, 1, 0, false, true, false, false⟩
  | .bp i =>
    if i = 0 then ⟨0, 2, 5, false, false, false, true⟩
    else if i = 1 then ⟨0, 2, 0, false, false, false, false⟩ else ⟨0, 1, 0, false, false, false, false⟩
  | .sc i => if i = 0 then ⟨0, 1, 4, false, true, false, true⟩ else ⟨0, 1, 0, false, true, false, false⟩
  | .cx0 => ⟨0, 3, 5, false, false, false, true⟩
  | .cx1 => ⟨0, 2, 0, false, false, false, false⟩
  | .cxt _ => ⟨0, 2, 2, true, false, false, true⟩
  | .ln i => ⟨0, 0, 3, false, i < 80, i < 80, false⟩
  | .ul0 => ⟨0, 0, 0, false, false, false, false⟩
  | .ulp _ => ⟨0, 1, 3, false, true, true, false⟩
  | .pm0 => ⟨0, 2, 0, false, false, false, false⟩
  | .pmg _ => ⟨0, 0, 0, true, false, false, false⟩
  | .tn => ⟨0, 4, 2, false, false, false, false⟩
  | .hdr t => ⟨t, 0, 0, false, false, false, false⟩

/-- The clock domain that serves the page (Table CLK–4).  RS, PW, FT and CK are SUP; the retained registers of RS
answer with their page.  UL page 0 is taken as FAB, the register fabric (DEDUCED, log 6). -/
def Page.domain : Page → Nat
  | .gl => 3 | .tn => 3 | .pm0 => 3 | .pmg _ => 3 | .cv _ => 3 | .hdr _ => 3 | .ul0 => 3
  | .ck => 1 | .rs => 1 | .pw => 1 | .ft => 1
  | .hy0 => 2 | .hy1 => 2 | .hi0 => 4 | .hir _ => 4 | .tm _ => 5
  | .bw0 => 6 | .bw1 => 6 | .bwt _ => 6 | .bd => 6 | .bp _ => 6 | .cx0 => 6 | .cx1 => 6 | .cxt _ => 6
  | .px0 => 6 | .pxl _ => 6
  | .cl _ => 7 | .sc _ => 8
  | .te n _ => 11 + n | .ln i => 59 + i | .ulp u => 147 + u

/-- The subsystem of the page in the numbering of Table ARC–2; 0 for the GL page. -/
def Page.subsystem : Page → Nat
  | .gl => 0 | .te _ _ => 1 | .bw0 => 2 | .bw1 => 2 | .bwt _ => 2 | .hy0 => 3 | .hy1 => 3 | .bd => 4
  | .px0 => 5 | .pxl _ => 5 | .cl _ => 6 | .bp _ => 7 | .sc _ => 8 | .cx0 => 9 | .cx1 => 9 | .cxt _ => 9
  | .tm _ => 10 | .ln _ => 11 | .ul0 => 11 | .ulp _ => 11 | .ck => 12 | .rs => 13 | .pw => 13 | .ft => 13
  | .hi0 => 14 | .hir _ => 14 | .cv _ => 14 | .pm0 => 14 | .pmg _ => 14 | .tn => 14 | .hdr _ => 14

/-- Whether PAGE_CTRL.EN of the page is read-only and reads 1 (R32, R33, R466). -/
def Page.enFixed : Page → Bool
  | .gl => true | .ck => true | .rs => true | .pw => true | .ft => true | .tm _ => true | .hi0 => true
  | .hir _ => true | .cv _ => true | .pm0 => true | .pmg _ => true | .tn => true | .hdr _ => true
  | .bw1 => true | .hy1 => true | .cl i => i != 0 | .bp i => i != 0 | .sc i => i != 0 | .cx1 => true
  | .ul0 => true
  | .te _ _ => false | .bw0 => false | .bwt _ => false | .hy0 => false | .bd => false | .px0 => false
  | .pxl _ => false | .cx0 => false | .cxt _ => false | .ln _ => false | .ulp _ => false

/-- The fields of the common page header (Table REG–2). -/
def hdrFields : List Fld :=
  [PAGE_ID.BLOCK, PAGE_ID.INDEX, PAGE_ID.LAYOUT, PAGE_CAP.INSTANCE, PAGE_CAP.TABLES, PAGE_CAP.INT_SRC,
    PAGE_CAP.GRANTABLE, PAGE_CAP.GATEABLE, PAGE_CAP.SOFTRST, PAGE_CAP.QUIESCE, PAGE_CTRL.SOFT_RST,
    PAGE_CTRL.QUIESCE_REQ, PAGE_CTRL.EN, PAGE_STAT.IN_RESET, PAGE_STAT.CLK_GOOD, PAGE_STAT.BUSY,
    PAGE_STAT.QUIESCED, INT_RAW.RAW, INT_EN.EN, INT_PEND.PEND, INT_FORCE.FORCE, ERR_FIRST.CODE,
    ERR_FIRST.TIME, ERR_COUNT.COUNT, TBL_SEL.TABLE, TBL_INDEX.INDEX, TBL_CMD.ARG, TBL_CMD.OP, TBL_STAT.CODE,
    TBL_STAT.ERR, TBL_STAT.OVERRUN, TBL_STAT.DONE, TBL_STAT.BUSY, PAGE_OWNER.VECTOR, PAGE_OWNER.OWNER,
    PAGE_OWNER.READ_MASK] ++
  (List.range 16).map TBL_DATA.D

/-- The block-specific fields of the pages of kind `gl`. -/
def glFields : List Fld :=
  [GL_ID.PART, GL_ID.ORDER, GL_ID.DOMAIN_ID, GL_REV.DIE_MAJOR, GL_REV.DIE_MINOR, GL_REV.ASSEMBLY,
    GL_REV.LAYOUT, GL_INT_SUMMARY.SUBSYS, GL_INT_SUMMARY.GL, GL_TE_SUM_LO.TE_LO, GL_TE_SUM_HI.TE_HI]

/-- The block-specific fields of the pages of kind `ck`. -/
def ckFields : List Fld :=
  [CK_SRC_SEL.REFL_SLEW, CK_SRC_SEL.REF_MODE, CK_STAT.XTAL_A_OK, CK_STAT.XTAL_B_OK, CK_STAT.SOSC_OK,
    CK_STAT.REFL_STATE, CK_STAT.REF, CK_FAIL.FAIL, CK_FAIL.FIRST_SRC, CK_GATE_TIMEOUT.VALID,
    CK_GATE_TIMEOUT.DOMAIN, CK_SW_DEAD_SRC.VALID, CK_SW_DEAD_SRC.SRC, CK_SW_DEAD_SRC.DOMAIN, CK_OBS.EN,
    CK_OBS.KIND, CK_OBS.SEL, CK_OBS.DIV]

/-- The block-specific fields of the pages of kind `rs`. -/
def rsFields : List Fld :=
  [RS_RESET_CTRL.OP, RS_RESET_CTRL.DOMAIN, RS_RESET_CTRL.HOT_WARM, RS_RESET_CTRL.PIN_WARM,
    RS_STAT.RETAIN_VALID, RS_STAT.CAL_DEFAULT, RS_STAT.REL_PEND_CLK, RS_STAT.BUSY, RS_STAT.PEND_DOMAIN,
    RS_STAT.LAST_SOURCE, RS_STAT.LAST_SCOPE, RS_STAT.PHASE, RS_WDT.EN, RS_WDT.WDT_COLD, RS_WDT.KICK,
    RS_WDT.PERIOD_MS, RS_CAL_CMD.OP, RS_CAL_CMD.STAT, RS_CAL_STAT.INCOMPLETE, RS_CAL_STAT.VERIFY_FAIL,
    RS_CAL_STAT.BANK, RS_CAL_SEQ.SEQ, RS_CAL_CRC.CRC, RS_LW_CFG.EN, RS_LW_CFG.SRC_OFS64, RS_LW_STAT.ARMED,
    RS_LW_STAT.VALID, RS_KEYS.QREL, RS_KEYS.QUENCH_PIN, RS_KEYS.QUENCH_ALL, RS_KEYS.MISMATCH,
    RS_SUP_CTRL.CMP_TEST, RS_SUP_STAT.CMP_OK, RS_SUP_STAT.CMP_RUN, RS_SUP_STAT.MISMATCH_SIG,
    RS_HOLD_STAT.OUT_TOGGLING] ++
  (List.range 48).map RS_KEYB.BIT ++
  (List.range 48).map RS_CTLBIT.BIT ++
  (List.range 32).map RS_BACKUP.DATA

/-- The block-specific fields of the pages of kind `pw`. -/
def pwFields : List Fld :=
  [PW_FEED_STATUS.POWER_GOOD, PW_FEED_STATUS.HOLDUP_OK, PW_FEED_STATUS.CARRY_B, PW_FEED_STATUS.STATE_B,
    PW_FEED_STATUS.CARRY_A, PW_FEED_STATUS.STATE_A, PW_FEED_A_MV.MAG, PW_FEED_B_MV.MAG, PW_INPUT.CURRENT,
    PW_INPUT.POWER]

/-- The block-specific fields of the pages of kind `ft`. -/
def ftFields : List Fld :=
  [FT_CTRL.COAL_MS, FT_CTRL.FAULT_MIN, FT_CTRL.RING_MSG, FT_STAT.FAULT_LOW, FT_STAT.MISMATCH,
    FT_STAT.RING_FULL, FT_STAT.LASTING_N, FT_RING_PI.PI, FT_RING_CI.CI, FT_CMD.OP, FT_CMD.STAT, FT_CMD.CLASS,
    FT_CMD.INST, FT_DROPPED.COUNT]

/-- The block-specific fields of the pages of kind `tm0`. -/
def tm0Fields : List Fld :=
  [TM_TOD0.SEC_LO, TM_TOD1.SEC_HI, TM_TOD1.FRAC, TM_TOD2.NS, TM_TOD_SET.SEC_LO, TM_TOD_SET.SEC_HI,
    TM_TOD_SET.FRAC, TM_TOD_SET.NS, TM_TOD_CMD.OP, TM_TOD_CMD.STAT, TM_SERVO.EN, TM_SERVO.SRC,
    TM_SERVO.TRANSPORT, TM_SERVO.PORT, TM_SERVO.DOMAIN, TM_SERVO.MATCH_EN, TM_SERVO_GAIN.KP, TM_SERVO_GAIN.KI,
    TM_SERVO_LIM.MAX_PPM, TM_SERVO_LIM.TIMEOUT_MS, TM_STEP_THR.THR, TM_SERVO_MPD.NS, TM_SERVO_MPD.FRAC,
    TM_OFS_IN.OFS] ++
  (List.range 2).map TM_MASTER.CLOCK_ID ++
  [TM_MASTER2.PORT_NUM, TM_SERVO_ADJ.Y, TM_SERVO_INT.I, TM_SERVO_LAST.THETA, TM_XTAL_PPB.XTAL,
    TM_STAT.HOLDOVER, TM_STAT.FREERUN, TM_STAT.CLAMPED, TM_STAT.TICK_STEP, TM_STAT.REF, TM_TICK.SEC]

/-- The block-specific fields of the pages of kind `tm1`. -/
def tm1Fields : List Fld :=
  (List.range 32).flatMap (fun k => [TM_TSQ.VALID k, TM_TSQ.DROPPED k, TM_TSQ.OVF k, TM_TSQ.LEFT k, TM_TSQ.ID
    k]) ++
  (List.range 32).flatMap (fun k => [TM_TSQ_TS.SEC_LO k, TM_TSQ_TS.SEC_HI k, TM_TSQ_TS.FRAC k, TM_TSQ_TS.NS
    k]) ++
  [TM_RXTS_EN.EN, TM_LAUNCH.MAX_MS, TM_LAUNCH.LEAD_US4, TM_LAUNCH.LATE_US4]

/-- The block-specific fields of the pages of kind `hi0`. -/
def hi0Fields : List Fld :=
  [HI_ERR.CODE, HI_ERR.FUNC, HI_ERR.RD, HI_ERR_ADDR.OFS, HI_ERR_CNT.COUNT, HI_LINK.L0, HI_LINK.RATE,
    HI_LINK.WIDTH, HI_OMCI_DROP.COUNT]

/-- The block-specific fields of the pages of kind `hir`. -/
def hirFields : List Fld :=
  (List.range 16).flatMap (fun k => [HI_RING_BASE.BASE_LO k, HI_RING_BASE.BASE_HI k]) ++
  (List.range 16).flatMap (fun k => [HI_RING_CFG.EN k, HI_RING_CFG.ERR k, HI_RING_CFG.VECTOR k,
    HI_RING_CFG.CLASSES k, HI_RING_CFG.COAL_US k, HI_RING_CFG.COAL_N_LOG2 k, HI_RING_CFG.SIZE_LOG2 k]) ++
  (List.range 16).flatMap (fun k => [HI_RING_IDX.CI k, HI_RING_IDX.PI k])

/-- The block-specific fields of the pages of kind `cv`. -/
def cvFields : List Fld :=
  [CV_CTRL.PATH, CV_CTRL.START, CV_CTRL.ALG, CV_INIT.INIT, CV_DATA8.D, CV_DATA16.D, CV_DATA32.D,
    CV_RESULT.CHECK, CV_STAT.FAIL, CV_STAT.BYTES]

/-- The block-specific fields of the pages of kind `te0`. -/
def te0Fields : List Fld :=
  [TE_MODE.BONDED, TE_MODE.LINE_MODE, TE_TX_CTRL.PLOAM_MAX, TE_TX_CTRL.TX_EN, TE_TX_CTRL.FRAMER_EN,
    TE_TX_STAT.FSTATE, TE_TX_STAT.TXDIS_PIN, TE_TX_STAT.KEY_B, TE_TX_STAT.KEY_A, TE_TX_STAT.MAP_SUBST,
    TE_TX_STAT.QUIESCE_IDLE, TE_FRAME_PHASE.PHASE_NS, TE_SFC_LO.SFC_LO, TE_SFC_HI.SFC_HI,
    TE_SFC_INIT_LO.INIT_LO, TE_SFC_INIT_HI.INIT_HI, TE_OC_LO.OC_LO, TE_OC_HI.OC_HI, TE_TOD_CTRL.STALE,
    TE_TOD_CTRL.DONE, TE_TOD_CTRL.ARM, TE_TOD_SF_LO.SF_LO, TE_TOD_SF_HI.SF_HI, TE_TOD_STAMP0.SEC_LO,
    TE_TOD_STAMP1.SEC_HI, TE_TOD_STAMP1.FRAC, TE_TOD_STAMP2.NS]

/-- The block-specific fields of the pages of kind `te1`. -/
def te1Fields : List Fld :=
  [TE_RX_CTRL.RECALL_EN, TE_RX_CTRL.LISTEN_EN, TE_RX_CTRL.PREARM_EN, TE_RX_CTRL.RX_EN, TE_RX_CFG.RECALL_AGE,
    TE_RX_CFG.DELIM_TOL, TE_RX_CFG.WIN_MARGIN, TE_RX_BRST.BRST_MIN, TE_RX_BRST.BRST_WIDTH,
    TE_RX_LISTEN.ENERGY_MIN, TE_RX_LISTEN.ENERGY_THR, TE_RX_LISTEN.IDLE_MIN, TE_RX_STAT.RX_RUN,
    TE_RX_STAT.ARMED_NEXT, TE_RX_STAT.ARMED_CUR, TE_RX_LAST.OUTCOME, TE_RX_LAST.ONU, TE_RX_LAST.DELIM_ERR,
    TE_RX_LAST.PROFILE]

/-- The block-specific fields of the pages of kind `te2`. -/
def te2Fields : List Fld :=
  [TE_RANGE_CFG.MAX_KM, TE_RANGE_CFG.DIFF_KM, TE_RANGE_CFG.TEQD_NS, TE_DISC_CFG.PERIOD_MS,
    TE_DISC_CFG.RAND_SPAN_US, TE_DISC_CFG.DISC_PROFILE, TE_DISC_CFG.AUTO_ASSIGN, TE_DISC_CFG.AUTO_AUTH,
    TE_DISC_CFG.DISC_EN, TE_DISC_STAT.OPEN, TE_DISC_STAT.UNK_NEXT, TE_DISC_STAT.SN_LAST,
    TE_DISC_STAT.MS_TO_NEXT, TE_DRIFT_CFG.HARD_UI, TE_DRIFT_CFG.SOFT_UI, TE_DRIFT_CFG.LOB_BURSTS,
    TE_DRIFT_CFG.AUTO_RERANGE, TE_DRIFT_CFG.RANGE_TRIES, TE_ROGUE_CFG.HUNT_OBS, TE_ROGUE_CFG.HUNT_EN,
    TE_ONU_CMD.OP, TE_ONU_CMD.STAT, TE_ONU_CMD.INDEX, TE_SEQ_STAT.HUNT, TE_SEQ_STAT.ROUND,
    TE_SEQ_STAT.SUSPECTS, TE_SEQ_STAT.OPERATING_N]

/-- The block-specific fields of the pages of kind `bw0`. -/
def bw0Fields : List Fld :=
  [BW_CYCLE_CFG.PLOAMU_PERIOD, BW_CYCLE_CFG.TREND_SHIFT, BW_RUNAHEAD.TRACE_TREE, BW_RUNAHEAD.TRACE_WRAP,
    BW_RUNAHEAD.TRACE_EN, BW_RUNAHEAD.EN, BW_STAT.TRACE_FULL, BW_STAT.TRACE_COUNT]

/-- The block-specific fields of the pages of kind `bwt`. -/
def bwtFields : List Fld :=
  [BW_TREE_CFG.PROF_SHORT_IDX, BW_TREE_CFG.PROF_LONG_IDX, BW_TREE_CFG.EN, BW_TREE_STAT.RUNAHEAD,
    BW_TREE_STAT.SHORT, BW_TREE_STAT.ENTRIES, BW_MIRROR_CTRL.FREEZE, BW_MIRROR_SFC_LO.SFC,
    BW_MIRROR_SFC_HI.SFC]

/-- The block-specific fields of the pages of kind `hy0`. -/
def hy0Fields : List Fld :=
  [HY_GAP_MIN.GAP, HY_STAT.LOG_FULL, HY_STAT.LOG_COUNT] ++
  (List.range 48).map HY_SAFE_STAT.BIT ++
  (List.range 48).map HY_SAFE_LOCK.BIT ++
  [HY_SAFE_CMD.OP, HY_SAFE_CMD.TREE, HY_LOG_CTRL.WRAP]

/-- The block-specific fields of the pages of kind `bd`. -/
def bdFields : List Fld :=
  [BD_CMD.OP, BD_CMD.STAT, BD_CMD.GROUP, BD_CMD.SLOT, BD_CMD.ONU, BD_STAT.DEGRADED]

/-- The block-specific fields of the pages of kind `px0`. -/
def px0Fields : List Fld :=
  [PX_REQ.OP, PX_REQ.STAT, PX_REQ.TREE] ++
  (List.range 48).map PX_ACTIVE.BIT ++
  (List.range 48).map PX_READY.BIT

/-- The block-specific fields of the pages of kind `pxl`. -/
def pxlFields : List Fld :=
  [PX_PEER_CFG.EN, PX_PEER_CFG.PEER_ID, PX_PEER_CFG.START_MS, PX_LINK_STAT.ALIGNED, PX_LINK_STAT.SILENT,
    PX_LINK_STAT.HOLD_IN, PX_LINK_STAT.HOLD_OUT, PX_LINK_STAT.PEER_EPOCH, PX_LINK_DELAY.ONE_WAY]

/-- The block-specific fields of the pages of kind `cl0`. -/
def cl0Fields : List Fld :=
  [CL_STAT.ERR_PROFILE]

/-- The block-specific fields of the pages of kind `bp0`. -/
def bp0Fields : List Fld :=
  [BP_CTRL.TUB_WRAP, BP_CTRL.MODE, BP_STAT.TUB_FULL, BP_STAT.TUB_COUNT, BP_ERR.CODE, BP_ERR.HANDLE,
    BP_ERR_REQ.TAG]

/-- The block-specific fields of the pages of kind `sc0`. -/
def sc0Fields : List Fld :=
  [SC_SAMPLE_CFG.EN, SC_SAMPLE_CFG.PERIOD_US, SC_CMD.OP, SC_CMD.STAT, SC_CMD.QUEUE] ++
  (List.range 9).map SC_OVH.OVH

/-- The block-specific fields of the pages of kind `cx0`. -/
def cx0Fields : List Fld :=
  [CX_CTRL.LOG_WRAP, CX_CTRL.JOB_EN, CX_STAT.LOG_FULL, CX_STAT.LOG_COUNT, CX_STAT.CORES_BUSY]

/-- The block-specific fields of the pages of kind `cxt`. -/
def cxtFields : List Fld :=
  [CX_JOBQ_BASE.LO, CX_JOBQ_BASE.HI, CX_JOBQ_CFG.EN, CX_JOBQ_CFG.SIZE_LOG2, CX_JOBQ_PI.PI, CX_JOBQ_CI.CI]

/-- The block-specific fields of the pages of kind `tn`. -/
def tnFields : List Fld :=
  [TN_SEP_LAST.TENANT, TN_SEP_LAST.TIME]

/-- The block-specific fields of the pages of kind `hdr`. -/
def hdrPageFields : List Fld :=
  [TN_SELF.EPOCH, TN_SELF.TENANT, TN_INT_SUMMARY.SUM, TN_SEP_COUNT.SUM]

/-- The block-specific fields of the pages of kind `ln`. -/
def lnFields : List Fld :=
  [LN_LANE_CTRL.LOOPBACK, LN_LANE_CTRL.RX_POL, LN_LANE_CTRL.TX_POL, LN_TXEQ.SWING, LN_TXEQ.POST, LN_TXEQ.PRE,
    LN_RX_ADAPT.STATE, LN_RX_ADAPT.RESTART, LN_RX_ADAPT.FREEZE, LN_PSTATE.TRANS, LN_PSTATE.STATE,
    LN_PSTATE.TARGET, LN_STAT.CLK_GOOD, LN_STAT.SIG_DET, LN_STAT.CDR_LOCK, LN_PRBS.CLR, LN_PRBS.CHK_LOCK,
    LN_PRBS.CHK_INV, LN_PRBS.GEN_INV, LN_PRBS.CHK_POLY, LN_PRBS.GEN_POLY, LN_PRBS.CHK_EN, LN_PRBS.GEN_EN,
    LN_PRBS_INJ.INJ, LN_PRBS_INJ.PENDING, LN_PRBS_INJ.LEN, LN_PRBS_ERR_LO.ERR_LO, LN_PRBS_ERR_HI.ERR_HI,
    LN_PRBS_BITS_LO.BITS_LO, LN_PRBS_BITS_HI.BITS_HI]

/-- The block-specific fields of the pages of kind `ul0`. -/
def ul0Fields : List Fld :=
  (List.range 4).map UL_OCTET_CFG.MODE

/-- The block-specific fields of the pages of kind `ulp`. -/
def ulpFields : List Fld :=
  [UL_PORT_CFG.LINK_UP_MS, UL_PORT_CFG.MAX_FRAME, UL_PORT_STAT.LINK_UP, UL_PORT_STAT.ALIGNED,
    UL_PORT_STAT.LOCAL_FAULT, UL_PORT_STAT.REMOTE_FAULT, UL_PORT_STAT.RATE]

/-- The block-specific fields of the pages of kind `pmg`. -/
def pmgFields : List Fld :=
  (List.range 32).flatMap (fun k => [PM_CNT.LO k, PM_CNT.HI k]) ++
  (List.range 32).flatMap (fun k => [PM_SNAPV.LO k, PM_SNAPV.HI k]) ++
  [PM_SNAP_CMD.SNAP, PM_SNAP_TIME.SEC_LO, PM_SNAP_TIME.SEC_HI, PM_SNAP_TIME.FRAC, PM_SNAP_TIME.NS]

/-- The fields of one CNT entry. -/
def CNT.fields : List Fld :=
  [CNT.COUNT]

/-- The fields of one TE_BURST_PROFILE entry. -/
def TE_BURST_PROFILE.fields : List Fld :=
  [TE_BURST_PROFILE.PREAMBLE_PAT, TE_BURST_PROFILE.DELIMITER, TE_BURST_PROFILE.OH_BLOCKS,
    TE_BURST_PROFILE.GUARD, TE_BURST_PROFILE.PREAMBLE_REP, TE_BURST_PROFILE.RECALL_REQ,
    TE_BURST_PROFILE.FEC_EN, TE_BURST_PROFILE.VALID]

/-- The fields of one TE_EQ_RECALL entry. -/
def TE_EQ_RECALL.fields : List Fld :=
  [TE_EQ_RECALL.LAST_SFC, TE_EQ_RECALL.FFE, TE_EQ_RECALL.DFE, TE_EQ_RECALL.DC_OFS, TE_EQ_RECALL.FREQ_OFS,
    TE_EQ_RECALL.GAIN, TE_EQ_RECALL.THRESH, TE_EQ_RECALL.CDR_PHASE, TE_EQ_RECALL.HITS,
    TE_EQ_RECALL.INVAL_CAUSE, TE_EQ_RECALL.SOURCE, TE_EQ_RECALL.VALID]

/-- The fields of one TE_ONU_LINE entry. -/
def TE_ONU_LINE.fields : List Fld :=
  [TE_ONU_LINE.LOST, TE_ONU_LINE.BURST_ERR, TE_ONU_LINE.FEC_UNCORR, TE_ONU_LINE.FEC_CORR, TE_ONU_LINE.BIP]

/-- The fields of one TE_ONU entry. -/
def TE_ONU.fields : List Fld :=
  [TE_ONU.SERIAL, TE_ONU.EQD, TE_ONU.RTD, TE_ONU.DRIFT_F, TE_ONU.CORR_CNT, TE_ONU.LAST_SFC, TE_ONU.RAND_DELAY,
    TE_ONU.PLOAM_SEQ, TE_ONU.PROF_MAP, TE_ONU.ROGUE_CNT, TE_ONU.MCAST, TE_ONU.LOB_CNT, TE_ONU.CAUSE,
    TE_ONU.DRIFT_N, TE_ONU.AUTH, TE_ONU.SN_VALID, TE_ONU.STATE]

/-- The fields of one TE_SN_UNK entry. -/
def TE_SN_UNK.fields : List Fld :=
  [TE_SN_UNK.REASON, TE_SN_UNK.SFC, TE_SN_UNK.SERIAL]

/-- The fields of one BW_ALLOC entry. -/
def BW_ALLOC.fields : List Fld :=
  [BW_ALLOC.REPORT_AGE, BW_ALLOC.GRANTED, BW_ALLOC.NEED, BW_ALLOC.LAMBDA, BW_ALLOC.LAST_Q, BW_ALLOC.WIRE_ID,
    BW_ALLOC.PER_COUNT, BW_ALLOC.MAX_BLK, BW_ALLOC.WEIGHT, BW_ALLOC.MIN_GRANT, BW_ALLOC.FIXED_BLK,
    BW_ALLOC.ASSURED_BLK, BW_ALLOC.TENANT, BW_ALLOC.ONU, BW_ALLOC.TREE, BW_ALLOC.TYPE, BW_ALLOC.DBRU,
    BW_ALLOC.VALID]

/-- The fields of one BW_TRACE entry. -/
def BW_TRACE.fields : List Fld :=
  [BW_TRACE.SFC, BW_TRACE.KIND, BW_TRACE.ALLOC, BW_TRACE.ONU, BW_TRACE.SEQ, BW_TRACE.START, BW_TRACE.SIZE,
    BW_TRACE.SIZE_OLD, BW_TRACE.TIME_NS]

/-- The fields of one BW_MAP_MIRROR entry. -/
def BW_MAP_MIRROR.fields : List Fld :=
  [BW_MAP_MIRROR.WIRE_ID, BW_MAP_MIRROR.START, BW_MAP_MIRROR.SIZE, BW_MAP_MIRROR.PROF_IDX, BW_MAP_MIRROR.DBRU,
    BW_MAP_MIRROR.PLOAMU, BW_MAP_MIRROR.SEQ, BW_MAP_MIRROR.SUBST]

/-- The fields of one BW_CEIL entry. -/
def BW_CEIL.fields : List Fld :=
  [BW_CEIL.CEIL_BLK]

/-- The fields of one HY_VIOL_LOG entry. -/
def HY_VIOL_LOG.fields : List Fld :=
  [HY_VIOL_LOG.SFC, HY_VIOL_LOG.TREE, HY_VIOL_LOG.CODE, HY_VIOL_LOG.WIRE_ID, HY_VIOL_LOG.ONU,
    HY_VIOL_LOG.START, HY_VIOL_LOG.SIZE, HY_VIOL_LOG.OTHER_END]

/-- The fields of one HY_SAFE_MAP entry. -/
def HY_SAFE_MAP.fields : List Fld :=
  [HY_SAFE_MAP.WIRE_ID, HY_SAFE_MAP.START, HY_SAFE_MAP.SIZE, HY_SAFE_MAP.PROF_IDX, HY_SAFE_MAP.DBRU,
    HY_SAFE_MAP.PLOAMU]

/-- The fields of one HY_ALLOC entry. -/
def HY_ALLOC.fields : List Fld :=
  [HY_ALLOC.VALID, HY_ALLOC.WIRE_ID, HY_ALLOC.TREE, HY_ALLOC.ONU, HY_ALLOC.TENANT]

/-- The fields of one HY_ONU entry. -/
def HY_ONU.fields : List Fld :=
  [HY_ONU.PROF_MAP, HY_ONU.STATE]

/-- The fields of one HY_PROF entry. -/
def HY_PROF.fields : List Fld :=
  [HY_PROF.VALID, HY_PROF.OH_BLOCKS]

/-- The fields of one HY_CEIL entry. -/
def HY_CEIL.fields : List Fld :=
  [HY_CEIL.CEIL_BLK]

/-- The fields of one BD_GROUP entry. -/
def BD_GROUP.fields : List Fld :=
  [BD_GROUP.SKEW_SPREAD_NS, BD_GROUP.PROBES_PENDING, BD_GROUP.CAUSE, BD_GROUP.ACTING_LEAD,
    BD_GROUP.MEMBER_STATE, BD_GROUP.IND_EN, BD_GROUP.OAM_LEN_DEG, BD_GROUP.OAM_LEN_CLR, BD_GROUP.SEQ_OFS,
    BD_GROUP.OAM_CONT, BD_GROUP.OAM_EN, BD_GROUP.OAM_PERIOD_US, BD_GROUP.UPLINK, BD_GROUP.OAM_CLASS,
    BD_GROUP.RESTORE_MS, BD_GROUP.SPLIT_MIN, BD_GROUP.SIZE, BD_GROUP.LINE_MODE, BD_GROUP.SKEW_MAX_US,
    BD_GROUP.LOSS_BURSTS, BD_GROUP.PROBES, BD_GROUP.FRAG_MAX]

/-- The fields of one BD_SKEW entry. -/
def BD_SKEW.fields : List Fld :=
  [BD_SKEW.VALID, BD_SKEW.EXCL, BD_SKEW.SKEW]

/-- The fields of one PX_ROLE entry. -/
def PX_ROLE.fields : List Fld :=
  [PX_ROLE.ARR_OFS, PX_ROLE.PATH_DIFF, PX_ROLE.WTR_LEFT, PX_ROLE.WTR_S, PX_ROLE.CAUSE, PX_ROLE.REQ_EFF,
    PX_ROLE.STATE, PX_ROLE.PEER_CODE, PX_ROLE.REQ_LOCAL, PX_ROLE.PEER_TREE, PX_ROLE.ACQ, PX_ROLE.LINK,
    PX_ROLE.HOME, PX_ROLE.MODE]

/-- The fields of one CL_PORT_PROF entry. -/
def CL_PORT_PROF.fields : List Fld :=
  [CL_PORT_PROF.PROFILE]

/-- The fields of one CL_PROFILE entry. -/
def CL_PROFILE.fields : List Fld :=
  [CL_PROFILE.MAL_REASON, CL_PROFILE.MAL_TARGET, CL_PROFILE.MAL_ACT, CL_PROFILE.INC_REASON,
    CL_PROFILE.INC_TARGET, CL_PROFILE.INC_ACT, CL_PROFILE.MPLS_UDP_PORT, CL_PROFILE.VXLAN_PORT,
    CL_PROFILE.TPID_EXTRA, CL_PROFILE.RULES, CL_PROFILE.RANGE_COUNT, CL_PROFILE.RANGE_BASE,
    CL_PROFILE.NODE_COUNT, CL_PROFILE.NODE_BASE, CL_PROFILE.ROOT, CL_PROFILE.TENANT, CL_PROFILE.TRAIL_OK,
    CL_PROFILE.LAYERS, CL_PROFILE.DEPTH4, CL_PROFILE.DIR, CL_PROFILE.VALID]

/-- The fields of one CL_RANGE entry. -/
def CL_RANGE.fields : List Fld :=
  [CL_RANGE.OFFSET, CL_RANGE.WIDTHM1, CL_RANGE.VALID, CL_RANGE.LO, CL_RANGE.HI]

/-- The fields of one CL_FLOW entry. -/
def CL_FLOW.fields : List Fld :=
  [CL_FLOW.US_BYTES, CL_FLOW.US_PKTS, CL_FLOW.DS_BYTES, CL_FLOW.DS_PKTS, CL_FLOW.US_PROFILE, CL_FLOW.KEY_CTX,
    CL_FLOW.XGEM_PORT, CL_FLOW.CLASS, CL_FLOW.ONU, CL_FLOW.TREE, CL_FLOW.TENANT, CL_FLOW.CIPHER_EN,
    CL_FLOW.US_EN, CL_FLOW.DS_EN, CL_FLOW.VALID]

/-- The fields of one BP_DESC entry. -/
def BP_DESC.fields : List Fld :=
  [BP_DESC.HOLDER_A, BP_DESC.HOLDER_B, BP_DESC.LAST, BP_DESC.REFCNT, BP_DESC.ACCT, BP_DESC.LEN, BP_DESC.POOL,
    BP_DESC.TIER, BP_DESC.GEN]

/-- The fields of one BP_POOL_CFG entry. -/
def BP_POOL_CFG.fields : List Fld :=
  [BP_POOL_CFG.FREE_HBM, BP_POOL_CFG.FREE_SRAM, BP_POOL_CFG.RETIRED, BP_POOL_CFG.HBM_BUFS,
    BP_POOL_CFG.SRAM_BUFS, BP_POOL_CFG.SHARED_USED]

/-- The fields of one BP_TUB_LOG entry. -/
def BP_TUB_LOG.fields : List Fld :=
  [BP_TUB_LOG.REASON, BP_TUB_LOG.HANDLE, BP_TUB_LOG.EXPECTED, BP_TUB_LOG.FOUND, BP_TUB_LOG.TIME]

/-- The fields of one SC_NODE entry. -/
def SC_NODE.fields : List Fld :=
  [SC_NODE.VTIME, SC_NODE.STAG, SC_NODE.FTAG, SC_NODE.CREDIT, SC_NODE.RATE, SC_NODE.BURST, SC_NODE.WEIGHT,
    SC_NODE.GATE, SC_NODE.ACTIVE, SC_NODE.EN]

/-- The fields of one SC_QUEUE entry. -/
def SC_QUEUE.fields : List Fld :=
  [SC_QUEUE.STAG, SC_QUEUE.FTAG, SC_QUEUE.CREDIT, SC_QUEUE.RATE, SC_QUEUE.BURST, SC_QUEUE.WEIGHT,
    SC_QUEUE.DEPTH_PKT, SC_QUEUE.QLIM_KB, SC_QUEUE.PAUSED, SC_QUEUE.LAUNCH_WAIT, SC_QUEUE.ACTIVE, SC_QUEUE.EN]

/-- The fields of one SC_AGG entry. -/
def SC_AGG.fields : List Fld :=
  [SC_AGG.PORT, SC_AGG.TENANT, SC_AGG.CLASS]

/-- The fields of one SC_SAMPLE entry. -/
def SC_SAMPLE.fields : List Fld :=
  [SC_SAMPLE.DLY_LAST, SC_SAMPLE.DLY_MIN, SC_SAMPLE.DLY_MAX, SC_SAMPLE.DEP_LAST, SC_SAMPLE.DEP_MIN,
    SC_SAMPLE.DEP_MAX, SC_SAMPLE.DLY_OVER, SC_SAMPLE.DEP_OVER, SC_SAMPLE.DLY_THR, SC_SAMPLE.DEP_THR]

/-- The fields of one SC_POLICER entry. -/
def SC_POLICER.fields : List Fld :=
  [SC_POLICER.GREEN_PKTS, SC_POLICER.YELLOW_PKTS, SC_POLICER.RED_PKTS, SC_POLICER.TC, SC_POLICER.TP,
    SC_POLICER.CIR, SC_POLICER.PIR, SC_POLICER.CBS, SC_POLICER.PBS, SC_POLICER.YEL_DROP, SC_POLICER.EN]

/-- The fields of one CX_KEY entry. -/
def CX_KEY.fields : List Fld :=
  [CX_KEY.KEY, CX_KEY.USAGE, CX_KEY.HWM_SFC, CX_KEY.ACT_SFC, CX_KEY.HARD_LOG2, CX_KEY.SOFT_LOG2, CX_KEY.TAG_P,
    CX_KEY.TAG_TENANT, CX_KEY.TAG_TREE, CX_KEY.TAG_ONU, CX_KEY.FREEZE_CAUSE, CX_KEY.FROZEN, CX_KEY.SOFT_HIT,
    CX_KEY.ACTIVE_DS, CX_KEY.KIND, CX_KEY.ALG, CX_KEY.VALID]

/-- The fields of one CX_ONU_KEYS entry. -/
def CX_ONU_KEYS.fields : List Fld :=
  [CX_ONU_KEYS.PLOAM_V, CX_ONU_KEYS.PLOAM_IK, CX_ONU_KEYS.OMCI_V, CX_ONU_KEYS.OMCI_IK]

/-- The fields of one CX_JOB_WIN entry. -/
def CX_JOB_WIN.fields : List Fld :=
  [CX_JOB_WIN.BASE, CX_JOB_WIN.COUNT]

/-- The fields of one CX_KEY_LOG entry. -/
def CX_KEY_LOG.fields : List Fld :=
  [CX_KEY_LOG.SFC, CX_KEY_LOG.CTX, CX_KEY_LOG.EVENT, CX_KEY_LOG.TREE, CX_KEY_LOG.TIME]

/-- The fields of one TN_TENANT entry. -/
def TN_TENANT.fields : List Fld :=
  [TN_TENANT.EPOCH, TN_TENANT.FLR_COUNT, TN_TENANT.ONU_COUNT, TN_TENANT.OMCI_EN, TN_TENANT.FLR_BUSY,
    TN_TENANT.EN]

/-- The fields of one TN_OWNER entry. -/
def TN_OWNER.fields : List Fld :=
  [TN_OWNER.TENANT]

/-- The fields of one TN_SLOT entry. -/
def TN_SLOT.fields : List Fld :=
  [TN_SLOT.VALID, TN_SLOT.PAGE]

/-- The fields of one TM_ANN entry. -/
def TM_ANN.fields : List Fld :=
  [TM_ANN.TPL, TM_ANN.SEND_SFC, TM_ANN.TARGET_SFC, TM_ANN.OFS_PS, TM_ANN.XGEM_PORT, TM_ANN.ONU,
    TM_ANN.TOD_OFS, TM_ANN.SFC_OFS, TM_ANN.LEN, TM_ANN.SFC_EN, TM_ANN.TOD_EN, TM_ANN.OMCI, TM_ANN.STEPPED,
    TM_ANN.DONE, TM_ANN.FAIL, TM_ANN.ARM]

/-- The fields of one CK_DOMAIN_CTRL entry. -/
def CK_DOMAIN_CTRL.fields : List Fld :=
  [CK_DOMAIN_CTRL.GATED, CK_DOMAIN_CTRL.CLK_GOOD, CK_DOMAIN_CTRL.BUSY, CK_DOMAIN_CTRL.STOPPED,
    CK_DOMAIN_CTRL.CUR_SRC, CK_DOMAIN_CTRL.SRC, CK_DOMAIN_CTRL.GATE]

/-- The fields of one CK_LOOP entry. -/
def CK_LOOP.fields : List Fld :=
  [CK_LOOP.FREQ_KHZ, CK_LOOP.FAILED, CK_LOOP.LOCKED, CK_LOOP.HOLDOVER, CK_LOOP.EN]

/-- The fields of one FT_CLASS entry. -/
def FT_CLASS.fields : List Fld :=
  [FT_CLASS.W_MS, FT_CLASS.N, FT_CLASS.SCOPE, FT_CLASS.FIXED, FT_CLASS.REC, FT_CLASS.ACTION]

/-- The fields of one FT_EVENT entry. -/
def FT_EVENT.fields : List Fld :=
  [FT_EVENT.BITMAP, FT_EVENT.SEC, FT_EVENT.NS, FT_EVENT.COUNT, FT_EVENT.DROPPED, FT_EVENT.DETAIL,
    FT_EVENT.INST, FT_EVENT.CLASS, FT_EVENT.KIND, FT_EVENT.ACT, FT_EVENT.TENANT, FT_EVENT.LASTING,
    FT_EVENT.INJ, FT_EVENT.SEQ]

/-- The fields of one FT_INST entry. -/
def FT_INST.fields : List Fld :=
  [FT_INST.TOTAL, FT_INST.WCOUNT, FT_INST.W_LEFT_MS, FT_INST.ACT, FT_INST.WOPEN, FT_INST.LASTING]

/-- The fields of one PM_SEL entry. -/
def PM_SEL.fields : List Fld :=
  [PM_SEL.EVENT, PM_SEL.INSTANCE, PM_SEL.N]

/-- The fields of one PM_ACCESS entry. -/
def PM_ACCESS.fields : List Fld :=
  [PM_ACCESS.READ_MASK]

/-- The fields of one RAW entry. -/
def RAW.fields : List Fld :=
  [RAW.W0, RAW.W1, RAW.W2, RAW.W3, RAW.W4, RAW.W5, RAW.W6, RAW.W7, RAW.W8, RAW.W9, RAW.W10, RAW.W11, RAW.W12,
    RAW.W13, RAW.W14, RAW.W15]

/-- The fields of one BP_ACCOUNT entry (Table BUF–8). -/
def BP_ACCOUNT.fields : List Fld :=
  (List.range 5).flatMap (fun p => [BP_ACCOUNT.USE p, BP_ACCOUNT.MAX p, BP_ACCOUNT.RES p])

/-- The block-specific fields of a page. -/
def Page.blockFields : Page → List Fld
  | .gl => glFields | .ck => ckFields | .rs => rsFields | .pw => pwFields | .ft => ftFields
  | .tm i => if i = 0 then tm0Fields else if i = 1 then tm1Fields else []
  | .hi0 => hi0Fields | .hir _ => hirFields | .cv _ => cvFields
  | .te _ p => if p = 0 then te0Fields else if p = 1 then te1Fields else te2Fields
  | .bw0 => bw0Fields | .bw1 => [] | .bwt _ => bwtFields | .hy0 => hy0Fields | .hy1 => [] | .bd => bdFields
  | .px0 => px0Fields | .pxl _ => pxlFields
  | .cl i => if i = 0 then cl0Fields else []
  | .bp i => if i = 0 then bp0Fields else []
  | .sc i => if i = 0 then sc0Fields else []
  | .cx0 => cx0Fields | .cx1 => [] | .cxt _ => cxtFields
  | .ln _ => lnFields | .ul0 => ul0Fields | .ulp _ => ulpFields
  | .pm0 => [] | .pmg _ => pmgFields | .tn => tnFields | .hdr _ => hdrPageFields

/-- Every field of a page: the common header's (R30), then the block's own. -/
def Page.fields (p : Page) : List Fld := hdrFields ++ p.blockFields

/-- The key of a page's field in the register store: page number, byte offset, lowest bit. -/
def Page.key (p : Page) (f : Fld) : Nat := (p.num * 4096 + f.off) * 32 + f.lo

/-- The reset value of a page's field: the field map's, but for PAGE_CTRL.EN (R32, R33) and PAGE_OWNER of the HI
ring pages (R427) and of the slot-0 header pages (R466). -/
def Page.rst (p : Page) (f : Fld) : Nat :=
  if f = PAGE_CTRL.EN then (if p.enFixed then 1 else 0)
  else if f = PAGE_OWNER.OWNER then
    match p with
    | .hir t => t
    | .hdr t => t
    | _ => 0
  else if f = PAGE_OWNER.READ_MASK then
    match p with
    | .hir t => 1 ||| (1 <<< t)
    | .hdr t => 1 ||| (1 <<< t)
    | _ => 1
  else f.rst

/-- What a key of the register store reads as where nothing is listed: the reset value of the field it names. -/
def regDefault (k : Nat) : Nat :=
  match Page.ofNum (k / 131072) with
  | none => 0
  | some p =>
    match p.fields.find? (fun f => f.off == (k / 32) % 4096 && f.lo == k % 32) with
    | none => 0
    | some f => p.rst f

/-- An indirect table, with the number of the page that carries it where there are several. -/
inductive Tbl
  | teDsCnt (n : Nat) | teBurstProfile (n : Nat) | teEqRecall (n : Nat) | teUsCnt (n : Nat) | teOnuLine (n : Nat)
  | teOnu (n : Nat) | teSnUnk (n : Nat) | teRngCnt (n : Nat)
  | bwTrace | bwAlloc | bwCeil | bwAllocCnt | bwMapMirror (n : Nat) | bwTreeCnt (n : Nat)
  | hyViolLog | hyCnt | hySafeMap | hyAlloc | hyOnu | hyProf | hyCeil
  | bdGroup | bdSkew | bdOamTpl | bdCnt | bdOnuInd
  | pxRole | pxCnt | pxLinkCnt (k : Nat)
  | clPortProf | clCnt | clProfile | clRange | clNode | clFlow | clRuleCnt
  | bpPoolCfg | bpTubLog | bpAccount | bpAcctCnt | bpDesc
  | scCnt | scNode | scQueue | scSample | scAgg | scPolicer
  | cxKeyLog | cxCnt | cxJobWin | cxKey | cxOnuKeys | cxTkey (t : Nat) | cxJobCnt (t : Nat)
  | tnTenant | tnOwner | tnSlot | tnSepCnt
  | tmCnt | tmAnn
  | ulCnt (u : Nat)
  | ckDomainCtrl | ckLoop
  | rsRetain | rsCalImg | rsLwRec
  | pwCnt
  | ftClass | ftEvent | ftInst
  | hiRingCnt (f : Nat)
  | pmSel | pmAccess
  deriving DecidableEq, Repr

/-- The table's number in the table store: one number for each table, instanced tables 64 apart. -/
def Tbl.num : Tbl → Nat
  | .teDsCnt n => 0 + n
  | .teBurstProfile n => 64 + n
  | .teEqRecall n => 128 + n
  | .teUsCnt n => 192 + n
  | .teOnuLine n => 256 + n
  | .teOnu n => 320 + n
  | .teSnUnk n => 384 + n
  | .teRngCnt n => 448 + n
  | .bwTrace => 512
  | .bwAlloc => 576
  | .bwCeil => 640
  | .bwAllocCnt => 704
  | .bwMapMirror n => 768 + n
  | .bwTreeCnt n => 832 + n
  | .hyViolLog => 896
  | .hyCnt => 960
  | .hySafeMap => 1024
  | .hyAlloc => 1088
  | .hyOnu => 1152
  | .hyProf => 1216
  | .hyCeil => 1280
  | .bdGroup => 1344
  | .bdSkew => 1408
  | .bdOamTpl => 1472
  | .bdCnt => 1536
  | .bdOnuInd => 1600
  | .pxRole => 1664
  | .pxCnt => 1728
  | .pxLinkCnt n => 1792 + n
  | .clPortProf => 1856
  | .clCnt => 1920
  | .clProfile => 1984
  | .clRange => 2048
  | .clNode => 2112
  | .clFlow => 2176
  | .clRuleCnt => 2240
  | .bpPoolCfg => 2304
  | .bpTubLog => 2368
  | .bpAccount => 2432
  | .bpAcctCnt => 2496
  | .bpDesc => 2560
  | .scCnt => 2624
  | .scNode => 2688
  | .scQueue => 2752
  | .scSample => 2816
  | .scAgg => 2880
  | .scPolicer => 2944
  | .cxKeyLog => 3008
  | .cxCnt => 3072
  | .cxJobWin => 3136
  | .cxKey => 3200
  | .cxOnuKeys => 3264
  | .cxTkey n => 3328 + n
  | .cxJobCnt n => 3392 + n
  | .tnTenant => 3456
  | .tnOwner => 3520
  | .tnSlot => 3584
  | .tnSepCnt => 3648
  | .tmCnt => 3712
  | .tmAnn => 3776
  | .ulCnt n => 3840 + n
  | .ckDomainCtrl => 3904
  | .ckLoop => 3968
  | .rsRetain => 4032
  | .rsCalImg => 4096
  | .rsLwRec => 4160
  | .pwCnt => 4224
  | .ftClass => 4288
  | .ftEvent => 4352
  | .ftInst => 4416
  | .hiRingCnt n => 4480 + n
  | .pmSel => 4544
  | .pmAccess => 4608

/-- The table at a number of the table store. -/
def Tbl.ofNum (k : Nat) : Option Tbl :=
  match k / 64 with
  | 0 => if k % 64 < 48 then some (.teDsCnt (k % 64)) else none
  | 1 => if k % 64 < 48 then some (.teBurstProfile (k % 64)) else none
  | 2 => if k % 64 < 48 then some (.teEqRecall (k % 64)) else none
  | 3 => if k % 64 < 48 then some (.teUsCnt (k % 64)) else none
  | 4 => if k % 64 < 48 then some (.teOnuLine (k % 64)) else none
  | 5 => if k % 64 < 48 then some (.teOnu (k % 64)) else none
  | 6 => if k % 64 < 48 then some (.teSnUnk (k % 64)) else none
  | 7 => if k % 64 < 48 then some (.teRngCnt (k % 64)) else none
  | 8 => if k % 64 = 0 then some .bwTrace else none
  | 9 => if k % 64 = 0 then some .bwAlloc else none
  | 10 => if k % 64 = 0 then some .bwCeil else none
  | 11 => if k % 64 = 0 then some .bwAllocCnt else none
  | 12 => if k % 64 < 48 then some (.bwMapMirror (k % 64)) else none
  | 13 => if k % 64 < 48 then some (.bwTreeCnt (k % 64)) else none
  | 14 => if k % 64 = 0 then some .hyViolLog else none
  | 15 => if k % 64 = 0 then some .hyCnt else none
  | 16 => if k % 64 = 0 then some .hySafeMap else none
  | 17 => if k % 64 = 0 then some .hyAlloc else none
  | 18 => if k % 64 = 0 then some .hyOnu else none
  | 19 => if k % 64 = 0 then some .hyProf else none
  | 20 => if k % 64 = 0 then some .hyCeil else none
  | 21 => if k % 64 = 0 then some .bdGroup else none
  | 22 => if k % 64 = 0 then some .bdSkew else none
  | 23 => if k % 64 = 0 then some .bdOamTpl else none
  | 24 => if k % 64 = 0 then some .bdCnt else none
  | 25 => if k % 64 = 0 then some .bdOnuInd else none
  | 26 => if k % 64 = 0 then some .pxRole else none
  | 27 => if k % 64 = 0 then some .pxCnt else none
  | 28 => if k % 64 < 2 then some (.pxLinkCnt (k % 64)) else none
  | 29 => if k % 64 = 0 then some .clPortProf else none
  | 30 => if k % 64 = 0 then some .clCnt else none
  | 31 => if k % 64 = 0 then some .clProfile else none
  | 32 => if k % 64 = 0 then some .clRange else none
  | 33 => if k % 64 = 0 then some .clNode else none
  | 34 => if k % 64 = 0 then some .clFlow else none
  | 35 => if k % 64 = 0 then some .clRuleCnt else none
  | 36 => if k % 64 = 0 then some .bpPoolCfg else none
  | 37 => if k % 64 = 0 then some .bpTubLog else none
  | 38 => if k % 64 = 0 then some .bpAccount else none
  | 39 => if k % 64 = 0 then some .bpAcctCnt else none
  | 40 => if k % 64 = 0 then some .bpDesc else none
  | 41 => if k % 64 = 0 then some .scCnt else none
  | 42 => if k % 64 = 0 then some .scNode else none
  | 43 => if k % 64 = 0 then some .scQueue else none
  | 44 => if k % 64 = 0 then some .scSample else none
  | 45 => if k % 64 = 0 then some .scAgg else none
  | 46 => if k % 64 = 0 then some .scPolicer else none
  | 47 => if k % 64 = 0 then some .cxKeyLog else none
  | 48 => if k % 64 = 0 then some .cxCnt else none
  | 49 => if k % 64 = 0 then some .cxJobWin else none
  | 50 => if k % 64 = 0 then some .cxKey else none
  | 51 => if k % 64 = 0 then some .cxOnuKeys else none
  | 52 => if k % 64 < 16 then some (.cxTkey (k % 64)) else none
  | 53 => if k % 64 < 16 then some (.cxJobCnt (k % 64)) else none
  | 54 => if k % 64 = 0 then some .tnTenant else none
  | 55 => if k % 64 = 0 then some .tnOwner else none
  | 56 => if k % 64 = 0 then some .tnSlot else none
  | 57 => if k % 64 = 0 then some .tnSepCnt else none
  | 58 => if k % 64 = 0 then some .tmCnt else none
  | 59 => if k % 64 = 0 then some .tmAnn else none
  | 60 => if k % 64 < 32 then some (.ulCnt (k % 64)) else none
  | 61 => if k % 64 = 0 then some .ckDomainCtrl else none
  | 62 => if k % 64 = 0 then some .ckLoop else none
  | 63 => if k % 64 = 0 then some .rsRetain else none
  | 64 => if k % 64 = 0 then some .rsCalImg else none
  | 65 => if k % 64 = 0 then some .rsLwRec else none
  | 66 => if k % 64 = 0 then some .pwCnt else none
  | 67 => if k % 64 = 0 then some .ftClass else none
  | 68 => if k % 64 = 0 then some .ftEvent else none
  | 69 => if k % 64 = 0 then some .ftInst else none
  | 70 => if k % 64 < 16 then some (.hiRingCnt (k % 64)) else none
  | 71 => if k % 64 = 0 then some .pmSel else none
  | 72 => if k % 64 = 0 then some .pmAccess else none
  | _ => none

/-- How many entries a table has (R44). -/
def Tbl.size : Tbl → Nat
  | .teDsCnt _ => 16 | .teBurstProfile _ => 16 | .teEqRecall _ => 256 | .teUsCnt _ => 32 | .teOnuLine _ => 256
  | .teOnu _ => 256 | .teSnUnk _ => 16 | .teRngCnt _ => 16
  | .bwTrace => 4096 | .bwAlloc => 16384 | .bwCeil => 768 | .bwAllocCnt => 16384 | .bwMapMirror _ => 512
  | .bwTreeCnt _ => 16
  | .hyViolLog => 256 | .hyCnt => 768 | .hySafeMap => 3072 | .hyAlloc => 16384 | .hyOnu => 12288 | .hyProf => 768
  | .hyCeil => 768
  | .bdGroup => 24 | .bdSkew => 24576 | .bdOamTpl => 96 | .bdCnt => 384 | .bdOnuInd => 48
  | .pxRole => 48 | .pxCnt => 768 | .pxLinkCnt _ => 16
  | .clPortProf => 32 | .clCnt => 736 | .clProfile => 64 | .clRange => 1024 | .clNode => 262144
  | .clFlow => 131072 | .clRuleCnt => 65536
  | .bpPoolCfg => 5 | .bpTubLog => 64 | .bpAccount => 1408 | .bpAcctCnt => 11264 | .bpDesc => 1048576
  | .scCnt => 640 | .scNode => 116048 | .scQueue => 147456 | .scSample => 147456 | .scAgg => 16384
  | .scPolicer => 131072
  | .cxKeyLog => 64 | .cxCnt => 384 | .cxJobWin => 16 | .cxKey => 32768 | .cxOnuKeys => 12288
  | .cxTkey _ => 32768 | .cxJobCnt _ => 8
  | .tnTenant => 16 | .tnOwner => 12288 | .tnSlot => 8192 | .tnSepCnt => 128
  | .tmCnt => 264 | .tmAnn => 384
  | .ulCnt _ => 16
  | .ckDomainCtrl => 179 | .ckLoop => 17
  | .rsRetain => 1024 | .rsCalImg => 256 | .rsLwRec => 64
  | .pwCnt => 8
  | .ftClass => 64 | .ftEvent => 4096 | .ftInst => 16384
  | .hiRingCnt _ => 72
  | .pmSel => 4096 | .pmAccess => 128

/-- The tables of a page, in the order of their table numbers (PAGE_CAP.TABLES). -/
def Page.tables : Page → List Tbl
  | .ck => [.ckDomainCtrl, .ckLoop]
  | .rs => [.rsRetain, .rsCalImg, .rsLwRec]
  | .pw => [.pwCnt]
  | .ft => [.ftClass, .ftEvent, .ftInst]
  | .tm i => if i = 1 then [.tmCnt] else if i = 2 then [.tmAnn] else []
  | .hir f => [.hiRingCnt f]
  | .te n p =>
    if p = 0 then [.teDsCnt n]
    else if p = 1 then [.teBurstProfile n, .teEqRecall n, .teUsCnt n, .teOnuLine n]
    else [.teOnu n, .teSnUnk n, .teRngCnt n]
  | .bw0 => [.bwTrace] | .bw1 => [.bwAlloc, .bwCeil, .bwAllocCnt] | .bwt n => [.bwMapMirror n, .bwTreeCnt n]
  | .hy0 => [.hyViolLog, .hyCnt, .hySafeMap] | .hy1 => [.hyAlloc, .hyOnu, .hyProf, .hyCeil]
  | .bd => [.bdGroup, .bdSkew, .bdOamTpl, .bdCnt, .bdOnuInd]
  | .px0 => [.pxRole, .pxCnt] | .pxl k => [.pxLinkCnt k]
  | .cl i =>
    if i = 0 then [.clPortProf, .clCnt] else if i = 1 then [.clProfile, .clRange]
    else if i = 2 then [.clNode] else if i = 3 then [.clFlow] else [.clRuleCnt]
  | .bp i => if i = 0 then [.bpPoolCfg, .bpTubLog] else if i = 1 then [.bpAccount, .bpAcctCnt] else [.bpDesc]
  | .sc i =>
    if i = 0 then [.scCnt] else if i = 1 then [.scNode] else if i = 2 then [.scQueue]
    else if i = 3 then [.scSample] else if i = 4 then [.scAgg] else [.scPolicer]
  | .cx0 => [.cxKeyLog, .cxCnt, .cxJobWin] | .cx1 => [.cxKey, .cxOnuKeys] | .cxt t => [.cxTkey t, .cxJobCnt t]
  | .tn => [.tnTenant, .tnOwner, .tnSlot, .tnSepCnt]
  | .ulp u => [.ulCnt u]
  | .pm0 => [.pmSel, .pmAccess]
  | .gl => [] | .hi0 => [] | .cv _ => [] | .ln _ => [] | .ul0 => [] | .pmg _ => [] | .hdr _ => []

/-- Whether a table's layout and rules are those of Table DSF–12: raw counters with a shadow bank (R442). -/
def Tbl.isCounter : Tbl → Bool
  | .teDsCnt _ => true | .teUsCnt _ => true | .teOnuLine _ => true | .teRngCnt _ => true | .bwAllocCnt => true
  | .bwTreeCnt _ => true | .hyCnt => true | .bdCnt => true | .pxCnt => true | .pxLinkCnt _ => true
  | .clCnt => true | .clRuleCnt => true | .bpAcctCnt => true | .scCnt => true | .cxCnt => true | .cxJobCnt _ => true
  | .tnSepCnt => true | .tmCnt => true | .ulCnt _ => true | .pwCnt => true | .hiRingCnt _ => true
  | _ => false

/-- The fields of one entry of a table.  A CL_NODE entry, a template, an image and a record are held as sixteen
words: which fields a CL_NODE word has depends on its KIND. -/
def Tbl.fields : Tbl → List Fld
  | .teBurstProfile _ => TE_BURST_PROFILE.fields | .teEqRecall _ => TE_EQ_RECALL.fields
  | .teOnuLine _ => TE_ONU_LINE.fields | .teOnu _ => TE_ONU.fields | .teSnUnk _ => TE_SN_UNK.fields
  | .bwTrace => BW_TRACE.fields | .bwAlloc => BW_ALLOC.fields | .bwCeil => BW_CEIL.fields
  | .bwMapMirror _ => BW_MAP_MIRROR.fields
  | .hyViolLog => HY_VIOL_LOG.fields | .hySafeMap => HY_SAFE_MAP.fields | .hyAlloc => HY_ALLOC.fields
  | .hyOnu => HY_ONU.fields | .hyProf => HY_PROF.fields | .hyCeil => HY_CEIL.fields
  | .bdGroup => BD_GROUP.fields | .bdSkew => BD_SKEW.fields | .bdOamTpl => RAW.fields
  | .bdOnuInd => RAW.fields.take 10
  | .pxRole => PX_ROLE.fields
  | .clPortProf => CL_PORT_PROF.fields | .clProfile => CL_PROFILE.fields | .clRange => CL_RANGE.fields
  | .clNode => RAW.fields | .clFlow => CL_FLOW.fields
  | .bpPoolCfg => BP_POOL_CFG.fields | .bpTubLog => BP_TUB_LOG.fields | .bpAccount => BP_ACCOUNT.fields
  | .bpDesc => BP_DESC.fields
  | .scNode => SC_NODE.fields | .scQueue => SC_QUEUE.fields | .scSample => SC_SAMPLE.fields
  | .scAgg => SC_AGG.fields | .scPolicer => SC_POLICER.fields
  | .cxKeyLog => CX_KEY_LOG.fields | .cxJobWin => CX_JOB_WIN.fields | .cxKey => CX_KEY.fields
  | .cxOnuKeys => CX_ONU_KEYS.fields | .cxTkey _ => CX_KEY.fields
  | .tnTenant => TN_TENANT.fields | .tnOwner => TN_OWNER.fields | .tnSlot => TN_SLOT.fields
  | .tmAnn => TM_ANN.fields
  | .ckDomainCtrl => CK_DOMAIN_CTRL.fields | .ckLoop => CK_LOOP.fields
  | .rsRetain => RAW.fields | .rsCalImg => RAW.fields | .rsLwRec => RAW.fields
  | .ftClass => FT_CLASS.fields | .ftEvent => FT_EVENT.fields | .ftInst => FT_INST.fields
  | .pmSel => PM_SEL.fields | .pmAccess => PM_ACCESS.fields
  | .teDsCnt _ => CNT.fields | .teUsCnt _ => CNT.fields | .teRngCnt _ => CNT.fields | .bwAllocCnt => CNT.fields
  | .bwTreeCnt _ => CNT.fields | .hyCnt => CNT.fields | .bdCnt => CNT.fields | .pxCnt => CNT.fields
  | .pxLinkCnt _ => CNT.fields | .clCnt => CNT.fields | .clRuleCnt => CNT.fields | .bpAcctCnt => CNT.fields
  | .scCnt => CNT.fields | .cxCnt => CNT.fields | .cxJobCnt _ => CNT.fields | .tnSepCnt => CNT.fields
  | .tmCnt => CNT.fields | .ulCnt _ => CNT.fields | .pwCnt => CNT.fields | .hiRingCnt _ => CNT.fields

/-- Table BUF–1: SRAM and HBM buffers of pool p at reset. -/
def poolSramBufs (p : Nat) : Nat :=
  if p = 0 then 65536 else if p = 1 then 49152 else if p = 2 then 24576 else if p = 3 then 4096 else 640
/-- Table BUF–1: HBM buffers of pool p at reset. -/
def poolHbmBufs (p : Nat) : Nat := if p < 3 then 262144 else if p = 3 then 65536 else 52608

/-- Table CLK–4: the source a clock domain takes at reset (its source code in Table CLK–1 and Table CLK–2).  FAB runs
from FOSC until SYS locks and AON starts on SOSC (R386 steps 1 and 3); a lane domain takes its loop's output code. -/
def domainSrc (i : Nat) : Nat :=
  if i = 0 then 3 else if i = 1 then 0 else if i = 2 then 0 else if i = 3 then 19 else if i = 4 then 22
  else if i = 5 then 18 else if i < 9 then 20 else if i < 11 then 21
  else if i < 59 then 24 + (i - 11) / 8 else if i < 107 then 24 + (i - 59) / 8
  else if i < 139 then 30 + (i - 107) / 8 else if i < 147 then 34 else 30 + (i - 147) / 8

/-- The source in use at reset: as `domainSrc`, but AON on SOSC and FAB on FOSC (R386, Table CLK–4). -/
def domainCurSrc (i : Nat) : Nat := if i = 0 then 1 else if i = 3 then 0 else domainSrc i

/-- One row of Table FLT–3: scope (0 module, 1 tenant, 2 tree, 3 lane, 4 port, 5 link), how many instances the
class has, N, W in milliseconds, action, whether the class is marked FIXED. -/
structure FtRow where
  scope : Nat
  count : Nat
  n : Nat
  wMs : Nat
  action : Nat
  fixed : Bool
  deriving DecidableEq, Repr

/-- Table FLT–3: the fault classes and their defaults. -/
def ftRow (c : Nat) : FtRow :=
  match c with
  | 0 => ⟨0, 1, 1, 1, 3, true⟩ | 1 => ⟨0, 1, 1, 1, 3, true⟩ | 2 => ⟨0, 1, 1, 1000, 1, false⟩
  | 3 => ⟨0, 1, 1, 1000, 1, true⟩ | 4 => ⟨0, 1, 1, 1000, 0, true⟩ | 5 => ⟨0, 1, 1, 1000, 1, false⟩
  | 6 => ⟨0, 2, 1, 1000, 0, false⟩ | 7 => ⟨0, 2, 1, 1000, 1, true⟩ | 8 => ⟨0, 1, 1, 1000, 1, false⟩
  | 9 => ⟨0, 1, 1, 1000, 1, false⟩ | 10 => ⟨0, 1, 1, 1000, 1, false⟩ | 11 => ⟨0, 32, 1, 1000, 1, false⟩
  | 12 => ⟨0, 32, 1, 1, 3, false⟩ | 13 => ⟨0, 32, 1, 1000, 1, false⟩ | 14 => ⟨0, 1, 255, 1000, 0, false⟩
  | 15 => ⟨0, 1, 1, 1000, 1, true⟩ | 16 => ⟨0, 2, 255, 1000, 0, false⟩ | 17 => ⟨0, 2, 1, 1000, 1, true⟩
  | 18 => ⟨0, 1, 16, 3600000, 1, true⟩ | 19 => ⟨0, 1, 255, 1000, 0, true⟩ | 20 => ⟨0, 64, 1, 1000, 1, true⟩
  | 21 => ⟨1, 16, 1, 1000, 1, true⟩ | 22 => ⟨1, 16, 1, 1000, 1, true⟩ | 23 => ⟨1, 16, 1, 1000, 1, true⟩
  | 24 => ⟨1, 16, 1, 1000, 1, true⟩ | 25 => ⟨1, 16, 1, 1000, 1, true⟩ | 26 => ⟨1, 16, 1, 1000, 1, true⟩
  | 27 => ⟨1, 16, 1, 1000, 1, true⟩ | 28 => ⟨1, 16, 255, 1000, 0, true⟩
  | 29 => ⟨2, 48, 1, 1000, 1, true⟩ | 30 => ⟨2, 48, 1, 1000, 1, true⟩ | 31 => ⟨2, 48, 8, 1, 1, true⟩
  | 32 => ⟨2, 48, 8, 1000, 1, true⟩ | 33 => ⟨2, 48, 16, 10, 1, true⟩ | 34 => ⟨2, 48, 1, 1000, 3, true⟩
  | 35 => ⟨2, 48, 2, 10, 2, false⟩ | 36 => ⟨2, 48, 1, 1000, 1, true⟩ | 37 => ⟨2, 48, 3, 100, 0, true⟩
  | 38 => ⟨2, 48, 3, 100, 0, true⟩ | 39 => ⟨2, 48, 1, 1000, 1, false⟩ | 40 => ⟨2, 48, 255, 1000, 0, false⟩
  | 41 => ⟨2, 48, 255, 1000, 0, false⟩ | 42 => ⟨2, 48, 16, 1000, 0, false⟩ | 43 => ⟨2, 48, 1, 1000, 1, true⟩
  | 44 => ⟨2, 48, 255, 1000, 0, true⟩ | 45 => ⟨2, 48, 1, 1000, 1, false⟩ | 46 => ⟨2, 48, 1, 1000, 1, false⟩
  | 47 => ⟨2, 48, 1, 1000, 1, false⟩ | 48 => ⟨2, 48, 1, 1000, 1, false⟩ | 49 => ⟨5, 2, 1, 1000, 1, false⟩
  | 50 => ⟨3, 88, 1, 1000, 1, false⟩ | 51 => ⟨4, 32, 1, 1000, 1, false⟩ | 52 => ⟨0, 12, 16, 1000, 0, false⟩
  | 53 => ⟨0, 1, 1, 1000, 1, false⟩ | 54 => ⟨0, 1, 1, 1000, 1, false⟩ | 55 => ⟨0, 1, 1, 1000, 0, true⟩
  | 56 => ⟨0, 1, 1, 1000, 1, false⟩ | 57 => ⟨5, 2, 1, 1000, 1, false⟩
  | _ => ⟨0, 1, 1, 1000, 0, false⟩

/-- The reset content of entry `i` of a table in field `f` (R39): the field map's value, but for the entries whose
value a table of the spec gives. -/
def Tbl.rst (t : Tbl) (i : Nat) (f : Fld) : Nat :=
  match t with
  | .bpPoolCfg =>
    if f = BP_POOL_CFG.SRAM_BUFS ∨ f = BP_POOL_CFG.FREE_SRAM then poolSramBufs i
    else if f = BP_POOL_CFG.HBM_BUFS ∨ f = BP_POOL_CFG.FREE_HBM then poolHbmBufs i else f.rst
  | .scNode => if f = SC_NODE.CREDIT then 16384 else f.rst
  | .scQueue => if f = SC_QUEUE.CREDIT then 16384 else f.rst
  | .scAgg => if f = SC_AGG.TENANT ∧ 16368 ≤ i then i - 16368 else f.rst
  | .tnTenant =>
    if i = 0 then (if f = TN_TENANT.EN then 1 else if f = TN_TENANT.ONU_COUNT then 12288 else f.rst) else f.rst
  | .ckDomainCtrl =>
    if f = CK_DOMAIN_CTRL.SRC then domainSrc i else if f = CK_DOMAIN_CTRL.CUR_SRC then domainCurSrc i else f.rst
  | .ftClass =>
    if f = FT_CLASS.W_MS then (ftRow i).wMs else if f = FT_CLASS.N then (ftRow i).n
    else if f = FT_CLASS.SCOPE then (ftRow i).scope else if f = FT_CLASS.FIXED then (ftRow i).fixed.toNat
    else if f = FT_CLASS.REC then (if i = 14 ∨ i = 16 ∨ i = 19 then 0 else 1)
    else if f = FT_CLASS.ACTION then (ftRow i).action else f.rst
  | _ => f.rst

/-- The key of a table's field in the table store: table number, entry index, lowest bit. -/
def Tbl.key (t : Tbl) (i : Nat) (f : Fld) : Nat := (t.num * 1048576 + i) * 512 + f.lo

/-- What a key of the table store reads as where nothing is listed: the defined reset content (R39). -/
def tblDefault (k : Nat) : Nat :=
  match Tbl.ofNum (k / 536870912) with
  | none => 0
  | some t =>
    match t.fields.find? (fun f => f.lo == k % 512) with
    | none => 0
    | some f => t.rst ((k / 512) % 1048576) f

end Sys2Proof.Machine
end

