-- ==== Sys2Proof/Machine/Store.lean ====
section
/-! DEFINITION. A sparse store of plain data: a list of (key, value) pairs in one canonical form (keys strictly
rising, no pair equal to what an unlisted key reads as), so that equal contents are equal lists.  The register
fields, the table entries and the per-tree, per-port, per-queue state of the block are held in such stores. -/

namespace Sys2Proof.Machine

/-- A sparse store: pairs of a key and a value, keys rising. -/
abbrev Store (α : Type) := List (Nat × α)

/-- Read one key; `d` is what an unlisted key reads as. -/
def Store.get {α : Type} (d : α) : Store α → Nat → α
  | [], _ => d
  | (k, v) :: t, q => if k = q then v else Store.get d t q

/-- Whether a key is listed. -/
def Store.has {α : Type} : Store α → Nat → Bool
  | [], _ => false
  | (k, _) :: t, q => k == q || Store.has t q

/-- Take a key out of the list. -/
def Store.del {α : Type} (st : Store α) (q : Nat) : Store α := st.filter (fun e => e.1 != q)

/-- List a key with a value, at its place in the rising order. -/
def Store.ins {α : Type} : Store α → Nat → α → Store α
  | [], q, v => [(q, v)]
  | (k, w) :: t, q, v =>
    if q < k then (q, v) :: (k, w) :: t
    else if q = k then (q, v) :: t
    else (k, w) :: Store.ins t q v

/-- Write one key: the value that an unlisted key reads as takes the entry out. -/
def Store.put {α : Type} [DecidableEq α] (d : α) (st : Store α) (q : Nat) (v : α) : Store α :=
  if v = d then st.del q else st.ins q v

/-- Keep the keys that satisfy a test; every other key reads again as unlisted. -/
def Store.keep {α : Type} (p : Nat → Bool) (st : Store α) : Store α := st.filter (fun e => p e.1)

/-- Keys strictly rising. -/
def Store.rising {α : Type} : Store α → Bool
  | [] => true
  | [_] => true
  | (k, _) :: (k', v') :: t => k < k' && Store.rising ((k', v') :: t)

/-- The canonical form: keys strictly rising, and no pair equal to what its key reads as when unlisted. -/
def Store.wf {α : Type} [DecidableEq α] (d : Nat → α) (st : Store α) : Bool :=
  st.rising && st.all (fun e => e.2 != d e.1)

end Sys2Proof.Machine
end

