-- ==== Sys2Proof/Machine/State.lean ====
section
/-! DEFINITION. The state of the block: every register field, table entry, queue, engine, pin and timer that the spec
gives the module, the queue of waiting commands, and the state right after reset.  Plain data throughout. -/

namespace Sys2Proof.Machine

/-! ## The register fabric -/

/-- A command of the indirect window in progress (R39–R43): what completion will report. -/
structure TblCmd where
  /-- the error code the command completes with; 0 none -/
  code : Nat
  /-- a READ: the sixteen words that completion copies into TBL_DATA -/
  data : List Nat
  isRead : Bool
  /-- an accepted CL_PROFILE write, which completes when the walks under the previous entry have ended (R229) -/
  drain : Bool
  /-- BP_ACCOUNT images that take effect as the command completes (R254), by entry -/
  late : List (Nat × Nat)
  deriving DecidableEq, Repr

/-- A PAGE_OWNER write that waits for a table command to complete (R47). -/
structure OwnerWrite where
  vector : Nat
  owner : Nat
  mask : Nat
  deriving DecidableEq, Repr

/-- One MSI-X vector of one function: masked, and the part of its pending bit that a ring's completion set while it was
masked (R431; PCIe 5.0).  The part of a page's interrupt is its INT_PEND (R51). -/
structure Msix where
  masked : Bool
  pending : Bool
  deriving DecidableEq, Repr

/-! ## Faults -/

/-- One event reported to FT (R410, R416): class and number of the unit, local ONU index, tenant, detail, injected. -/
structure FtEv where
  cls : Nat
  unit : Nat
  onu : Option Nat
  tenant : Nat
  detail : Nat
  inj : Bool
  deriving DecidableEq, Repr

/-- An open coalescing interval of one (class, unit) key (R417). -/
structure Coal where
  start : Nat
  sec : Nat
  ns : Nat
  count : Nat
  bitmap : Nat
  detail : Nat
  tenant : Nat
  lasting : Bool
  /-- the action of the lasting state that began in the interval -/
  act : Nat
  inj : Bool
  deriving DecidableEq, Repr

/-- What FT keeps for one (class, unit) key beside its FT_INST entry: the open window's start, W and N (R410, R412)
and the open coalescing interval. -/
structure FtKey where
  wStart : Nat
  wMs : Nat
  wN : Nat
  coal : Option Coal
  deriving DecidableEq, Repr

/-- A lasting state in force (R410–R412): its key, the action with which it became lasting, its last event. -/
structure Lasting where
  cls : Nat
  unit : Nat
  act : Nat
  lastEv : Nat
  wMs : Nat
  deriving DecidableEq, Repr

/-- FT beside its registers and tables. -/
structure Ft where
  keys : Store FtKey
  lasting : List Lasting
  seq : Nat
  /-- events reported in the command that runs, not yet applied (R412) -/
  queue : List FtEv
  deriving DecidableEq, Repr

/-! ## Clocks, power and reset -/

/-- What a clock domain holds beside its CK_DOMAIN_CTRL entry. -/
structure Dom where
  /-- released from reset (R386, R387) -/
  released : Bool
  /-- held in reset by a lasting action 5 (R469) -/
  held : Bool
  /-- a domain-scope reset of it is in progress (RS_STAT.BUSY) -/
  inRst : Bool
  /-- 0 no request; 1 gate requested (R367); 2 source switch (R364); 3 ungating (R369); 4 restarting after a clock
  failure (R373) -/
  op : Nat
  /-- the source of a switch in progress -/
  swTo : Nat
  deriving DecidableEq, Repr

/-- The clock unit beside its registers. -/
structure Clk where
  dom : Store Dom
  /-- FOSC has failed (R355): no register shows it -/
  foscFailed : Bool
  /-- AON runs on SOSC until XTAL_B has passed 100 consecutive windows: at start-up and after its failure (R366) -/
  aonWait : Bool
  /-- the frame timebase in units of 2^-32 ns: it runs at the frequency of module time and takes no step (R56, R312) -/
  base : Nat
  deriving DecidableEq, Repr

/-- One physical bank of the calibration flash (R394, R395): image words, sequence number, verify mark and a
signature and CRC that fit. -/
structure Bank where
  image : Store Nat
  seq : Nat
  valid : Bool
  deriving DecidableEq, Repr

/-- Power and reset beside their registers. -/
structure Pwr where
  /-- RST_N is low, or its reset still in force (R386, R388) -/
  rstN : Bool
  /-- a cold (3) or warm (2) reset in force or its release sequence running; 0 none -/
  scope : Nat
  /-- the domains of step 7 still to release, in order (Table PWR–6) -/
  relQ : List Nat
  usableA : Bool
  usableB : Bool
  /-- last-word sequence: 0 not started, 1 running, 2 record done -/
  lw : Nat
  /-- a feed became usable after both were unusable, or after the last-word sequence started (R382, R384) -/
  lwPowerOn : Bool
  /-- the record that the last-word sequence is programming, by word (R380, Table PWR–3) -/
  lwPend : Option (Store Nat)
  bank0 : Bank
  bank1 : Bank
  /-- a commit in progress: the bank it writes (R395) -/
  commit : Option Nat
  /-- the calibration image whose values are in force since the last cold or warm reset (R394) -/
  applied : Store Nat
  /-- an abandoned commit to be shown in INCOMPLETE after the reset (R396) -/
  abandoned : Bool
  wdtStart : Nat
  wdtWarned : Bool
  /-- epochs of functions 0–15, and 16 for the Aztil message epoch (R385, R216) -/
  epochs : Store Nat
  /-- when the last cold reset released (UPTIME of Table PWR–3) -/
  bootAt : Nat
  deriving DecidableEq, Repr

/-- The supervisor and the pins beside their registers. -/
structure Sup where
  /-- module time of the last rise of QUENCH_N, and whether the pin is low -/
  quenchHighAt : Nat
  /-- control bits of the trees (R198) -/
  ctl : Store Bool
  /-- links on whose PROT_HOLD_IN the supervisor's own monitor sees edges (R198) -/
  edge : Store Bool
  /-- the two hold toggles: start of an own hold gap (R197) -/
  gap0 : Option Nat
  gap1 : Option Nat
  /-- a hold output land found against its command: the level it is stuck at, toggling or still (R407) -/
  land0 : Option Bool
  land1 : Option Bool
  /-- thermal sensors: the last sample plus 1,000, 0 before the first, and how many equal ones came in a row (R416) -/
  therm : Store (Nat × Nat)
  deriving DecidableEq, Repr

/-- Module time: 48-bit seconds, nanoseconds, fraction in units of 2^-32 ns (R311). -/
structure TimeVal where
  sec : Nat
  ns : Nat
  frac : Nat
  deriving DecidableEq, Repr

/-! ## Mirror records (R208) -/

/-- An entry of a map as a mirror record carries it (Table BW–7). -/
structure MapEntry where
  wireId : Nat
  start : Nat
  size : Nat
  prof : Nat
  dbru : Bool
  ploamu : Bool
  seq : Bool
  subst : Bool
  deriving DecidableEq, Repr

/-- An ONU delta of a mirror record (Table PRT–9). -/
structure MDelta where
  onu : Nat
  state : Nat
  cause : Nat
  full : Bool
  ploamSeq : Nat
  eqd : Nat
  rtd : Nat
  lastSfc : Nat
  deriving DecidableEq, Repr

/-- A key position of a mirror record: FLAGS bit 2 soft limit reached, bit 1 frozen, bit 0 switch pending. -/
structure MKey where
  ctx : Nat
  usage : Nat
  flags : Nat
  deriving DecidableEq, Repr

/-- A mirror record (Table PRT–9). -/
structure MirrorRec where
  sfc : Nat
  tree : Nat
  subst : Bool
  arrOfs : Int
  queued : Nat
  digest : Nat
  map : List MapEntry
  deltas : List MDelta
  keys : List MKey
  deriving DecidableEq, Repr

/-! ## Tree engines -/

/-- One grant of a map (Table BW–7) with what the engine, the Hardy and the receiver know of it beside its wire form:
the allocation, the ONU, the tenant, what it is for and its overhead blocks. -/
structure Grant where
  wireId : Nat
  start : Nat
  size : Nat
  prof : Nat
  dbru : Bool
  ploamu : Bool
  /-- sequence flag of Table BW–7 -/
  seq : Bool
  /-- BW_ALLOC index; `none` for a grant of the sequencer (discovery, ranging, probe) -/
  alloc : Option Nat
  onu : Nat
  tenant : Nat
  /-- 0 data; 1 PLOAMu alone; 2 ranging; 3 discovery; 4 skew probe; 5 periodic -/
  kind : Nat
  deriving DecidableEq, Repr

/-- A map with its mark as a substitute (R62). -/
structure GMap where
  grants : List Grant
  subst : Bool
  deriving DecidableEq, Repr

/-- A downstream PLOAM message waiting in a framer (R64–R66): who sent it (`none` the sequencer, `some (r, i)` T0's TX ring `r`,
whose descriptor `i` is to be completed). -/
structure Ploam where
  ring : Option (Nat × Nat)
  /-- the host's, also after a reset of its function took the descriptor -/
  host : Bool
  onu : Nat
  type : DsPloamType
  body : List Byte
  deriving DecidableEq, Repr

/-- A downstream frame on its way through the cipher engine: its flow, the handle and holder tag to release, its bytes. -/
structure CxItem where
  flow : Nat
  handle : Nat
  tag : Nat
  bytes : List Byte
  deriving DecidableEq, Repr

/-- An XGEM frame ready for a framer (R67): what the cipher engine and the bonding unit made of it. -/
structure Xgem where
  port : Nat
  keyIdx : Nat
  options : Nat
  cipher : Bool
  done : Bool
  payload : List Byte
  /-- what the field's end leaves of an encrypted frame, in clear, to be encrypted at its own position (R68, R282) -/
  rest : List Byte
  /-- the frame as the scheduler presented it, while its buffer is held -/
  item : Option CxItem
  deriving DecidableEq, Repr

/-- A ToD announcement handed to a framer (R72): its send index and its XGEM frame. -/
structure AnnFrame where
  slot : Nat
  sendSfc : Nat
  frame : Xgem
  deriving DecidableEq, Repr

/-- What a burst is armed with of the receiver's registers, as they were when its map was handed over (R84, R85). -/
structure RxCfg where
  margin : Nat
  tol : Nat
  age : Nat
  brstMin : Nat
  brstWidth : Nat
  /-- the receiver was asked to quiesce -/
  quiet : Bool
  /-- shortest listened span in blocks, amplitude threshold and least energy duration (R100, R101) -/
  idleMin : Nat
  thr : Nat
  minNs : Nat
  deriving DecidableEq, Repr

/-- The framer of one tree beside page 0 of TE n. -/
structure Framer where
  /-- operation-control body on the line, and a committed one that waits for the next frame start (R54) -/
  oc : Nat
  ocPend : Option Nat
  /-- the map handed over for frame N+1 (R60), and the receiver's registers at that instant (R84) -/
  handed : Option GMap
  rxCfg : Option RxCfg
  /-- the map and the PLOAM messages frozen at T − 0.5 µs for frame N+1, with sequence numbers and codes (R61, R66) -/
  next : Option (GMap × List (Ploam × Nat × Nat))
  /-- the map of the frame now on the line -/
  carried : GMap
  seqQ : List Ploam
  hostQ : List Ploam
  bcastSeq : Nat
  /-- payload-field bytes left in the frame now on the line -/
  room : Nat
  /-- the rest of a fragmented XGEM frame (R68) -/
  rem : Option Xgem
  /-- one more frame is owed in STOPPING for a remainder, and the frame on the line is that one (R73) -/
  oweRem : Bool
  extra : Bool
  ann : List AnnFrame
  /-- XGEM frames ready for the framer, in the order presented -/
  ready : List Xgem
  /-- length of the run of differing TXDIS samples (R76) -/
  disRun : Nat
  deriving DecidableEq, Repr

/-- The state of one armed burst (Table BRX–5). -/
inductive BurstState
  | armed | lock | search | header | payload | closed
  deriving DecidableEq, Repr

/-- One arming slot (R82): the burst's grants, its expected arrival relative to T in picoseconds, what it was armed
with, and how far it has come. -/
structure Slot where
  onu : Nat
  grants : List Grant
  /-- expected delimiter end D less T, picoseconds (R81) -/
  d : Int
  prof : Nat
  /-- the profile's overhead when the burst was armed: guard bytes, preamble bytes, and whether upstream FEC runs (R80,
  R96) -/
  guard : Nat
  preamble : Nat
  fec : Bool
  /-- granting frame's superframe count -/
  sfc : Nat
  recalled : Bool
  /-- the slot's copy of the ONU's recall entry (R82) -/
  recallCopy : Nat
  cfg : RxCfg
  st : BurstState
  /-- the DSP declared lock (R95) -/
  locked : Bool
  /-- last rejection was an uncorrectable header -/
  lastUncorr : Bool
  /-- foreign headers recorded in the window -/
  foreign : Bool
  foreignIds : List Nat
  /-- accepted after a header correction; differing delimiter bits -/
  corrected : Bool
  delimErr : Nat
  /-- measured arrival error A − D of the accepted delimiter, 1/64 UI -/
  arrErr : Int
  /-- a ranging burst whose measurement the sequencer has taken -/
  taken : Bool
  /-- places of the grants in which XGEM recovery has ended (R97) -/
  ended : List Nat
  deriving DecidableEq, Repr

/-- The burst receiver of one tree beside page 1 of TE n. -/
structure Rx where
  cur : List Slot
  next : List Slot
  /-- bursts closed in this frame and in the one before, whose codewords may still decode -/
  done : List Slot
  old : List Slot
  /-- slots pre-armed from the speculative map (R82, R83): they leave no other trace -/
  pre : List Slot
  /-- the registers with which the map on the line was armed (R84) -/
  cfg : Option RxCfg
  /-- the recall entry in the shadow tap bank and in the live one; `none` stands for the tree's default taps (R95) -/
  shadow : Option Nat
  live : Option Nat
  deriving DecidableEq, Repr
/-- A transition of Table RNG–2 decided and not yet committed (R114, R115).  `rank` 1 host DISABLE, 2 any move to
ISOLATED, 3 other host commands, 4 other decisions of the sequencer. -/
structure Trans where
  onu : Nat
  dest : Nat
  cause : Nat
  rank : Nat
  /-- what a move to DISCOVERED records: serial number, RTD and random delay, and whether case 4 placed it -/
  serial : Nat
  rtd : Nat
  rnd : Nat
  case4 : Bool
  deriving DecidableEq, Repr

/-- An open discovery window (R109–R112). -/
structure DiscWin where
  sfc : Nat
  /-- serial numbers accepted so far in this window, in order -/
  serials : List Nat
  /-- the seventeenth has been recorded (R112) -/
  overflow : Bool
  /-- serial numbers whose disable message was re-sent in this window (Table RNG–1 case 1) -/
  resent : List Nat
  deriving DecidableEq, Repr

/-- Ranging of one RANGING ONU (R118), and an unacknowledged Ranging_Time of any ONU (R118, R120). -/
structure Ranging where
  /-- the confirming step runs (R118 step 2) -/
  confirm : Bool
  /-- ranging grants without an accepted burst -/
  fails : Nat
  /-- a Ranging_Time waits for its acknowledgement -/
  wait : Bool
  /-- times it has been sent -/
  sends : Nat
  /-- the sequence numbers that the framer gave those messages (R63, R65) -/
  seqs : List Nat
  /-- the equalisation delay the ONU is using, in UI (R118) -/
  used : Int
  deriving DecidableEq, Repr

/-- A running rogue hunt (R124): the suspects, the half now isolated, every hunt-isolated entry, whether the single
suspect is being confirmed, and energy seen in this round. -/
structure Hunt where
  suspects : List Nat
  half : List Nat
  isolated : List Nat
  confirming : Bool
  energy : Bool
  /-- the moves of this round are committed and its frames are being listened to -/
  listening : Bool
  /-- a HUNT_ABORT waits for the commit (R125) -/
  abort : Bool
  deriving DecidableEq, Repr

/-- A quiet window of one tree (R109, R110, R118, R185) on one port, relative to block 0 of the upstream frame of the next map: first
block and one past the last; how many maps after the next carries its grant, whose start is relative to its own frame,
the grant itself until it has been carried, and the burst profile that a discovery window names for it (R110, R160). -/
structure Quiet where
  port : Nat
  first : Int
  last : Int
  frame : Nat
  grant : Option Grant
  prof : Nat
  deriving DecidableEq, Repr

/-- The ranging sequencer of one tree beside page 2 of TE n. -/
structure Seq where
  trans : List Trans
  /-- drift samples A − D in 1/64 UI, newest first (R119) -/
  drift : Store (List Int)
  rng : Store Ranging
  win : Option DiscWin
  /-- elapsed time at which discovery became pending, or the last window opened (R108) -/
  discSince : Option Nat
  /-- quiet windows reserved for the next map (R110) -/
  quiet : List Quiet
  hunt : Option Hunt
  /-- when an entry became DISCOVERED, and whether Table RNG–1 case 4 placed it -/
  discAt : Store Nat
  case4 : Store Bool
  /-- superframe count from which an ONU gives drift samples after an acknowledgement, plus 1 (R120) -/
  resume : Store Nat
  /-- under `ONU × 256 + number`: the last message of that sequence number to that ONU was the sequencer's (R63) -/
  own : Store Bool
  /-- `ONU × 256 + number` of the host's messages whose acknowledgement the framer awaits (R137) -/
  awaits : List Nat
  /-- a hunt that is to start when the hold of R126 ends -/
  huntHeld : Bool
  /-- start in picoseconds after T and energy in nanoseconds of the last span reported to rogue detection (R101) -/
  heard : Option (Int × Nat)
  deriving DecidableEq, Repr

/-- The tree engines beside their registers: framer, receiver and sequencer by tree. -/
structure Te where
  fr : Store Framer
  rx : Store Rx
  sq : Store Seq
  /-- host PLOAM bodies taken from T0's rings and not yet at their framer, with their tree (R64) -/
  subs : List (Nat × Ploam)
  /-- built announcements on their way to a framer, with their tree (R72) -/
  anns : List (Nat × AnnFrame)
  deriving DecidableEq, Repr

/-! ## Host rings, the PCIe functions, check-value units -/

/-- A message for an RX ring (Table HIF–7). -/
structure RxMsg where
  cls : Nat
  reason : Nat
  source : Nat
  ts : Option (Nat × Nat)
  epoch : Nat
  bytes : List Byte
  deriving DecidableEq, Repr


/-! ## Bonding -/

/-- A bonding fragment on its way upstream (R179, R188): its allocation, label, XGEM header fields, the member that
received it, the count of its granting map, and when it was decoded. -/
structure BdFrag where
  alloc : Nat
  sfc : Nat
  seq : Nat
  first : Bool
  last : Bool
  port : Nat
  keyIdx : Nat
  onu : Nat
  member : Nat
  payload : List Byte
  at_ : Nat
  deriving DecidableEq, Repr

/-- Reordering of one allocation of a group (R188): the next expected number (`none` before the first fragment), the
fragments of the packet being put together, oldest first, and whether the packet in hand is to be discarded. -/
structure BdOrder where
  next : Option Nat
  parts : List BdFrag
  broken : Bool
  deriving DecidableEq, Repr

/-- A member of a group beside its BD_GROUP fields (R185, R189). -/
structure BdMember where
  /-- elapsed time since when causes 1, 2 and 5 have been absent while DOWN -/
  clearAt : Nat
  /-- consecutive frames of cause 3 -/
  lossRun : Nat
  /-- bursts armed and accepted in the frame being judged -/
  armed : Bool
  accepted : Bool
  /-- a transition decided and not yet committed: state code and cause -/
  trans : Option (Nat × Nat)
  /-- ONUs with a probe still to issue, ascending; ONUs whose probe is out -/
  probes : List Nat
  flying : List Nat
  /-- accepted probes since PROBING began -/
  okProbes : Nat
  deriving DecidableEq, Repr

/-- A group beside its BD_GROUP entry. -/
structure BdGrp where
  /-- FRAG_MAX in force since the last frame start; 0 before the first -/
  frag : Nat
  /-- next downstream sequence number by ONU -/
  dsSeq : Store Nat
  us : Store BdOrder
  held : List BdFrag
  /-- fragments recovered by the receivers and not yet taken (R188) -/
  inq : List BdFrag
  mem : Store BdMember
  /-- cleared templates still owed after recovery, and templates sent, which the incremented field follows (R192) -/
  oamLeft : Nat
  oamSeq : Nat
  /-- indications to send in the next frame: 0 down, 1 up (R193) -/
  ind : List Nat
  deriving DecidableEq, Repr

/-! ## Protection and the Aztil link -/

/-- Protection of one tree beside its PX_ROLE entry. -/
structure PxTree where
  /-- the state from which TAKING was entered (Table PRT–6) -/
  former : Nat
  /-- RELEASING was entered for a request (causes 5–8) -/
  byReq : Bool
  /-- newest samples of the local and of the peer's request, at most 3 each (R214), and the values made effective -/
  locHist : List Nat
  peerHist : List Nat
  locEff : Nat
  peerEff : Nat
  /-- standby: superframe count of the last applied record; active: next index of a FULL sweep; standby: indices of
  the sweep applied so far -/
  lastSfc : Option Nat
  sweepNext : Option Nat
  swept : Nat
  synced : Bool
  /-- records of the cycle gathered, by the member slot of the sender (R208) -/
  gathered : Store (Option MirrorRec)
  /-- a record has been applied since the last deadline -/
  applied : Bool
  /-- superframe count whose deadline passed last: a record of it comes too late (R209) -/
  late : Option Nat
  /-- acquisition: accepted bursts, their summed A − D in ps, frames counted, frames to wait before a new attempt -/
  acqN : Nat
  acqSum : Int
  acqFrames : Nat
  acqWait : Nat
  /-- arrival errors of the frame, for R212 -/
  errSum : Int
  errN : Nat
  /-- transmit delay trim in 1/64 UI, the active's arrival offset of the last applied record, and the frame phase of the
  tree, in picoseconds, at an arrival offset of 0 (R212) -/
  trim : Int
  peerArr : Int
  phase0 : Option Int
  wtrAt : Nat
  reverting : Bool
  /-- consecutive cycles without a map (Table PRT–7) -/
  noMap : Nat
  /-- an exercise that waits for its EX_SEEN -/
  exAt : Option Nat
  /-- an exercise of the peer was seen on both indications -/
  exSeen : Bool
  /-- consecutive samples of the peer's REVERT_REQ (R214) -/
  revRun : Nat
  /-- rotation of the key part, what was last sent of each ONU, and flags and downstream use (plus 1) of each key context
  at the last record (R208) -/
  keyNext : Nat
  sentOnu : Store Nat
  seenKey : Store Nat
  /-- QUEUED of the last applied record; frames begun, and that count (plus 1) when a key position was mirrored (R213) -/
  queued : Nat
  frames : Nat
  keyAt : Store Nat
  deriving DecidableEq, Repr

/-- A host-to-host message sent and not acknowledged (R216): T0's ring slot, descriptor and bytes. -/
structure AzMsg where
  ring : Nat
  idx : Nat
  id : Nat
  deriving DecidableEq, Repr

/-- A cell that waits for its turn (Table PRT–2): the bytes used of its payload. -/
structure AzCell where
  first : Bool
  last : Bool
  seq : Nat
  stream : Nat
  bytes : List Byte
  deriving DecidableEq, Repr

/-- One Aztil link beside its registers. -/
structure PxLink where
  /-- elapsed time of the last valid PROTECTION cell; consecutive header HECs that fit and that do not -/
  cellAt : Nat
  fit : Nat
  miss : Nat
  /-- the peer's requests and exercise marks by tree, from the last cell -/
  peerReq : Store Nat
  peerExMark : Store Bool
  peerExSeen : Store Bool
  peerEpochSeen : Bool
  /-- control codes last sent, by tree -/
  sent : Store Nat
  /-- next sequence number by cell type: 0 IDLE, 1 PROTECTION, 2 MIRROR, 3 MESSAGE, 4 TIME (Table PRT–2) -/
  seqs : Store Nat
  /-- what waits to be sent (R202), and when the cell on the line ends, in units of 10 ps of elapsed time -/
  protDue : Bool
  timeDue : Bool
  mirQ : List AzCell
  msgQ : List AzCell
  busyTo : Nat
  /-- received: next sequence number of MIRROR and of MESSAGE cells, and the record (its stream) and the message (the
  sequence number of its first cell) being gathered (R201) -/
  mirSeq : Option Nat
  msgSeq : Option Nat
  mirPart : Option (Nat × List Byte)
  msgPart : Option (Nat × List Byte)
  unacked : List AzMsg
  /-- received messages not yet delivered, and delivered ones whose acknowledgement is owed: (descriptor, message) -/
  heldRx : List (Nat × RxMsg)
  awaiting : List (Nat × Nat)
  /-- the last TIME cell received: its timebase and when it came -/
  echo : Option (Nat × Nat)
  deriving DecidableEq, Repr

/-- Bonding and protection. -/
structure Grp where
  bd : Store BdGrp
  px : Store PxTree
  link : Store PxLink
  deriving DecidableEq, Repr

/-! ## The bandwidth engine and the Hardy -/

/-- A report waiting for its cycle (R17, R22): allocation, occupancy in blocks, superframe count of its map. -/
structure BwReport where
  alloc : Nat
  q : Nat
  m : Nat
  deriving DecidableEq, Repr

/-- The bandwidth engine of one tree beside its pages.  A bonded group's engine is its group port's; its member maps
are each member's own. -/
structure BwTree where
  /-- configuration in force since the bellows start: register and table fields (R18) -/
  snapR : Store Nat
  snapT : Store Nat
  /-- a cycle is past its bellows start, and past its cut -/
  running : Bool
  cut : Bool
  /-- elapsed time of the cycle's opening -/
  openAt : Nat
  /-- mode of this cycle -/
  runahead : Bool
  /-- ONUs whose recall passed R90 at the bellows start -/
  recalled : List Nat
  /-- speculative needs by allocation -/
  need : Store Nat
  /-- quiet windows of the frame, with their grants, taken at the bellows start (R110, R118, R185) -/
  quiet : List Quiet
  /-- this port's speculative and confirmed maps, in start-time order -/
  spec : List Grant
  conf : List Grant
  /-- the speculative map was complete by T − 40 µs (R147) -/
  specDone : Bool
  /-- reports decoded since the last cut, oldest first; those of them decoded after the cut of a cycle still open -/
  reported : List BwReport
  late : List BwReport
  /-- occupancy and map (plus 1; 0 none) of the last reconciled report by allocation (R141) -/
  recQ : Store Nat
  recM : Store Nat
  /-- pinned grants placed at the bellows start, and the ONUs due for PLOAMu (R137, R145) -/
  pinned : List Grant
  /-- periodic grants withheld by a ceiling in this cycle (R143) -/
  pinClips : Nat
  ploamDue : List Nat
  /-- the trace follows this tree (R152) -/
  tracing : Bool
  /-- what conventional mode may use: occupancy and map by allocation, and reports too young for it -/
  convQ : Store Nat
  convM : Store Nat
  stash : List BwReport
  /-- map of the last report by allocation, plus 1; 0 none -/
  lastM : Store Nat
  /-- payload of the last 16 maps sent, newest first: superframe count and payload by allocation (R140) -/
  hist : List (Nat × Store Nat)
  /-- frames since the last PLOAMu grant by ONU (R137) -/
  ploamu : Store Nat
  /-- conventional cycles still owed after a takeover, and allocations without a report since (R151) -/
  takeover : Nat
  fresh : List Nat
  deriving DecidableEq, Repr

/-- The Hardy of one tree beside its pages. -/
structure HyTree where
  /-- HY_GAP_MIN and the shadow tables as of the snapshot (R158) -/
  snapR : Store Nat
  snapT : Store Nat
  snapped : Bool
  quiet : List Quiet
  /-- confirmed grants still to arrive, and whether the stream is complete -/
  stream : List Grant
  arrived : Nat
  lastStart : Nat
  done : Bool
  /-- E of Table HY–1, kept grants in order, kept payload by tenant, footprint sum -/
  e : Nat
  kept : List Grant
  sums : Store Nat
  foot : Nat
  /-- the burst being checked: where it ends, its default Alloc-ID's ONU, whether its rest is removed (R161) -/
  burstEnd : Option Nat
  burstOnu : Nat
  burstCut : Bool
  removed : Nat
  /-- structural cause found (R162); 0 none -/
  bad : Nat
  fallback : List Grant
  prev : Option (List Grant)
  safeReq : Bool
  safe : Bool
  /-- the safe map of the last snapshot taken unlocked (R168) -/
  safeMap : List Grant
  /-- damaged shadow entries that its snapshot has read and that silence the tree, as keys of the table store (R170) -/
  damaged : List Nat
  /-- the last superframe count served -/
  sfc : Nat
  deriving DecidableEq, Repr

/-- The engine and the Hardy by tree; damaged HY_ALLOC entries silence every tree. -/
structure Engine where
  bw : Store BwTree
  hy : Store HyTree
  /-- next position of the trace and of the violation log once they wrap (R152, R172) -/
  traceAt : Nat
  violAt : Nat
  damagedAlloc : List Nat
  deriving DecidableEq, Repr

/-! ## Lanes and uplink ports -/

/-- A lane beside its page: where a transition in progress goes (R339), and when full adaptation began (R336). -/
structure Lane where
  dest : Nat
  adaptAt : Nat
  deriving DecidableEq, Repr


/-! ## The packet path: classifier, buffer pools, scheduler, cipher engine, uplink MACs -/

/-- What a TX descriptor asks of a frame (R322, R324): its function, timestamp mode, identifier, offsets, and the
departure time P with its launch time L, both in nanoseconds since second 0. -/
structure TxReq where
  func : Nat
  tsMode : Nat
  tsId : Nat
  tsOfs : Nat
  udpOfs : Nat
  launch : Option (Nat × Nat)
  deriving DecidableEq, Repr

/-- A frame at a classifier input: from an uplink port, or the plain payload of an upstream XGEM frame with its flow. -/
structure ClIn where
  up : Bool
  port : Nat
  flow : Nat
  bytes : List Byte
  ts : Option (Nat × Nat)
  deriving DecidableEq, Repr

/-- Where a holder of a buffer is (R242, R244).  `foreign` is a flow that R232 keeps the frame from: the slack tub. -/
inductive Target
  | flow (f : Nat) | agg (a : Nat) | ring (t reason : Nat) | foreign (f : Nat) | template (g : Nat)
  deriving DecidableEq, Repr

/-- A result at the buffer pools' input (R245): requesting tenant, one or two targets, the frame, the SOURCE word of a
copy, and the host descriptor that injected it. -/
structure Admit where
  rt : Nat
  first : Target
  second : Option Target
  bytes : List Byte
  ts : Option (Nat × Nat)
  source : Nat
  req : Option TxReq
  tx : Option (Nat × Nat × Nat)
  deriving DecidableEq, Repr

/-- What a buffer holds beside its descriptor: its bytes, of which a packet takes the first LEN (R241), and of the last
packet its receive timestamp and the copy's SOURCE word. -/
structure Pkt where
  bytes : List Byte
  ts : Option (Nat × Nat)
  source : Nat
  deriving DecidableEq, Repr

/-- A reference in the slack tub (R249): handle, the tag of the holder slot it occupied, the tag required and the tag
found, the reason, and the account it is counted in. -/
structure TubRef where
  handle : Nat
  slot : Nat
  expected : Nat
  found : Nat
  reason : Nat
  acct : Nat
  deriving DecidableEq, Repr

/-- A request to return a reference (R246): RELEASE or FREE, handle and tag. -/
structure BpReq where
  free : Bool
  handle : Nat
  tag : Nat
  deriving DecidableEq, Repr

/-- A reference of an admitted frame that waits at the pools' output for the scheduler (R271): the result, the handle,
whether the target is HOLDER_B, the target. -/
structure Enq where
  a : Admit
  handle : Nat
  isB : Bool
  target : Target
  deriving DecidableEq, Repr

/-- The buffer pools beside their registers and tables. -/
structure Bp where
  /-- results waiting at the pools' input, by ingress order; enqueues waiting at their output -/
  inq : List Admit
  outq : List Enq
  pkt : Store (Option Pkt)
  /-- requests that holders have sent and that have not reached the pools -/
  reqs : List BpReq
  /-- requests of one cycle on one descriptor, by arrival, each with whether its descriptor read fails (R247) -/
  cycle : List (BpReq × Bool)
  tub : List TubRef
  /-- descriptors retired under R250 -/
  retired : List Nat
  /-- next position of the tub log once it wraps -/
  tubAt : Nat
  deriving DecidableEq, Repr

/-- A frame in a queue: handle, tag of its holder slot and whether that slot is HOLDER_B, stored length, module time of
its enqueue in nanoseconds, what its TX descriptor asked. -/
structure Held where
  handle : Nat
  tag : Nat
  isB : Bool
  len : Nat
  enq : Nat
  req : Option TxReq
  deriving DecidableEq, Repr

/-- What a queue holds beside its SC_QUEUE entry: its frames, head first; its parent node and its tag's tenant while it
holds a frame (R260, R468). -/
structure Queue where
  frames : List Held
  parent : Nat
  tenant : Nat
  deriving DecidableEq, Repr

/-- The scheduler beside its registers and tables. -/
structure Sched where
  q : Store Queue
  /-- parents of active ONU nodes (R260), plus 1 -/
  onuParent : Store Nat
  /-- what each shaper's credit lacks to BURST, in 1/8,000,000 byte so that growth is exact, with the elapsed time at
  which that was true: nodes by index, queues from 2^17 -/
  credit : Store (Nat × Nat)
  /-- what the committed and the peak bucket of a flow's policer lack, likewise -/
  bucket : Store (Nat × Nat × Nat)
  /-- elapsed time at which the latency scan restarted, and the period, counted from 1, in which THRESH was last set
  (R275) -/
  scanAt : Nat
  threshP : Nat
  deriving DecidableEq, Repr

/-- An upstream XGEM frame (R97): grantee, port, key index, payload, count of the granting map and position of its
first payload word; on a group the first SEQ and the Alloc-ID (Table CPH–2). -/
structure UsXgem where
  onu : Nat
  port : Nat
  keyIdx : Nat
  sfc : Nat
  pos : Nat
  seq : Nat
  allocId : Nat
  payload : List Byte
  deriving DecidableEq, Repr

/-- A tenant job in progress (R293): descriptor, status so far, key context, blocks and output. -/
structure Job where
  op : Nat
  status : Nat
  ctx : Nat
  /-- length, source bytes, and the bytes at AUX with their address (Table CPH–4) -/
  len : Nat
  src : List Byte
  aux : List Byte
  addr : Nat
  /-- 4 KB chunks done (R278), and whether nothing is left to do -/
  chunks : Nat
  fin : Bool
  out : List Byte
  deriving DecidableEq, Repr

/-- A packet of a group, encrypted and not yet cut: its first SEQ, its ONU, the fragment size it was numbered with. -/
structure CutPkt where
  seq : Nat
  onu : Nat
  frag : Nat
  /-- fragments already assigned to members -/
  next : Nat
  frame : Xgem
  deriving DecidableEq, Repr

/-- The cipher engine beside its registers and tables. -/
structure Cx where
  /-- downstream frames selected and not yet encrypted, by tree -/
  ds : Store (List CxItem)
  /-- packets of a group encrypted and not yet cut -/
  cut : Store (List CutPkt)
  /-- upstream frames: recovered and not yet matched; matched, with their flow, and not yet decrypted -/
  us : Store (List UsXgem)
  dec : Store (List (Nat × UsXgem))
  job : Store (Option Job)
  /-- the tenant whose turn it is among those with work (R278) -/
  jobNext : Nat
  /-- pairs whose PAUSED scan runs (R288) -/
  scan : List Nat
  /-- next position of the key log once it wraps -/
  logAt : Nat
  deriving DecidableEq, Repr

/-- A frame at an uplink MAC's input: the handle and holder tag to release, bytes, what its TX descriptor asked. -/
structure TxFrame where
  handle : Nat
  tag : Nat
  bytes : List Byte
  req : Option TxReq
  deriving DecidableEq, Repr

/-- The packet path. -/
structure Path where
  cl : List ClIn
  bp : Bp
  sc : Sched
  cx : Cx
  /-- frames at each uplink MAC -/
  mac : Store (List TxFrame)
  deriving DecidableEq, Repr

/-! ## Time -/

/-- An entry of a transmit-timestamp queue (R323). -/
structure TsqEntry where
  id : Nat
  dropped : Bool
  sec : Nat
  ns : Nat
  frac : Nat
  deriving DecidableEq, Repr

/-- A Sync that waits for its Follow_Up (R318): sequenceId, receive time t2 in 1/65,536 ns, and whether module time was
stepped since. -/
structure SyncWait where
  seq : Nat
  t2 : Int
  stale : Bool
  deriving DecidableEq, Repr

/-- The time unit beside its registers. -/
structure Tm where
  tsq : Store (List TsqEntry)
  /-- entries discarded since the last pop, by port -/
  ovf : Store Bool
  sync : Option SyncWait
  /-- a TM_TOD_CMD not yet applied: its OP and the value in units of 2^-32 ns (R314) -/
  todCmd : Option (Nat × Int)
  /-- elapsed time of the last servo sample -/
  sampleAt : Nat
  /-- I and y in 2^-24 ppb, which R317 computes exactly from gains in 1/256 and θ in 1/65,536 ns -/
  i : Int
  y : Int
  /-- announcements built and whose TARGET frame has not started: slot index and target count (R329) -/
  built : List (Nat × Nat)
  deriving DecidableEq, Repr

/-- A TX descriptor taken: its number, its LEN, and its status, detail and epoch once complete (R429, Table HIF–6). -/
structure TxSlot where
  idx : Nat
  len : Nat
  fin : Option (Nat × Nat × Nat)
  deriving DecidableEq, Repr

/-- What a ring holds beside its registers (R429, R431): the TX descriptors taken and not yet passed by CI, each with
its completion (status, detail, epoch) once it has one; the completions not yet signalled and when the first of them
was written; the BUF_LEN of the RX descriptors by descriptor number, 16,384 where the host said nothing. -/
structure Ring where
  taken : List TxSlot
  unsig : Nat
  unsigAt : Nat
  bufLens : Store Nat
  deriving DecidableEq, Repr

/-- The host interface beside its registers. -/
structure Hif where
  /-- by function × 16 + ring slot -/
  rings : Store Ring
  /-- PLOAM and OMCI messages held for want of a descriptor (Table HIF–8); an OMCI message with its function -/
  heldPloam : List RxMsg
  heldOmci : List (Nat × RxMsg)
  /-- by function × 64 + vector -/
  msix : Store Msix
  /-- SR-IOV: VF Enable with NumVFs (R297) -/
  numVfs : Nat
  /-- the check register of each unit, and the path unit that takes the next OMCI message (R444) -/
  cvReg : Store Nat
  cvNext : Nat
  deriving DecidableEq, Repr

/-- The register fabric beside the fields. -/
structure Fabric where
  /-- a command of the indirect window in progress, by page number -/
  tcmd : Store (Option TblCmd)
  ownerPend : Store (Option OwnerWrite)
  /-- pages whose block-scope reset is in progress -/
  blkRst : List Nat
  /-- per-function latches of low-word reads (R59, R313, R440), by ((page × 4096 + offset) × 16 + function); a latched
  value is held as value + 1, 0 is no latch -/
  latch : Store Nat
  deriving DecidableEq, Repr

/-! ## What the module emits -/

/-- The head of a downstream frame on the line (R54): PSync, the superframe-count and operation-control structures of
8 bytes each, and the 4-byte HLend. -/
structure DsHead where
  psync : Nat
  sfc : Nat
  oc : Nat
  hlend : Nat
  deriving DecidableEq, Repr

/-- What leaves the module: read data, messages, frames, cells and bursts of the pins that are pulses.  A level that
a pin holds is a function of the state (`Flags.lean`). -/
inductive Out
  /-- data returned to a function's register read -/
  | rdata (func : Nat) (value : Nat)
  | msix (func vector : Nat)
  /-- completion of TX descriptor `idx` of ring slot `ring`, at address `desc` of the function's memory (Table HIF–6) -/
  | txDone (func ring idx desc status detail epoch : Nat)
  /-- an RX message written by descriptor `idx`, at address `desc` of the function's memory (Table HIF–7) -/
  | rx (func ring idx desc : Nat) (m : RxMsg)
  /-- start of a downstream frame: superframe count, operation-control body, the structures that carry them and HLend,
  the allocation structures in the units of the line mode (R136), PLOAM messages with their sequence numbers and
  integrity codes -/
  | dsFrame (tree sfc oc : Nat) (head : DsHead) (map : List MapEntry) (ploam : List (Ploam × Nat × Nat))
  /-- one XGEM frame or fragment on a downstream line (R67, R68): its 8-byte header and its payload before padding -/
  | dsXgem (tree port keyIdx options : Nat) (lf : Bool) (header : Nat) (payload : List Byte)
  /-- idle XGEM bytes on a downstream line (R69) -/
  | dsIdle (tree bytes : Nat)
  /-- a BRST pulse (R99) -/
  | brst (tree width : Nat)
  /-- a frame on an uplink line, with pad and FCS (R350) -/
  | ulFrame (port : Nat) (bytes : List Byte)
  /-- a cell on an Aztil link (R200): its header and the bytes used of its payload -/
  | cell (link : Nat) (header : Nat) (payload : List Byte)
  /-- a tenant job's completion in the memory of its function: address of the descriptor whose words 0 and 1 take STATUS
  and EPOCH, and what it wrote where (R293) -/
  | jobDone (func desc status epoch dest : Nat) (output : List Byte)
  /-- the acknowledgement of a host-to-host message to its sender, or its drop for length (R216, R435) -/
  | azAck (link msg : Nat) (dropped : Bool)
  | powerRecord (seq : Nat)
  deriving DecidableEq, Repr

/-! ## The device -/

/-- Everything the module holds but the queue of waiting commands. -/
structure Dev where
  /-- register fields by `Page.key`, table fields by `Tbl.key`, per-second shadows of the counter tables (R442) -/
  regs : Store Nat
  tbls : Store Nat
  shads : Store Nat
  fab : Fabric
  hif : Hif
  /-- the model's own counter behind `Config.freeNat` (log 1) -/
  freeCtr : Nat
  /-- elapsed time in nanoseconds, for the timers that do not follow module time -/
  now : Nat
  /-- what has left the module, newest first -/
  out : List Out
  ft : Ft
  clk : Clk
  pwr : Pwr
  sup : Sup
  time : TimeVal
  te : Te
  grp : Grp
  eng : Engine
  lanes : Store Lane
  path : Path
  tm : Tm
  deriving DecidableEq, Repr

/-- The state: the device and the commands that are waiting, first in first out. -/
structure State where
  dev : Dev
  pending : List Instr
  deriving DecidableEq, Repr

/-- Faults: a command that no outside event can be. -/
inductive Fault
  /-- Raised by `State.run` for a command that is not well formed: it names a tree, lane, page, function, queue or
  value that the spec says does not exist (R3).  Safe: the run stops where the hardware has nothing to do. -/
  | noSuchUnit
  deriving DecidableEq, Repr

/-- Refusals: what the model does not do. -/
inductive Refusal
  /-- Raised by the dispatch for a command without a meaning, by its mnemonic.  Safe: the run stops. -/
  | notModelled (mnemonic : String)
  deriving DecidableEq, Repr

/-- A framer after reset.  The broadcast sequence counter starts at 0, as every per-ONU counter does (R65; DESIGN CHOICE,
log 64). -/
def Framer.init : Framer :=
  { oc := 0, ocPend := none, handed := none, rxCfg := none, next := none, carried := ⟨[], false⟩, seqQ := [], hostQ := [],
    bcastSeq := 0, room := 0, rem := none, oweRem := false, extra := false, ann := [], ready := [], disRun := 0 }
/-- A receiver after reset. -/
def Rx.init : Rx :=
  { cur := [], next := [], done := [], old := [], pre := [], cfg := none, shadow := none, live := none }
/-- A sequencer after reset. -/
def Seq.init : Seq :=
  { trans := [], drift := [], rng := [], win := none, discSince := none, quiet := [], hunt := none, discAt := [],
    case4 := [], resume := [], own := [], awaits := [], huntHeld := false, heard := none }
/-- Reordering of an allocation before its first fragment. -/
def BdOrder.init : BdOrder := { next := none, parts := [], broken := false }
/-- A member of a group as formed. -/
def BdMember.init : BdMember :=
  { clearAt := 0, lossRun := 0, armed := false, accepted := false, trans := none, probes := [], flying := [],
    okProbes := 0 }
/-- A group slot as formed, and after reset. -/
def BdGrp.init : BdGrp :=
  { frag := 0, dsSeq := [], us := [], held := [], inq := [], mem := [], oamLeft := 0, oamSeq := 0, ind := [] }
/-- Protection of a tree after reset. -/
def PxTree.init : PxTree :=
  { former := 0, byReq := false, locHist := [], peerHist := [], locEff := 0, peerEff := 0, lastSfc := none,
    sweepNext := none, swept := 0, synced := false, gathered := [], applied := false, late := none, acqN := 0,
    acqSum := 0, acqFrames := 0, acqWait := 0, errSum := 0, errN := 0, trim := 0, peerArr := 0, phase0 := none,
    wtrAt := 0, reverting := false, noMap := 0, exAt := none, exSeen := false, revRun := 0, keyNext := 0, sentOnu := [],
    seenKey := [], queued := 0, frames := 0, keyAt := [] }
/-- An Aztil link after reset. -/
def PxLink.init : PxLink :=
  { cellAt := 0, fit := 0, miss := 0, peerReq := [], peerExMark := [], peerExSeen := [], peerEpochSeen := false,
    sent := [], seqs := [], protDue := false, timeDue := false, mirQ := [], msgQ := [], busyTo := 0, mirSeq := none,
    msgSeq := none, mirPart := none, msgPart := none, unacked := [], heldRx := [], awaiting := [], echo := none }
/-- The engine of a tree after reset. -/
def BwTree.init : BwTree :=
  { snapR := [], snapT := [], running := false, cut := false, openAt := 0, runahead := true, recalled := [], need := [],
    quiet := [], spec := [], conf := [], specDone := false, reported := [], late := [], recQ := [], recM := [], pinned := [], pinClips := 0, ploamDue := [],
    tracing := false, convQ := [], convM := [],
    stash := [], lastM := [], hist := [], ploamu := [], takeover := 0, fresh := [] }
/-- The Hardy of a tree after reset. -/
def HyTree.init : HyTree :=
  { snapR := [], snapT := [], snapped := false, quiet := [], stream := [], arrived := 0, lastStart := 0, done := false,
    e := 0, kept := [], sums := [], foot := 0, burstEnd := none, burstOnu := 0, burstCut := false, removed := 0,
    bad := 0, fallback := [], prev := none, safeReq := false, safe := false, safeMap := [], damaged := [], sfc := 0 }
/-- A lane after reset. -/
def Lane.init : Lane := { dest := 2, adaptAt := 0 }
/-- A ring after reset. -/
def Ring.init : Ring := { taken := [], unsig := 0, unsigAt := 0, bufLens := [] }
/-- An MSI-X vector after reset: masked (PCIe 5.0; PRESUMED, log 12). -/
def Msix.init : Msix := { masked := true, pending := false }
/-- A clock domain after reset: held until the release sequence reaches it (R386, R387). -/
def Dom.init : Dom := { released := false, held := false, inRst := false, op := 0, swTo := 0 }
/-- A physical bank of the calibration flash as first delivered. -/
def Bank.init : Bank := { image := [], seq := 0, valid := false }
/-- The bank that a module comes with: an image of zeros with its header (DESIGN CHOICE, log 3). -/
def Bank.factory : Bank := { image := [(0, 0x4343414c), (1, 1), (2, 0x46b6d149)], seq := 1, valid := true }

/-- A queue that holds no frame. -/
def Queue.init : Queue := { frames := [], parent := 0, tenant := 0 }
/-- The packet path after reset. -/
def Path.init : Path :=
  { cl := [], bp := { inq := [], outq := [], pkt := [], reqs := [], cycle := [], tub := [], retired := [], tubAt := 0 },
    sc := { q := [], onuParent := [], credit := [], bucket := [], scanAt := 0, threshP := 0 },
    cx := { ds := [], cut := [], us := [], dec := [], job := [], jobNext := 0, scan := [], logAt := 0 }, mac := [] }
/-- The time unit after reset. -/
def Tm.init : Tm :=
  { tsq := [], ovf := [], sync := none, todCmd := none, sampleAt := 0, i := 0, y := 0, built := [] }

/-- The device right after reset. -/
def Dev.reset : Dev :=
  { regs := [], tbls := [], shads := [],
    fab := { tcmd := [], ownerPend := [], blkRst := [], latch := [] },
    hif := { rings := [], heldPloam := [], heldOmci := [], msix := [], numVfs := 0, cvReg := [], cvNext := 0 },
    freeCtr := 0, now := 0, out := [],
    ft := { keys := [], lasting := [], seq := 0, queue := [] },
    clk := { dom := [], foscFailed := false, aonWait := false, base := 0 },
    pwr := { rstN := false, scope := 3, relQ := [], usableA := true, usableB := true, lw := 0, lwPowerOn := false,
             lwPend := none, bank0 := Bank.factory,
             bank1 := Bank.init, commit := none, applied := [], abandoned := false, wdtStart := 0, wdtWarned := false,
             epochs := [], bootAt := 0 },
    sup := { quenchHighAt := 0, ctl := [], edge := [], gap0 := none, gap1 := none, land0 := none, land1 := none, therm := [] },
    time := ⟨0, 0, 0⟩,
    te := { fr := [], rx := [], sq := [], subs := [], anns := [] }, grp := { bd := [], px := [], link := [] }, eng := { bw := [], hy := [], traceAt := 0, violAt := 0, damagedAlloc := [] },
    lanes := [], path := Path.init, tm := Tm.init }

/-- The machine right after reset. -/
def State.reset : State := { dev := Dev.reset, pending := [] }

end Sys2Proof.Machine
end

