-- ==== Sys2Proof/Machine/Ops.lean ====
section
/-! DEFINITION. The named operations over the device: register and table fields, counters, interrupts, error logging,
reports to FT, host-access errors, separation failures, performance counters, ring completions and messages. -/

namespace Sys2Proof.Machine

/-- One bit of a number, as 0 or 1. -/
def bit (v k : Nat) : Nat := v / 2 ^ k % 2

/-- Whether a bit of a number is set. -/
def hasBit (v k : Nat) : Bool := v / 2 ^ k % 2 == 1

/-- A number with a bit set. -/
def setBit (v k : Nat) : Nat := if hasBit v k then v else v + 2 ^ k

/-- A number with a bit cleared. -/
def clrBit (v k : Nat) : Nat := if hasBit v k then v - 2 ^ k else v

/-- A number with the bits of another cleared, over 32 bits. -/
def clrBits (v m : Nat) : Nat := v &&& (0xffffffff ^^^ m)

/-- Two's-complement reading of the low `w` bits. -/
def sext (w v : Nat) : Int := if v % 2 ^ w < 2 ^ (w - 1) then (v % 2 ^ w : Nat) else (v % 2 ^ w : Nat) - (2 ^ w : Nat)

/-- The low `w` bits of an integer in two's complement. -/
def toBits (w : Nat) (i : Int) : Nat := (i % (2 ^ w : Nat)).toNat

/-! ## Register and table fields -/

/-- Read a register field. -/
def Dev.rd (d : Dev) (p : Page) (f : Fld) : Nat := d.regs.get (regDefault (p.key f)) (p.key f)

/-- Write a register field; the value is cut to the field's width. -/
def Dev.wr (d : Dev) (p : Page) (f : Fld) (v : Nat) : Dev :=
  { d with regs := d.regs.put (regDefault (p.key f)) (p.key f) (v % 2 ^ f.width) }

/-- Read a field of a table entry. -/
def Dev.rdT (d : Dev) (t : Tbl) (i : Nat) (f : Fld) : Nat := d.tbls.get (tblDefault (t.key i f)) (t.key i f)

/-- Write a field of a table entry; the value is cut to the field's width. -/
def Dev.wrT (d : Dev) (t : Tbl) (i : Nat) (f : Fld) (v : Nat) : Dev :=
  { d with tbls := d.tbls.put (tblDefault (t.key i f)) (t.key i f) (v % 2 ^ f.width) }

/-- Write several register fields of one page. -/
def Dev.wrs (d : Dev) (p : Page) (l : List (Fld × Nat)) : Dev := l.foldl (fun d e => d.wr p e.1 e.2) d

/-- Write several fields of one table entry. -/
def Dev.wrTs (d : Dev) (t : Tbl) (i : Nat) (l : List (Fld × Nat)) : Dev := l.foldl (fun d e => d.wrT t i e.1 e.2) d

/-- Whether a register field is not zero. -/
def Dev.on (d : Dev) (p : Page) (f : Fld) : Bool := d.rd p f != 0

/-- Whether a field of a table entry is not zero. -/
def Dev.onT (d : Dev) (t : Tbl) (i : Nat) (f : Fld) : Bool := d.rdT t i f != 0

/-- Add to a counter of a counter table; it wraps modulo 2^40 (Table DSF–12). -/
def Dev.cnt (d : Dev) (t : Tbl) (i : Nat) (k : Nat := 1) : Dev :=
  if k = 0 then d else d.wrT t i CNT.COUNT (d.rdT t i CNT.COUNT + k)

/-- Add to a counting field of a table entry that saturates at its width. -/
def Dev.satT (d : Dev) (t : Tbl) (i : Nat) (f : Fld) (k : Nat := 1) : Dev :=
  d.wrT t i f (min (d.rdT t i f + k) (2 ^ f.width - 1))

/-- Add to a counting register field that saturates at its width. -/
def Dev.sat (d : Dev) (p : Page) (f : Fld) (k : Nat := 1) : Dev := d.wr p f (min (d.rd p f + k) (2 ^ f.width - 1))

/-- Add to a field of a table entry that wraps. -/
def Dev.addT (d : Dev) (t : Tbl) (i : Nat) (f : Fld) (k : Nat := 1) : Dev := d.wrT t i f (d.rdT t i f + k)

/-! ## Time, free values, output -/

/-- Microseconds within the current second of module time (Table REG–8). -/
def Dev.us (d : Dev) : Nat := d.time.ns / 1000

/-- A free value: nothing constrains it (log 1).  `Dev.freed` advances the counter behind it. -/
def Dev.free (d : Dev) (k : Nat := 0) : Nat := Config.freeNat (d.freeCtr + k)

/-- The device after `k` free values were taken. -/
def Dev.freed (d : Dev) (k : Nat := 1) : Dev := { d with freeCtr := d.freeCtr + k }

/-- Something leaves the module. -/
def Dev.emit (d : Dev) (o : Out) : Dev := { d with out := o :: d.out }

/-! ## MSI-X and page interrupts -/

/-- The key of a function's vector. -/
def vecKey (func vector : Nat) : Nat := func * 64 + vector

/-- Function `f` is there: the physical function, or a virtual function that SR-IOV has enabled (R297). -/
def Dev.present (d : Dev) (f : Nat) : Bool := f ≤ d.hif.numVfs

/-- Send an MSI-X message on a vector; a function that is not there sends none.  A masked vector sends none, its pending
bit is `keep` or what it was: the pending state of a page's interrupt is INT_PEND itself (R51; PCIe 5.0). -/
def Dev.msixSend (d : Dev) (func vector : Nat) (keep : Bool := false) : Dev :=
  let m := d.hif.msix.get Msix.init (vecKey func vector)
  if !d.present func then d
  else if m.masked then
    { d with hif := { d.hif with
      msix := d.hif.msix.put Msix.init (vecKey func vector) { m with pending := m.pending || keep } } }
  else d.emit (.msix func vector)

/-- INT_PEND of a page (R36). -/
def Dev.pend (d : Dev) (p : Page) : Nat := d.rd p INT_RAW.RAW &&& d.rd p INT_EN.EN

/-- The message of a page's interrupt on its owner's vector (R51). -/
def Dev.msixPage (d : Dev) (p : Page) : Dev := d.msixSend (d.rd p PAGE_OWNER.OWNER) (d.rd p PAGE_OWNER.VECTOR)

/-- The message that R51 owes when INT_PEND goes from 0 to non-zero: `old` is INT_PEND before. -/
def Dev.pendEdge (d : Dev) (p : Page) (old : Nat) : Dev := if old = 0 ∧ d.pend p ≠ 0 then d.msixPage p else d

/-- An event sets a bit of INT_RAW (R36, R51). -/
def Dev.raise (d : Dev) (p : Page) (b : Nat) : Dev :=
  (d.wr p INT_RAW.RAW (setBit (d.rd p INT_RAW.RAW) b)).pendEdge p (d.pend p)

/-- An error of a page: ERR_COUNT saturates, ERR_FIRST captures the code and the time when armed, INT_RAW.ERR is set
(R37, Table REG–8, Table REG–9). -/
def Dev.logErr (d : Dev) (p : Page) (code : Nat) : Dev :=
  let d1 := d.sat p ERR_COUNT.COUNT
  let d2 := if d1.rd p ERR_FIRST.CODE = 0 then (d1.wr p ERR_FIRST.CODE code).wr p ERR_FIRST.TIME d.us else d1
  d2.raise p 29

/-! ## Reports to FT -/

/-- Report an event to FT: it joins the events of this step, which `settle` applies in ascending class and unit order
(R410, R412). -/
def Dev.reportEv (d : Dev) (e : FtEv) : Dev := { d with ft := { d.ft with queue := d.ft.queue ++ [e] } }

/-- Report an event of a class and unit, with its detail. -/
def Dev.report (d : Dev) (cls unit : Nat) (detail : Nat := 0) : Dev :=
  d.reportEv { cls := cls, unit := unit, onu := none, tenant := 0, detail := detail, inj := false }

/-- The address of an entry of an on-die memory as DETAIL carries it: the table's number above the index (R306, R416;
DESIGN CHOICE, log 77). -/
def memDetail (t : Tbl) (i : Nat) : Nat := t.num * 2 ^ 18 + i % 2 ^ 18

/-- An uncorrectable read of a table entry, reported with the memory and the address (R43, R306). -/
def Dev.memError (d : Dev) (t : Tbl) (i : Nat) : Dev := d.report 15 0 (memDetail t i)

/-- Report an event that carries a local ONU index (R416). -/
def Dev.reportOnu (d : Dev) (cls unit onu : Nat) (detail : Nat := 0) : Dev :=
  d.reportEv { cls := cls, unit := unit, onu := some onu, tenant := 0, detail := detail, inj := false }

/-- A separation-check failure of Table TNT–3: the tenant's counter, TN_SEP_LAST, the SEP interrupt, and for entries
0 to 6 an event of class 21 + e that carries the tenant (R305). -/
def Dev.sepFail (d : Dev) (tenant e : Nat) (detail : Nat := 0) : Dev :=
  let d1 := d.cnt .tnSepCnt (tenant * 8 + e)
  let d2 := ((d1.wr .tn TN_SEP_LAST.TENANT tenant).wr .tn TN_SEP_LAST.TIME d.us).raise .tn 0
  if e < 7 then
    d2.reportEv { cls := 21 + e, unit := tenant, onu := none, tenant := tenant, detail := detail, inj := false }
  else d2

/-! ## Performance counters -/

/-- The key of performance counter `c`: low and high word of PM page 1 + c ÷ 32 (Table HIF–15). -/
def Dev.pmCount (d : Dev) (c : Nat) : Nat :=
  d.rd (.pmg (c / 32)) (PM_CNT.LO (c % 32)) + 2 ^ 32 * d.rd (.pmg (c / 32)) (PM_CNT.HI (c % 32))

/-- Set performance counter `c`, modulo 2^48 (R438). -/
def Dev.pmSet (d : Dev) (c v : Nat) : Dev :=
  (d.wr (.pmg (c / 32)) (PM_CNT.LO (c % 32)) v).wr (.pmg (c / 32)) (PM_CNT.HI (c % 32)) (v / 2 ^ 32)

/-- The counters whose PM_SEL entry selects an event: the listed entries of the table. -/
def Dev.pmListed (d : Dev) (event : Nat) : List Nat :=
  (d.tbls.filter (fun e => e.1 / 536870912 == Tbl.pmSel.num && e.1 % 512 == PM_SEL.EVENT.lo && e.2 == event)).map
    (fun e => e.1 / 512 % 1048576)

/-- An event of Table HIF–10 with an amount: every counter that selects it adds the amount (R438). -/
def Dev.pm (d : Dev) (event inst : Nat) (amount : Nat := 1) : Dev :=
  (d.pmListed event).foldl
    (fun d c => if d.rdT .pmSel c PM_SEL.INSTANCE = inst then d.pmSet c (d.pmCount c + amount) else d) d

/-- The separation failure as the PM event 20 too. -/
def Dev.sep (d : Dev) (tenant e : Nat) (detail : Nat := 0) : Dev := (d.sepFail tenant e detail).pm 20 tenant

/-! ## Host-access errors -/

/-- Log a record in HI_ERR (R437): code, function, direction, offset; HI_ERR_CNT; ERR_LOG; and for codes 3 and 4 the
separation failure of entry 7 with a class 28 event, for code 9 a class 53 event. -/
def Dev.hiErr (d : Dev) (code func : Nat) (isRead : Bool) (ofs : Nat) : Dev :=
  let d1 := d.wrs .hi0 [(HI_ERR.CODE, code), (HI_ERR.FUNC, func), (HI_ERR.RD, isRead.toNat), (HI_ERR_ADDR.OFS, ofs)]
  let d2 := (d1.sat .hi0 HI_ERR_CNT.COUNT).raise .hi0 0
  if code = 3 ∨ code = 4 then
    (d2.sep func 7).reportEv { cls := 28, unit := func, onu := none, tenant := func, detail := ofs, inj := false }
  else if code = 9 then d2.report 53 0 ofs
  else d2

/-! ## Clock domains and reset of a page -/

/-- What a domain holds beside its table entry. -/
def Dev.dom (d : Dev) (k : Nat) : Dom := d.clk.dom.get Dom.init k

/-- Set what a domain holds beside its table entry. -/
def Dev.setDom (d : Dev) (k : Nat) (v : Dom) : Dev :=
  { d with clk := { d.clk with dom := d.clk.dom.put Dom.init k v } }

/-- The domain is gated or stopped: its pages answer 0xFFFF_FFFF (R368, R372). -/
def Dev.dark (d : Dev) (k : Nat) : Bool :=
  d.onT .ckDomainCtrl k CK_DOMAIN_CTRL.GATED || d.onT .ckDomainCtrl k CK_DOMAIN_CTRL.STOPPED

/-- The domain is held in reset (R386, R387, R469). -/
def Dev.domInReset (d : Dev) (k : Nat) : Bool := !(d.dom k).released || (d.dom k).held || (d.dom k).inRst

/-- The page's block is held in reset (PAGE_STAT.IN_RESET). -/
def Dev.inReset (d : Dev) (p : Page) : Bool := d.domInReset p.domain || d.fab.blkRst.contains p.num

/-- The page's block runs: clocked and out of reset. -/
def Dev.live (d : Dev) (p : Page) : Bool := !d.dark p.domain && !d.inReset p

/-- The page's block runs and is enabled (R32, R33). -/
def Dev.enabled (d : Dev) (p : Page) : Bool := d.live p && d.on p PAGE_CTRL.EN

/-- The block takes work: it runs, is enabled, is not asked to quiesce (R34, R467), and no gate request of its domain holds
its inputs (R367). -/
def Dev.takes (d : Dev) (p : Page) : Bool :=
  d.enabled p && !d.on p PAGE_CTRL.QUIESCE_REQ && (d.dom p.domain).op != 1

/-! ## Tenants, functions and epochs -/

/-- The tenant to which T0 has assigned a global ONU index (R298). -/
def Dev.onuTenant (d : Dev) (g : Nat) : Nat := d.rdT .tnOwner g TN_OWNER.TENANT

/-- A function's epoch (R385): held on the retained rail; 16 is the Aztil message epoch (R216). -/
def Dev.epoch (d : Dev) (f : Nat) : Nat := d.pwr.epochs.get 1 f

/-! ## Rings (R426–R436) -/

/-- A ring's state beside its registers. -/
def Dev.ring (d : Dev) (f r : Nat) : Ring := d.hif.rings.get Ring.init (f * 16 + r)

/-- Set a ring's state. -/
def Dev.setRing (d : Dev) (f r : Nat) (v : Ring) : Dev :=
  { d with hif := { d.hif with rings := d.hif.rings.put Ring.init (f * 16 + r) v } }

/-- Descriptors between CI and PI, modulo 8,192. -/
def Dev.ringUsed (d : Dev) (f r : Nat) : Nat :=
  (d.rd (.hir f) (HI_RING_IDX.PI r) + 8192 - d.rd (.hir f) (HI_RING_IDX.CI r)) % 8192

/-- Ring size: 2^SIZE_LOG2. -/
def Dev.ringSize (d : Dev) (f r : Nat) : Nat := 2 ^ d.rd (.hir f) (HI_RING_CFG.SIZE_LOG2 r)

/-- The function's rings run: HI is live, the function is there, and no function-level reset is in progress
(Table TNT–4): while they do not, no DMA to the function's memory starts. -/
def Dev.ringsLive (d : Dev) (f : Nat) : Bool :=
  d.live (.hir f) && d.present f && !d.onT .tnTenant f TN_TENANT.FLR_BUSY

/-- The coalesced message of R431 after `k` completions were written on a ring. -/
def Dev.ringSignal (d : Dev) (f r k : Nat) : Dev :=
  let g := d.ring f r
  if g.unsig + k = 0 then d
  else if 2 ^ d.rd (.hir f) (HI_RING_CFG.COAL_N_LOG2 r) ≤ g.unsig + k ∨ d.rd (.hir f) (HI_RING_CFG.COAL_US r) = 0 then
    (d.setRing f r { g with unsig := 0 }).msixSend f (d.rd (.hir f) (HI_RING_CFG.VECTOR r)) true
  else d.setRing f r { g with unsig := g.unsig + k, unsigAt := if g.unsig = 0 then d.now else g.unsigAt }

/-- Address of descriptor `i` of a ring: BASE + 32 × (i modulo 2^SIZE_LOG2), in the memory of its function (Rings). -/
def Dev.ringDesc (d : Dev) (f r i : Nat) : Nat :=
  d.rd (.hir f) (HI_RING_BASE.BASE_HI r) * 2 ^ 32 + d.rd (.hir f) (HI_RING_BASE.BASE_LO r) * 64 +
    32 * (i % d.ringSize f r)

/-- Pass CI over the descriptors at the front of the ring that have their completion (R429): the completions are
written in ring order; messages and their bytes are counted (Table HIF–13). -/
def Dev.ringRetire (f r : Nat) : List TxSlot → Dev → Dev
  | ⟨i, len, some (st, det, ep)⟩ :: t, d =>
    let d1 := d.emit (.txDone f r i (d.ringDesc f r i) st det ep)
    let d2 := ((d1.cnt (.hiRingCnt f) (r * 4)).cnt (.hiRingCnt f) (r * 4 + 1) len).pm 19 (f * 16 + r)
    let d3 := if st ≠ 0 then d2.cnt (.hiRingCnt f) (r * 4 + 2) else d2
    let d4 := d3.wr (.hir f) (HI_RING_IDX.CI r) ((i + 1) % 8192)
    Dev.ringRetire f r t ((d4.setRing f r { d4.ring f r with taken := t }).ringSignal f r 1)
  | _, d => d

/-- Take the next TX descriptor of a ring, of LEN `len`: its number, and the device with the descriptor taken; `none` when
the ring is stopped, or has none to take. -/
def Dev.txTake (d : Dev) (f r len : Nat) : Option (Nat × Dev) :=
  let g := d.ring f r
  if d.ringsLive f ∧ d.on (.hir f) (HI_RING_CFG.EN r) ∧ g.taken.length < d.ringUsed f r then
    let i := (d.rd (.hir f) (HI_RING_IDX.CI r) + g.taken.length) % 8192
    some (i, d.setRing f r { g with taken := g.taken ++ [⟨i, len, none⟩] })
  else none

/-- Complete a taken TX descriptor with status, detail and epoch (R433, R434), then retire what is complete at the
front of its ring; after the start of a function-level reset no completion is written (Table TNT–4). -/
def Dev.txComplete (d : Dev) (f r i st det ep : Nat) : Dev :=
  let g := d.ring f r
  let t := g.taken.map (fun e => if e.idx = i ∧ e.fin = none then { e with fin := some (st, det, ep) } else e)
  let d1 := d.setRing f r { g with taken := t }
  if d.ringsLive f then Dev.ringRetire f r t d1 else d1

/-- The lowest-numbered enabled RX ring slot of a function that accepts a class (R435). -/
def Dev.rxRing (d : Dev) (f cls : Nat) : Option Nat :=
  [8, 9, 10, 11, 12, 13, 14, 15].find? (fun r =>
    d.on (.hir f) (HI_RING_CFG.EN r) && hasBit (d.rd (.hir f) (HI_RING_CFG.CLASSES r)) (cls - 1))

/-- Whether the ring has a free descriptor. -/
def Dev.rxFree (d : Dev) (f r : Nat) : Bool := d.ringUsed f r < d.ringSize f r

/-- What became of a message offered to the RX rings (R435). -/
inductive RxFate
  | written | tooLong | noDescriptor | noRing
  deriving DecidableEq, Repr

/-- Offer a message to a function's RX rings: written to the first descriptor of the accepting ring; dropped, counted
and RX_DROP raised when that descriptor is too small.  What follows when no descriptor is free is the caller's
(Table HIF–8). -/
def Dev.rxOffer (d : Dev) (f : Nat) (m : RxMsg) : RxFate × Dev :=
  match (if d.ringsLive f then d.rxRing f m.cls else none) with
  | none => (.noRing, d)
  | some r =>
    if d.rxFree f r then
      let i := d.rd (.hir f) (HI_RING_IDX.PI r)
      if (d.ring f r).bufLens.get 16384 (i % d.ringSize f r) < m.bytes.length then
        (.tooLong, (d.cnt (.hiRingCnt f) (r * 4 + 3)).raise (.hir f) 1)
      else
        let d1 := (d.emit (.rx f r i (d.ringDesc f r i) m)).wr (.hir f) (HI_RING_IDX.PI r) ((i + 1) % 8192)
        let d2 := (d1.cnt (.hiRingCnt f) (r * 4)).cnt (.hiRingCnt f) (r * 4 + 1) m.bytes.length
        (.written, (d2.pm 19 (f * 16 + r)).ringSignal f r 1)
    else (.noDescriptor, d)

/-- Count and signal a message dropped for want of a ring or a descriptor (Table HIF–13). -/
def Dev.rxDropped (d : Dev) (f cls : Nat) : Dev :=
  match d.rxRing f cls with
  | none => (d.cnt (.hiRingCnt f) (64 + cls - 1)).raise (.hir f) 1
  | some r => (d.cnt (.hiRingCnt f) (r * 4 + 2)).raise (.hir f) 1

/-- Deliver a message that is dropped when it cannot be written (classes 1 and 5). -/
def Dev.rxOrDrop (d : Dev) (f : Nat) (m : RxMsg) : Dev :=
  match d.rxOffer f m with
  | (.written, e) => e
  | (.tooLong, e) => e
  | (_, e) => e.rxDropped f m.cls

/-- Deliver an upstream PLOAM message to T0: held, up to 256, when it cannot be written (Table HIF–8). -/
def Dev.rxPloam (d : Dev) (m : RxMsg) : Dev :=
  if d.hif.heldPloam ≠ [] then
    if d.hif.heldPloam.length < 256 then { d with hif := { d.hif with heldPloam := d.hif.heldPloam ++ [m] } }
    else d.rxDropped 0 3
  else
    match d.rxOffer 0 m with
    | (.written, e) => e
    | (.tooLong, e) => e
    | (_, e) => { e with hif := { e.hif with heldPloam := [m] } }

/-- Deliver an upstream OMCI message to a function: held, up to 256 of the module, when it cannot be written. -/
def Dev.rxOmci (d : Dev) (f : Nat) (m : RxMsg) : Dev :=
  if d.hif.heldOmci.any (fun e => e.1 = f) then
    if d.hif.heldOmci.length < 256 then { d with hif := { d.hif with heldOmci := d.hif.heldOmci ++ [(f, m)] } }
    else d.rxDropped f 4
  else
    match d.rxOffer f m with
    | (.written, e) => e
    | (.tooLong, e) => e
    | (_, e) =>
      if e.hif.heldOmci.length < 256 then { e with hif := { e.hif with heldOmci := e.hif.heldOmci ++ [(f, m)] } }
      else e.rxDropped f 4

/-! ## The tree engines -/

/-- The framer of a tree. -/
def Dev.fr (d : Dev) (n : Nat) : Framer := d.te.fr.get Framer.init n
/-- Set the framer of a tree. -/
def Dev.setFr (d : Dev) (n : Nat) (v : Framer) : Dev := { d with te := { d.te with fr := d.te.fr.put Framer.init n v } }
/-- The receiver of a tree. -/
def Dev.rx (d : Dev) (n : Nat) : Rx := d.te.rx.get Rx.init n
/-- Set the receiver of a tree. -/
def Dev.setRx (d : Dev) (n : Nat) (v : Rx) : Dev := { d with te := { d.te with rx := d.te.rx.put Rx.init n v } }
/-- The ranging sequencer of a tree. -/
def Dev.sq (d : Dev) (n : Nat) : Seq := d.te.sq.get Seq.init n
/-- Set the ranging sequencer of a tree. -/
def Dev.setSq (d : Dev) (n : Nat) (v : Seq) : Dev := { d with te := { d.te with sq := d.te.sq.put Seq.init n v } }

/-- The superframe count of the frame now on the line (R58, R59). -/
def Dev.sfc (d : Dev) (n : Nat) : Nat :=
  d.rd (.te n 0) TE_SFC_LO.SFC_LO + 2 ^ 32 * d.rd (.te n 0) TE_SFC_HI.SFC_HI

/-- Set the superframe count. -/
def Dev.setSfc (d : Dev) (n v : Nat) : Dev :=
  (d.wr (.te n 0) TE_SFC_LO.SFC_LO v).wr (.te n 0) TE_SFC_HI.SFC_HI (v / 2 ^ 32)

/-- The framer sends frames: SENDING or STOPPING (Table DSF–4). -/
def Dev.sending (d : Dev) (n : Nat) : Bool := d.rd (.te n 0) TE_TX_STAT.FSTATE ≥ 2

/-- Framing-sublayer bytes per frame after FEC (Table DSF–1). -/
def Dev.frameBytes (d : Dev) (n : Nat) : Nat :=
  if d.rd (.te n 0) TE_MODE.LINE_MODE = 0 then 135432 else 656616

/-! ## Groups, protection, the engine -/

/-- A group slot. -/
def Dev.bd (d : Dev) (g : Nat) : BdGrp := d.grp.bd.get BdGrp.init g
/-- Set a group slot. -/
def Dev.setBd (d : Dev) (g : Nat) (v : BdGrp) : Dev := { d with grp := { d.grp with bd := d.grp.bd.put BdGrp.init g v } }
/-- Protection of a tree. -/
def Dev.px (d : Dev) (n : Nat) : PxTree := d.grp.px.get PxTree.init n
/-- Set the protection of a tree. -/
def Dev.setPx (d : Dev) (n : Nat) (v : PxTree) : Dev := { d with grp := { d.grp with px := d.grp.px.put PxTree.init n v } }
/-- An Aztil link. -/
def Dev.lnk (d : Dev) (k : Nat) : PxLink := d.grp.link.get PxLink.init k
/-- Set an Aztil link. -/
def Dev.setLnk (d : Dev) (k : Nat) (v : PxLink) : Dev :=
  { d with grp := { d.grp with link := d.grp.link.put PxLink.init k v } }
/-- The bandwidth engine of a tree. -/
def Dev.bw (d : Dev) (n : Nat) : BwTree := d.eng.bw.get BwTree.init n
/-- Set the bandwidth engine of a tree. -/
def Dev.setBw (d : Dev) (n : Nat) (v : BwTree) : Dev := { d with eng := { d.eng with bw := d.eng.bw.put BwTree.init n v } }
/-- The engine of a tree starts afresh: only the time of its cycle's opening, which it follows but does not set, stays
(R155). -/
def BwTree.restart (b : BwTree) : BwTree := { BwTree.init with openAt := b.openAt }
/-- Every tree's engine starts afresh. -/
def Dev.bwRestart (d : Dev) : Dev := (List.range 48).foldl (fun (x : Dev) n => x.setBw n (x.bw n).restart) d
/-- The Hardy of a tree. -/
def Dev.hy (d : Dev) (n : Nat) : HyTree := d.eng.hy.get HyTree.init n
/-- Set the Hardy of a tree. -/
def Dev.setHy (d : Dev) (n : Nat) (v : HyTree) : Dev := { d with eng := { d.eng with hy := d.eng.hy.put HyTree.init n v } }
/-- A shadow entry of the Hardy was rewritten: it is damaged no longer (R170). -/
def Dev.undamage (d : Dev) (key : Nat) : Dev :=
  let d1 := { d with eng := { d.eng with damagedAlloc := d.eng.damagedAlloc.filter (· != key) } }
  (List.range 48).foldl (fun (x : Dev) n =>
    if (x.hy n).damaged.contains key then x.setHy n { x.hy n with damaged := (x.hy n).damaged.filter (· != key) } else x) d1

end Sys2Proof.Machine
end

