-- ==== Sys2Proof/Machine/Operands.lean ====
section
/-! DEFINITION. The operand forms of a host access (R27–R29, R45–R49): which page an access reaches, what turns it
away and how that is logged, which fields a writer may write, and the plain write of a register word. -/

namespace Sys2Proof.Machine

/-- The page that a function sees in a slot of its window: slot 0 its own header page, another slot the page that
TN_SLOT maps (R48, R49). -/
def Dev.slotPage (d : Dev) (f slot : Nat) : Option Page :=
  if slot = 0 then some (.hdr f)
  else if d.onT .tnSlot (f * 512 + slot) TN_SLOT.VALID then Page.ofNum (d.rdT .tnSlot (f * 512 + slot) TN_SLOT.PAGE)
  else none

/-- The page that an access by `b` to BAR0 page `k` of its function reaches: the physical function reaches every page at
its own offset and every window at its own (R26, R48); a virtual function reaches its window. -/
def Dev.target (d : Dev) (b : By) (k : Nat) : Option Page :=
  if b.func ≠ 0 then d.slotPage b.func k
  else if k < 0x2000 then Page.ofNum k
  else d.slotPage ((k - 0x2000) / 512) ((k - 0x2000) % 512)

/-- Whether an access by `b` is an access to page `p`: a physical function whose `slot` is 0 uses the page's own offset; a
virtual function that SR-IOV has not enabled makes no access (R297). -/
def Dev.names (d : Dev) (b : By) (p : Page) : Bool :=
  d.present b.func && ((b.func == 0 && b.slot == 0) || d.target b b.slot == some p)

/-- An access to BAR0 page `pg`, with the window page of the physical function's offsets from 0x0200_0000 on as its way
(R26, R48). -/
def viaOf (b : By) (pg : Nat) : By := if b.func = 0 ∧ b.slot = 0 ∧ 0x2000 ≤ pg then { b with slot := pg } else b

/-- The page of an access to BAR0 page `pg`, which a way through a window names by its slot alone. -/
def Dev.pageOf (d : Dev) (b : By) (pg : Nat) : Option Page :=
  if b.func = 0 ∧ b.slot = 0 then Page.ofNum pg else d.target b b.slot

/-- The window through which an access goes: a virtual function's own, or the one whose offset the physical function
uses (R48). -/
def windowOf (b : By) : Option Nat :=
  if b.func ≠ 0 then some b.func else if 0x2000 ≤ b.slot then some ((b.slot - 0x2000) / 512) else none

/-- Offset of an access within the function's BAR0, as HI_ERR_ADDR records it. -/
def ofsOf (b : By) (p : Page) (off : Nat) : Nat :=
  if b.func = 0 ∧ b.slot = 0 then p.num * 4096 + off else b.slot * 4096 + off

/-- The HI_ERR code with which an access by `b` to page `p` is turned away, 0 when it is not: tenant absent (R297), the
page outside the grant of the tenant whose window shows it (R46, R49), domain gated or stopped (R368, R372), a write to
a domain in reset (R387), a partial write (R27).  The order of the checks is DEDUCED, log 7. -/
def Dev.deny (d : Dev) (b : By) (p : Page) (write : Bool) : Nat :=
  if b.func ≠ 0 ∧ d.rdT .tnTenant b.func TN_TENANT.EN = 0 then 3
  else if (windowOf b).any (fun t => !hasBit (d.rd p PAGE_OWNER.READ_MASK) t) then 3
  else if d.dark p.domain then 6
  else if write ∧ d.domInReset p.domain then 7
  else if write ∧ b.be ≠ 15 then 1
  else 0

/-- The record of an access to an unmapped offset (R28, R49); a function whose tenant is absent reaches nothing (R297),
one that is not there makes no access. -/
def Dev.unmapped (d : Dev) (b : By) (pg off : Nat) (isRead : Bool) : Dev :=
  let k := if b.func = 0 ∧ b.slot = 0 then pg else b.slot
  if d.present b.func then
    d.hiErr (if b.func ≠ 0 ∧ d.rdT .tnTenant b.func TN_TENANT.EN = 0 then 3 else 2) b.func isRead (k * 4096 + off)
  else d

/-- The addressed bytes of a register word that a read returns (R27). -/
def bytesOf (b : By) (v : Nat) : Nat :=
  v &&& (List.range 4).foldl (fun m k => if hasBit b.be k then m + 255 * 256 ^ k else m) 0

/-- A function's read returns a word, of which it sees the addressed bytes (R27). -/
def Dev.rdata (d : Dev) (b : By) (v : Nat) : Dev := d.emit (.rdata b.func (bytesOf b v))

/-- A host write to register offset `off` of page `p`: its effect `k`, or the record of its refusal.  A function whose
slot does not show the page makes no access to it. -/
def Dev.hostW (d : Dev) (b : By) (p : Page) (off : Nat) (k : Dev → Dev) : Dev :=
  if d.names b p then
    match d.deny b p true with
    | 0 => k d
    | c + 1 => d.hiErr (c + 1) b.func false (ofsOf b p off)
  else d

/-- A host read with its effect on the device: an access that is turned away returns 0, or 0xFFFF_FFFF of a gated or
stopped domain (R46, R368). -/
def Dev.hostR (d : Dev) (b : By) (p : Page) (off : Nat) (k : Dev → Nat × Dev) : Dev :=
  if d.names b p then
    match d.deny b p false with
    | 0 => (k d).2.rdata b (k d).1
    | c + 1 => (d.hiErr (c + 1) b.func true (ofsOf b p off)).rdata b (if c + 1 = 6 then 0xffffffff else 0)
  else d

/-- The owner of a page. -/
def Dev.owner (d : Dev) (p : Page) : Nat := d.rd p PAGE_OWNER.OWNER

/-- Whether function `f` may write a field of page `p` (R46). -/
def Dev.mayWrite (d : Dev) (f : Nat) (p : Page) (fld : Fld) : Bool :=
  match fld.acc with
  | .rw => f == 0
  | .rws => f == 0
  | .rwt => f == d.owner p
  | .w1c => f == 0 || f == d.owner p
  | .w1s => f == 0 || (f == d.owner p && fld.off != 8)
  | .wo => f == 0 || f == d.owner p
  | .ro => false
  | .rc => false

/-- The bits of a field in a register word or in an entry. -/
def Fld.get (fld : Fld) (v : Nat) : Nat := v / 2 ^ fld.lo % 2 ^ fld.width

/-- A field's value placed at its bits. -/
def Fld.put (fld : Fld) (v : Nat) : Nat := v % 2 ^ fld.width * 2 ^ fld.lo

/-- A word with one field replaced. -/
def Fld.set (fld : Fld) (v x : Nat) : Nat := v - fld.put (fld.get v) + fld.put x

/-- The bits of INT_RAW that a page implements (Table REG–7). -/
def Page.intMask (p : Page) : Nat := 2 ^ p.cap.intSrc - 1 + 0xe0000000

/-- The bits of a field's written value that the page implements: INT_EN and INT_FORCE have the bits of Table REG–7. -/
def Page.implBits (p : Page) (fld : Fld) (x : Nat) : Nat :=
  if fld.off = INT_EN.EN.off ∨ fld.off = INT_FORCE.FORCE.off then x &&& p.intMask else x

/-- A header field that a page does not implement, or holds fixed: every field of the slot-0 header page (R466), EN where
it is read-only (R32, R33), QUIESCE_REQ and SOFT_RST where PAGE_CAP says that the page has none.  A write to it is
discarded without error (R7). -/
def Page.fixedFld (p : Page) (fld : Fld) : Bool :=
  fld.off < 0x100 && match p with
    | .hdr _ => true
    | _ =>
      (fld == PAGE_CTRL.EN && p.enFixed) || (fld == PAGE_CTRL.QUIESCE_REQ && !p.cap.quiesce) ||
        (fld == PAGE_CTRL.SOFT_RST && !p.cap.softrst)

/-- Whether a word would change a field that the writer may not write (R46): a 1 to a W1C bit that is 0, or to a W1S bit
that is set already (of INT_FORCE, in INT_RAW: R36), changes nothing, nor does what a reserved bit or a field that the
page holds fixed is written with (R6, R7). -/
def Dev.forbidden (d : Dev) (f : Nat) (p : Page) (fld : Fld) (v : Nat) : Bool :=
  f != 0 && !d.mayWrite f p fld && !p.fixedFld fld &&
    match fld.acc with
    | .rw => d.rd p fld != p.implBits fld (fld.get v)
    | .rws => d.rd p fld != fld.get v
    | .rwt => d.rd p fld != p.implBits fld (fld.get v)
    | .w1c => d.rd p fld &&& fld.get v != 0
    | .w1s =>
      clrBits (p.implBits fld (fld.get v))
        (d.rd p (if fld.off = INT_FORCE.FORCE.off then INT_RAW.RAW else fld)) != 0
    | .wo => fld.get v != 0
    | .ro => false
    | .rc => false

/-- The plain write of one field by the host (Table SCP–4). -/
def Dev.wrFld (d : Dev) (p : Page) (fld : Fld) (v : Nat) : Dev :=
  match fld.acc with
  | .rw => d.wr p fld (fld.get v)
  | .rws => d.wr p fld (fld.get v)
  | .rwt => d.wr p fld (fld.get v)
  | .w1c => d.wr p fld (clrBits (d.rd p fld) (fld.get v))
  | .w1s => d.wr p fld (d.rd p fld ||| fld.get v)
  | .wo => d
  | .ro => d
  | .rc => d

/-- The fields of the register at an offset. -/
def Page.at (p : Page) (off : Nat) : List Fld := p.fields.filter (fun g => g.off == off)

/-- A record of code 4 when the word would change a field that the writer may not write (R46). -/
def Dev.logForbidden (d : Dev) (b : By) (p : Page) (off v : Nat) : Dev :=
  if (p.at off).any (fun g => d.forbidden b.func p g v) then d.hiErr 4 b.func false (ofsOf b p off) else d

/-- Whether the writer may write some field of the register: a write that may change none has no effect. -/
def Dev.canWrite (d : Dev) (b : By) (p : Page) (fld : Fld) : Bool := d.mayWrite b.func p fld

/-- The plain write of the fields of one register that the writer may write, the others keeping their values (R46). -/
def Dev.wrPlain (d : Dev) (b : By) (p : Page) (off v : Nat) : Dev :=
  ((p.at off).filter (fun g => d.mayWrite b.func p g)).foldl (fun d g => d.wrFld p g v) d

/-- A host write to a register with a behaviour of its own in field `fld`: the access checks, the record of fields the
writer may not write, then `k` when the writer may write `fld`. -/
def Dev.hostF (d : Dev) (b : By) (p : Page) (fld : Fld) (v : Nat) (k : Dev → Dev) : Dev :=
  d.hostW b p fld.off (fun d =>
    if d.mayWrite b.func p fld then k (d.logForbidden b p fld.off v) else d.logForbidden b p fld.off v)

/-! ## Latched high words (R59, R313, R342, R440) -/

/-- Key of the latch of a high word for one function. -/
def latchKey (p : Page) (off f : Nat) : Nat := (p.num * 4096 + off) * 16 + f

/-- Latch the high word at `off` for function `f`. -/
def Dev.latch (d : Dev) (p : Page) (off f v : Nat) : Dev :=
  { d with fab := { d.fab with latch := d.fab.latch.put 0 (latchKey p off f) (v + 1) } }

/-- A read of a latched high word uses the latch up: the next read returns the current bits (R59). -/
def Dev.unlatch (d : Dev) (p : Page) (off f : Nat) : Dev :=
  { d with fab := { d.fab with latch := d.fab.latch.del (latchKey p off f) } }

/-- What function `f` reads at a latched high word: its latch, or `cur` before it has read the low word. -/
def Dev.latched (d : Dev) (p : Page) (off f cur : Nat) : Nat :=
  match d.fab.latch.get 0 (latchKey p off f) with
  | 0 => cur
  | v + 1 => v

/-! ## Entries as images (R5) -/

/-- The stored image of a table entry as one number: field bits at their places, bit 0 first. -/
def Dev.entry (d : Dev) (t : Tbl) (i : Nat) : Nat := t.fields.foldl (fun v f => v + d.rdT t i f * 2 ^ f.lo) 0

/-- The bytes of a value, least significant first (R5: registers and table entries). -/
def leBytes (k v : Nat) : List Byte := (List.range k).map (fun i => BitVec.ofNat 8 (v / 256 ^ i))

end Sys2Proof.Machine
end

