-- ==== Sys2Proof/Machine/Crc.lean ====
section
/-! DEFINITION. Bytes of contents as numbers and back, and the check values of Table HIF–11, bit by bit (R5, R443). -/

namespace Sys2Proof.Machine

/-- The bytes of a value, most significant first (R5: network order of contents). -/
def beBytes (k v : Nat) : List Byte := (List.range k).map (fun i => BitVec.ofNat 8 (v / 256 ^ (k - 1 - i)))

/-- The number that bytes spell, most significant first. -/
def beNum (l : List Byte) : Nat := l.foldl (fun v b => v * 256 + b.toNat) 0

/-- The `k` bytes from a place, as a number. -/
def bytesAt (l : List Byte) (at_ k : Nat) : Nat := beNum ((l.drop at_).take k)

/-! ## Check values -/

/-- Width of an algorithm's register. -/
def cvWidth (alg : Nat) : Nat := if alg < 2 then 32 else if alg = 2 then 16 else 8
/-- Polynomial of an algorithm. -/
def cvPoly (alg : Nat) : Nat :=
  if alg = 0 then 0x04c11db7 else if alg = 1 then 0x1edc6f41 else if alg = 2 then 0x1021 else 0x07
/-- Whether bytes in and the register out are reflected. -/
def cvRefl (alg : Nat) : Bool := alg < 2
/-- The final XOR. -/
def cvXor (alg : Nat) : Nat := if alg < 2 then 0xffffffff else 0
/-- CV_INIT as a write of ALG sets it. -/
def cvInit (alg : Nat) : Nat := if alg < 2 then 0xffffffff else if alg = 2 then 0xffff else 0

/-- The low `w` bits of a value in reverse order. -/
def reflect (w v : Nat) : Nat := (List.range w).foldl (fun s i => s * 2 + bit v i) 0

/-- One bit of the division. -/
def cvShift (alg reg : Nat) : Nat :=
  let w := cvWidth alg
  if hasBit reg (w - 1) then (reg * 2 % 2 ^ w) ^^^ cvPoly alg else reg * 2 % 2 ^ w

/-- The register after one byte. -/
def cvByte (alg reg : Nat) (b : Byte) : Nat :=
  let w := cvWidth alg
  let x := if cvRefl alg then reflect 8 b.toNat else b.toNat
  (List.range 8).foldl (fun r _ => cvShift alg r) ((reg % 2 ^ w) ^^^ (x * 2 ^ (w - 8)))

/-- The register after a list of bytes. -/
def cvFeed (alg reg : Nat) (l : List Byte) : Nat := l.foldl (cvByte alg) reg

/-- The check that a register shows: reflection, final XOR, right-aligned. -/
def cvOut (alg reg : Nat) : Nat :=
  let r := reg % 2 ^ cvWidth alg
  (if cvRefl alg then reflect (cvWidth alg) r else r) ^^^ cvXor alg

/-- CRC-32 of bytes (Table HIF–11). -/
def crc32 (l : List Byte) : Nat := cvOut 0 (cvFeed 0 (cvInit 0) l)

/-- CRC-16/CCITT of bytes with initial value 0xFFFF (Table HIF–11, Table PRT–2). -/
def crc16 (l : List Byte) : Nat := cvOut 2 (cvFeed 2 (cvInit 2) l)

end Sys2Proof.Machine
end

