-- ==== Sys2Proof/Machine/Flags.lean ====
section
/-! DEFINITION. The levels and status bits that the spec derives from other state: groups, protection conditions, the
two quench keys, the pins, interrupt summaries, PAGE_STAT, FT_STAT.  Each is one function of the device, so that no
copy of it can disagree. -/

namespace Sys2Proof.Machine

/-! ## Bonded groups (R175) -/

/-- Members of group slot `g`: 0, 2 or 4. -/
def Dev.grpSize (d : Dev) (g : Nat) : Nat := 2 * d.rdT .bdGroup g BD_GROUP.SIZE

/-- The group slot to which a port belongs. -/
def Dev.groupOf (d : Dev) (n : Nat) : Option Nat :=
  if d.grpSize (n / 2) ≠ 0 then some (n / 2)
  else if d.grpSize (n / 4 * 2) = 4 then some (n / 4 * 2)
  else none

/-- The member ports of group slot `g`. -/
def Dev.members (d : Dev) (g : Nat) : List Nat := (List.range (d.grpSize g)).map (fun s => 2 * g + s)

/-- The port that names the tree to the engine, the Hardy and the host: the group port of a member, itself otherwise. -/
def Dev.groupPort (d : Dev) (n : Nat) : Nat :=
  match d.groupOf n with
  | some g => 2 * g
  | none => n

/-- Every member port of the tree that port `n` belongs to. -/
def Dev.mates (d : Dev) (n : Nat) : List Nat :=
  match d.groupOf n with
  | some g => d.members g
  | none => [n]

/-- State of member slot `s`: 0 UP, 1 DOWN, 2 PROBING, 3 not a member (Table BND–5). -/
def Dev.memberState (d : Dev) (g s : Nat) : Nat := d.rdT .bdGroup g BD_GROUP.MEMBER_STATE / 4 ^ s % 4

/-- Whether a port may carry the payload of its tree: an unbonded port, or a member UP or PROBING (R181). -/
def Dev.inService (d : Dev) (n : Nat) : Bool :=
  match d.groupOf n with
  | some g => d.memberState g (n - 2 * g) == 0 || d.memberState g (n - 2 * g) == 2
  | none => true

/-- The port that carries the tree's PLOAM messages, discovery windows and ranging grants: the acting lead. -/
def Dev.lead (d : Dev) (n : Nat) : Nat :=
  match d.groupOf n with
  | some g => 2 * g + d.rdT .bdGroup g BD_GROUP.ACTING_LEAD
  | none => n

/-! ## Lasting faults in force (R412, R413) -/

/-- The lasting states of class scope `sc` on a unit with action `a`. -/
def Dev.lastingOn (d : Dev) (sc unit a : Nat) : Bool :=
  d.ft.lasting.any (fun l => (ftRow l.cls).scope == sc && l.unit == unit && l.act == a)

/-- A quench all is in force (R401). -/
def Dev.quenchAll (d : Dev) : Bool := d.ft.lasting.any (fun l => l.act == 4)

/-- The tree is protected (R204): its group port's entry governs. -/
def Dev.isProtected (d : Dev) (n : Nat) : Bool := d.rdT .pxRole (d.groupPort n) PX_ROLE.MODE == 1

/-- Protection state of the tree (Table PRT–5). -/
def Dev.pxState (d : Dev) (n : Nat) : Nat := d.rdT .pxRole (d.groupPort n) PX_ROLE.STATE

/-- The Aztil link of the tree. -/
def Dev.pxLink (d : Dev) (n : Nat) : Nat := d.rdT .pxRole (d.groupPort n) PX_ROLE.LINK

/-- The control bit of the tree (R198). -/
def Dev.ctl (d : Dev) (n : Nat) : Bool := d.sup.ctl.get false (d.groupPort n)

/-- A lasting fault retires the tree, gives up control of it or quenches it (R74 condition 6, Table FLT–2). -/
def Dev.treeRetired (d : Dev) (n : Nat) : Bool :=
  d.lastingOn 2 n 2 || d.lastingOn 2 n 3 || d.lastingOn 3 n 3 || d.quenchAll ||
    (d.isProtected n && (d.lastingOn 5 (d.pxLink n) 3 ||
      (List.range 4).any (fun k => d.lastingOn 3 (80 + 4 * d.pxLink n + k) 3)))

/-- A clock failure is in force (R370, R371). -/
def Dev.clkFail (d : Dev) : Bool := d.on .ck CK_FAIL.FAIL

/-- A module-wide give-up is in force (Table PRT–7). -/
def Dev.allGivenUp (d : Dev) : Bool :=
  d.clkFail || d.pwr.lw != 0 || d.on .rs RS_KEYS.MISMATCH || d.quenchAll ||
    d.ft.lasting.any (fun l => (ftRow l.cls).scope ≤ 1 && l.act == 3)

/-! ## Lanes (R333–R341) -/

/-- A lasting fault retires a lane (Table FLT–2): action 2, and action 3 on an uplink lane; action 3 acts on the tree of a
PON pair and on the link of an Aztil lane (R413). -/
def Dev.laneRetired (d : Dev) (l : Nat) : Bool := d.lastingOn 3 l 2 || (d.lastingOn 3 l 3 && 48 ≤ l && l < 80)

/-- A lane's domain shows CLK_GOOD. -/
def Dev.laneGood (d : Dev) (l : Nat) : Bool :=
  d.onT .ckDomainCtrl (59 + l) CK_DOMAIN_CTRL.CLK_GOOD && !d.laneRetired l

/-- A lane is in L0. -/
def Dev.laneL0 (d : Dev) (l : Nat) : Bool := d.rd (.ln l) LN_PSTATE.STATE == 0 && d.live (.ln l)

/-! ## The quench keys (R74, R401, R402) -/

/-- R74 condition 1. -/
def Dev.keyA1 (d : Dev) (n : Nat) : Bool := d.on (.te n 0) PAGE_CTRL.EN && !d.inReset (.te n 0)
/-- R74 condition 2. -/
def Dev.keyA2 (d : Dev) (n : Nat) : Bool := d.on (.te n 0) TE_TX_CTRL.TX_EN
/-- R74 condition 3. -/
def Dev.keyA3 (d : Dev) (n : Nat) : Bool := d.sending n
/-- R74 condition 4 with Table PRT–5. -/
def Dev.keyA4 (d : Dev) (n : Nat) : Bool :=
  !d.isProtected n || d.pxState n == 0 || d.pxState n == 2 || (d.pxState n == 7 && d.ctl n)
/-- R74 condition 5. -/
def Dev.keyA5 (d : Dev) (n : Nat) : Bool := d.laneL0 n && d.laneGood n
/-- R74 condition 6. -/
def Dev.keyA6 (d : Dev) (n : Nat) : Bool := !d.treeRetired n

/-- Key A of tree `n` (R74). -/
def Dev.keyA (d : Dev) (n : Nat) : Bool := d.keyA1 n && d.keyA2 n && d.keyA3 n && d.keyA4 n && d.keyA5 n && d.keyA6 n

/-- Key B of tree `n` (R401). -/
def Dev.keyB (d : Dev) (n : Nat) : Bool :=
  (d.dom 1).released && !d.clkFail && d.on .rs RS_KEYS.QREL && !d.on .rs RS_KEYS.QUENCH_PIN && !d.quenchAll &&
    !d.on .rs RS_KEYS.MISMATCH && (!d.isProtected n || d.ctl n)

/-- A cold or warm reset holds the pins (R390): the reset is in force. -/
def Dev.pinsHeld (d : Dev) : Bool := d.pwr.rstN || d.pwr.scope != 0

/-- The TXDIS level that the keys command: high while either switch is open, forced high by a clock failure (R371),
by the last-word sequence (R380) and by the reset pull-up (R390).  True is high: laser off. -/
def Dev.txdis (d : Dev) (n : Nat) : Bool := !(d.keyA n && d.keyB n) || d.clkFail || d.pwr.lw != 0 || (d.pinsHeld && !(d.dom 1).released)

/-- BRST level outside the pulses of R99: high in reset, in a clock failure and while the receiver is off (R99, R371,
R380, R390). -/
def Dev.brst (d : Dev) (n : Nat) : Bool :=
  !d.live (.te n 1) || d.clkFail || d.pwr.lw != 0 || !d.on (.te n 1) TE_RX_CTRL.RX_EN

/-- Link `k` works: its page and page 0 of the protection unit are enabled, and PX_PEER_CFG.EN is 1 (R33). -/
def Dev.linkOn (d : Dev) (k : Nat) : Bool :=
  d.enabled .px0 && d.enabled (.pxl k) && d.on (.pxl k) PX_PEER_CFG.EN

/-- The four lanes of link `k` are in L0 with CLK_GOOD: without them the link carries no cell (R334, R338). -/
def Dev.linkLanes (d : Dev) (k : Nat) : Bool := (List.range 4).all (fun j => d.laneL0 (80 + 4 * k + j) && d.laneGood (80 + 4 * k + j))

/-- Whether the supervisor toggles PROT_HOLD_OUT[k] (R197). -/
def Dev.holdOut (d : Dev) (k : Nat) : Bool :=
  (d.dom 1).released && d.on (.pxl k) PX_PEER_CFG.EN && !d.allGivenUp &&
    (if k = 0 then d.sup.gap0 else d.sup.gap1) == none

/-- FAULT_N is driven low (R415). -/
def Dev.faultLow (d : Dev) : Bool :=
  d.ft.lasting.any (fun l => d.rd .ft FT_CTRL.FAULT_MIN ≤ l.act) || d.clkFail || d.on .rs RS_KEYS.MISMATCH

/-! ## Interrupt summaries (R50, R52) -/

/-- The pages with a bit set in INT_RAW: the listed ones of the register store. -/
def Dev.rawPages (d : Dev) : List Page :=
  (d.regs.filter (fun e => e.1 / 32 % 4096 == 0x10)).filterMap (fun e => Page.ofNum (e.1 / 131072))

/-- The pages of an owner with INT_PEND not zero; a gated or stopped domain keeps its registers (R50, R368). -/
def Dev.pendPages (d : Dev) (t : Nat) : List Page :=
  d.rawPages.filter (fun p => d.pend p != 0 && d.owner p == t)

/-- The pending bit of a function's vector: a ring's completion waits for it, or an INT_PEND that it serves is not zero
(R51, R431). -/
def Dev.msixPending (d : Dev) (f v : Nat) : Bool :=
  (d.hif.msix.get Msix.init (vecKey f v)).pending || (d.pendPages f).any (fun p => d.rd p PAGE_OWNER.VECTOR == v)

/-- GL_INT_SUMMARY for t = 0, TN_INT_SUMMARY of window t otherwise (Table REG–13, Table REG–16). -/
def Dev.intSummary (d : Dev) (t : Nat) : Nat := (d.pendPages t).foldl (fun v p => setBit v p.subsystem) 0

/-- GL_TE_SUM_LO and GL_TE_SUM_HI as one number. -/
def Dev.teSummary (d : Dev) : Nat :=
  (d.pendPages 0).foldl (fun v p => match p with | .te n _ => setBit v n | _ => v) 0

/-- INT_N is driven low (R52). -/
def Dev.intLow (d : Dev) : Bool := d.intSummary 0 != 0 && (d.dom 4).released

/-! ## Status fields -/

/-- PAGE_STAT.CLK_GOOD. -/
def Dev.clkGood (d : Dev) (p : Page) : Bool :=
  match p with
  | .ln l => d.laneGood l
  | _ => d.onT .ckDomainCtrl p.domain CK_DOMAIN_CTRL.CLK_GOOD

/-- The count of lasting states (FT_STAT.LASTING_N). -/
def Dev.lastingN (d : Dev) : Nat := d.ft.lasting.length

/-- The receiver runs: its page is enabled and RX_EN is 1. -/
def Dev.rxOn (d : Dev) (n : Nat) : Bool := d.enabled (.te n 1) && d.on (.te n 1) TE_RX_CTRL.RX_EN

/-- The framer is off: FRAMER_EN = 0. -/
def Dev.framerOff (d : Dev) (n : Nat) : Bool := !d.on (.te n 0) TE_TX_CTRL.FRAMER_EN

/-- The receiver is off: RX_EN = 0. -/
def Dev.rxOff (d : Dev) (n : Nat) : Bool := !d.on (.te n 1) TE_RX_CTRL.RX_EN

end Sys2Proof.Machine
end

