-- ==== Sys2Proof/Machine/Cells.lean ====
section
/-! DEFINITION. The Aztil links as senders: cell headers, the content of PROTECTION and TIME cells, the cutting of records
and messages, and the order in which cells leave (R200, R202, R203, Table PRT–2 to Table PRT–4). -/

namespace Sys2Proof.Machine

/-! ## Cells -/

/-- HEC of a cell header: CRC-16/CCITT over bits [63:16] (Table PRT–2). -/
def cellHec (h : Nat) : Nat := crc16 (beBytes 6 (h / 65536))

/-- The header of a cell (Table PRT–2). -/
def cellHeader (typ : Nat) (c : AzCell) : Nat :=
  let h := typ * 2 ^ 60 + c.first.toNat * 2 ^ 59 + c.last.toNat * 2 ^ 58 + c.seq % 65536 * 2 ^ 40 +
    c.bytes.length % 256 * 2 ^ 32 + c.stream % 65536 * 2 ^ 16
  h + cellHec h

/-- Cells that a record or message of `len` bytes takes. -/
def cellCount (len : Nat) : Nat := max 1 ((len + 247) / 248)

/-- A record or message cut into cells of at most 248 bytes, numbered from `seq` (R200). -/
def cutCells (seq stream : Nat) (l : List Byte) : List AzCell :=
  let n := cellCount l.length
  (List.range n).map (fun i =>
    { first := i == 0, last := i + 1 == n, seq := (seq + i) % 65536, stream := stream, bytes := (l.drop (248 * i)).take 248 })

/-! ## The content of PROTECTION and TIME cells (Table PRT–3, R203) -/

/-- The control code that the tree shows its peer (Table PRT–4, Table PRT–5).  In INIT a non-home that releases at
start-up shows RELEASE until its hold gap has ended. -/
def Dev.pxCode (d : Dev) (n : Nat) : Nat :=
  match d.pxState n with
  | 1 => if (d.px n).byReq then 5 else 1
  | 2 => 2
  | 3 => 4
  | 4 => 3
  | 5 => if (d.px n).reverting then 7 else 3
  | 6 => 5
  | 7 => 6
  | 8 => 4
  | _ => 0

/-- The trees protected through link `k`, each by the port that governs it. -/
def Dev.linkTrees (d : Dev) (k : Nat) : List Nat :=
  (List.range 48).filter (fun n => d.rdT .pxRole n PX_ROLE.MODE == 1 && d.rdT .pxRole n PX_ROLE.LINK == k)

/-- The control codes sent on link `k`, tree 0 first. -/
def Dev.codes (d : Dev) (k : Nat) : List Nat :=
  (List.range 48).map (fun n =>
    if d.rdT .pxRole n PX_ROLE.MODE = 1 ∧ d.rdT .pxRole n PX_ROLE.LINK = k then d.pxCode n else 0)

/-- 48 nibbles as bytes, that of tree 0 in bits [7:4] of the first (Table PRT–3). -/
def nibbles (l : List Nat) : List Byte :=
  (List.range 24).map (fun i => BitVec.ofNat 8 (l.getD (2 * i) 0 % 16 * 16 + l.getD (2 * i + 1) 0 % 16))

/-- 48 flags as a number: bit n for tree n. -/
def flags48 (f : Nat → Bool) : Nat := (List.range 48).foldl (fun v n => if f n then v + 2 ^ n else v) 0

/-- The payload of a PROTECTION cell of link `k` (Table PRT–3): sender ID, message epoch, codes, requests, exercise marks
and exercises seen, in network order (R5; DEDUCED, log 82). -/
def Dev.protBytes (d : Dev) (k : Nat) : List Byte :=
  let gap := (if k = 0 then d.sup.gap0 else d.sup.gap1).isSome
  let mine := fun n => d.rdT .pxRole n PX_ROLE.LINK == k
  beBytes 2 (d.rd .gl GL_ID.DOMAIN_ID) ++ beBytes 2 (d.epoch 16) ++ nibbles (d.codes k) ++
    nibbles ((List.range 48).map (fun n => if mine n then d.rdT .pxRole n PX_ROLE.REQ_LOCAL else 0)) ++
    beBytes 6 (flags48 (fun n => mine n && (d.px n).exAt.isSome && gap)) ++
    beBytes 6 (flags48 (fun n => mine n && (d.px n).exSeen)) ++ List.replicate 184 0

/-- The frame timebase in 1/64 ns, `ofs` units of 10 ps after now (R203). -/
def Dev.timebase (d : Dev) (ofs : Nat := 0) : Nat := (d.clk.base / 2 ^ 26 + ofs * 64 / 100) % 2 ^ 64

/-- The payload of a TIME cell that leaves at `at_`: the timebase, and when a TIME cell came, its timebase and the time
since (R203; the places of the three in the payload are the model's: DESIGN CHOICE, log 82). -/
def Dev.timeBytes (d : Dev) (k at_ : Nat) : List Byte :=
  let t := d.timebase (at_ - d.now * 100)
  beBytes 8 t ++ match (d.lnk k).echo with
    | some e => beBytes 8 e.1 ++ beBytes 8 ((t + 2 ^ 64 - e.2) % 2 ^ 64)
    | none => []

/-! ## The order in which cells leave (R202) -/

/-- A cell that is no part of a record or message. -/
def PxLink.lone (l : PxLink) (typ : Nat) (b : List Byte) : AzCell :=
  { first := false, last := false, seq := l.seqs.get 0 typ, stream := 0, bytes := b }

/-- Count the cell of a type that is built at its departure. -/
def PxLink.count (l : PxLink) (typ : Nat) : PxLink :=
  { l with seqs := l.seqs.put 0 typ ((l.seqs.get 0 typ + 1) % 65536) }

/-- The cell that leaves link `k` next, with its type: PROTECTION, MIRROR, TIME, MESSAGE (R202). -/
def Dev.cellPick (d : Dev) (k at_ : Nat) : Option (PxLink × Nat × AzCell) :=
  let l := d.lnk k
  if l.protDue then
    some ({ l.count 1 with protDue := false, sent := (d.codes k).zipIdx.foldl (fun s e => s.put 0 e.2 e.1) [] },
      1, l.lone 1 (d.protBytes k))
  else match l.mirQ with
    | c :: t => some ({ l with mirQ := t }, 2, c)
    | [] =>
      if l.timeDue then some ({ l.count 4 with timeDue := false }, 4, l.lone 4 (d.timeBytes k at_))
      else match l.msgQ with
        | c :: t => some ({ l with msgQ := t }, 3, c)
        | [] => none

/-- Link `k` can start a cell within the ten nanoseconds from now: a cell already started is never cut (R202). -/
def Dev.cellFree (d : Dev) (k : Nat) : Bool := d.linkOn k && decide ((d.lnk k).busyTo < d.now * 100 + 1000)

/-- A cell starts on link `k`: it takes 10.24 ns (R200).  On lanes that are not all in L0 it goes nowhere (R334, R338). -/
def Dev.cellSend (d : Dev) (k at_ : Nat) (l : PxLink) (typ : Nat) (c : AzCell) : Dev :=
  let d1 := if d.linkLanes k then d.emit (.cell k (cellHeader typ c) c.bytes) else d
  (d1.cnt (.pxLinkCnt k) 0).setLnk k { l with busyTo := at_ + 1024 }

/-- The next cell starts, when the link is free and one waits. -/
def Dev.cellRun (d : Dev) (k : Nat) : Dev :=
  if d.cellFree k then
    let at_ := max (d.lnk k).busyTo (d.now * 100)
    match d.cellPick k at_ with
    | some (l, typ, c) => d.cellSend k at_ l typ c
    | none => d
  else d

/-- What leaves link `k` as time passes: the cell that waits, or an IDLE cell (R202). -/
def Dev.cellTime (d : Dev) (k : Nat) : Dev :=
  let d1 := d.cellRun k
  if d1.cellFree k then
    let l := d1.lnk k
    d1.cellSend k (max l.busyTo (d1.now * 100)) (l.count 0) 0 (l.lone 0 [])
  else d1

/-- A PROTECTION cell is due on link `k`: it leaves at once, or after the cell already started (R202). -/
def Dev.protCell (d : Dev) (k : Nat) : Dev :=
  if d.linkOn k then (d.setLnk k { d.lnk k with protDue := true }).cellRun k else d

/-- The cells of a record (2) or message (3) join those that wait on link `k`. -/
def Dev.cellsOut (d : Dev) (k typ stream : Nat) (b : List Byte) : Dev :=
  let l := d.lnk k
  let q := cutCells (l.seqs.get 0 typ) stream b
  let l1 := { l with seqs := l.seqs.put 0 typ ((l.seqs.get 0 typ + q.length) % 65536) }
  (d.setLnk k (if typ = 2 then { l1 with mirQ := l1.mirQ ++ q } else { l1 with msgQ := l1.msgQ ++ q })).cellRun k

/-- A link that is disabled: nothing that waited is sent, nothing is half received, alignment is to be gained anew. -/
def PxLink.stop (l : PxLink) : PxLink :=
  { l with protDue := false, timeDue := false, mirQ := [], msgQ := [], mirSeq := none, msgSeq := none, mirPart := none,
           msgPart := none, fit := 0, miss := 0 }

/-- A PROTECTION cell goes out at once when a code on link `k` differs from the one last sent (R202). -/
def Dev.linkTell (d : Dev) (k : Nat) : Dev :=
  if (d.codes k).zipIdx.all (fun e => (d.lnk k).sent.get 0 e.2 == e.1) then d else d.protCell k

/-- A PROTECTION cell goes out at once when the tree's control code differs from the one last sent (R202). -/
def Dev.pxTell (d : Dev) (n : Nat) : Dev :=
  let g := d.groupPort n
  let k := d.pxLink n
  if (d.lnk k).sent.get 0 g = d.pxCode g then d else d.protCell k

end Sys2Proof.Machine
end

