-- ==== Sys2Proof/Machine/Control.lean ====
section
/-! DEFINITION. Control of protected trees: hold gaps, giving up control of one tree and of every
tree, and the watch on key A and on a group's members (R75, R189, R197–R205). -/

namespace Sys2Proof.Machine

/-- Commit a protection state (R204), with the cell that a changed code calls for. -/
def Dev.pxGo (d : Dev) (n st : Nat) : Dev := (d.wrT .pxRole n PX_ROLE.STATE st).pxTell n

/-- As `pxGo`, with the cause shown in PX_ROLE. -/
def Dev.pxGoFor (d : Dev) (n st cause : Nat) : Dev := (d.wrT .pxRole n PX_ROLE.CAUSE cause).pxGo n st

/-- Set or clear the control bit of a tree (R198). -/
def Dev.setCtl (d : Dev) (n : Nat) (v : Bool) : Dev :=
  { d with sup := { d.sup with ctl := d.sup.ctl.put false n v } }

/-- Begin a hold gap on link `k` (R197); one already running goes on. -/
def Dev.startGap (d : Dev) (k : Nat) : Dev :=
  if k = 0 then { d with sup := { d.sup with gap0 := d.sup.gap0.orElse (fun _ => some d.now) } }
  else { d with sup := { d.sup with gap1 := d.sup.gap1.orElse (fun _ => some d.now) } }

/-- Give up control of one tree for a cause of Table PRT–7 (R205): the control bit goes and with it key B, a hold gap
begins unless the whole toggle stops, RELEASE is sent; counted, GAVE_UP raised and class 47 reported. -/
def Dev.giveUp (d : Dev) (n cause : Nat) (gap : Bool := true) : Dev :=
  let g := d.groupPort n
  if d.isProtected g && (d.pxState g == 2 || d.pxState g == 7) then
    let d1 := d.setCtl g false
    let d2 := if gap then d1.startGap (d.pxLink g) else d1
    let d3 := d2.setPx g { d2.px g with byReq := decide (5 ≤ cause), reverting := false, noMap := 0, exAt := none }
    let d4 := d3.pxGoFor g 6 cause
    ((d4.cnt .pxCnt (g * 16 + 1)).raise .px0 1).report 47 g
  else d

/-- The module-wide give-up of Table PRT–7: every active tree, with cause 4; the toggles stop by `Dev.holdOut`. -/
def Dev.giveUpAll (d : Dev) : Dev := (List.range 48).foldl (fun d n => d.giveUp n 4 false) d

/-- What follows when key A of tree `n`, present before a step, is gone after it: KEYA_LOST for a condition of R74 other
than TX_EN or FRAMER_EN written 0 (R75, Table DSF–15), and the give-up of a protected tree for R74 condition 1, 5 or 6
(Table PRT–7). -/
def Dev.keyWatch (n : Nat) (had : Bool) (d : Dev) : Dev :=
  if had && !d.keyA n then
    let other := !d.keyA1 n || !d.keyA4 n || !d.keyA5 n || !d.keyA6 n || d.on (.te n 0) TE_TX_CTRL.FRAMER_EN
    let d1 := if d.keyA2 n && other then d.raise (.te n 0) 5 else d
    if !d.keyA1 n || !d.keyA5 n || !d.keyA6 n then d1.giveUp n 4 else d1
  else d

/-! ## The watch on a group's members (R189) -/

/-- A member of group slot `g` beside its entry. -/
def Dev.mem (d : Dev) (g s : Nat) : BdMember := (d.bd g).mem.get BdMember.init s
/-- Set a member of group slot `g`. -/
def Dev.setMem (d : Dev) (g s : Nat) (v : BdMember) : Dev :=
  d.setBd g { d.bd g with mem := (d.bd g).mem.put BdMember.init s v }

/-- The first of the causes 5, 1 and 2 of Table BND–3 that arises for a port between two states; 0 none.  A lasting fault
that retires the port is shown as such, though it also withdraws key A (DEDUCED, log 71). -/
def Dev.lossBetween (d0 d : Dev) (m : Nat) : Nat :=
  if d0.keyA6 m && !d.keyA6 m then 5
  else if d0.keyA m && (!d.keyA1 m || !d.keyA5 m || !d.keyA6 m) then 1
  else if d0.laneGood m && !d.laneGood m then 2
  else 0

/-- A member in service goes DOWN at the next commit for the first cause that arises (R189): one noted before stays. -/
def Dev.memberWatch (m : Nat) (d0 d : Dev) : Dev :=
  let c := d0.lossBetween d m
  match d.groupOf m with
  | none => d
  | some g =>
    let s := m - 2 * g
    let b := d.mem g s
    if c = 0 ∨ !d.inService m ∨ (b.trans.any (fun t => t.1 == 1)) then d
    else d.setMem g s { b with trans := some (1, c) }

/-- What the change from `d0` to `d` means for tree `n`: key A lost, a member lost. -/
def Dev.watchFrom (d0 : Dev) (n : Nat) (d : Dev) : Dev := (d.keyWatch n (d0.keyA n)).memberWatch n d0

/-- Run `f` under the watch on the trees listed. -/
def Dev.watch (l : List Nat) (f : Dev → Dev) (d : Dev) : Dev := l.foldl (fun e n => d.watchFrom n e) (f d)

/-- Run `f` under the watch on key A of every tree. -/
def Dev.watchAll (f : Dev → Dev) (d : Dev) : Dev := d.watch (List.range 48) f

/-- A page whose registers or tables bear on key A: tree engines, lanes, groups, protection, clocks, resets and faults. -/
def Page.nearKeyA : Page → Bool
  | .te _ _ => true | .ln _ => true | .bd => true | .px0 => true | .pxl _ => true | .ck => true | .rs => true
  | .ft => true
  | _ => false

/-- Run a host write to a page under the watch on key A, where the page bears on it. -/
def Page.guarded (p : Page) (f : Dev → Dev) (d : Dev) : Dev := if p.nearKeyA then Dev.watchAll f d else f d

end Sys2Proof.Machine
end

