-- ==== Sys2Proof/Machine/Reset.lean ====
section
/-! DEFINITION. What the reset scopes clear (R35, R385, Table PWR–5): block, domain, warm and cold, over the register
fields, the tables with their shadows, and what each block holds beside them. -/

namespace Sys2Proof.Machine

/-- The page that carries a table. -/
def Tbl.page : Tbl → Page
  | .teDsCnt n => .te n 0
  | .teBurstProfile n => .te n 1 | .teEqRecall n => .te n 1 | .teUsCnt n => .te n 1 | .teOnuLine n => .te n 1
  | .teOnu n => .te n 2 | .teSnUnk n => .te n 2 | .teRngCnt n => .te n 2
  | .bwTrace => .bw0 | .bwAlloc => .bw1 | .bwCeil => .bw1 | .bwAllocCnt => .bw1
  | .bwMapMirror n => .bwt n | .bwTreeCnt n => .bwt n
  | .hyViolLog => .hy0 | .hyCnt => .hy0 | .hySafeMap => .hy0
  | .hyAlloc => .hy1 | .hyOnu => .hy1 | .hyProf => .hy1 | .hyCeil => .hy1
  | .bdGroup => .bd | .bdSkew => .bd | .bdOamTpl => .bd | .bdCnt => .bd | .bdOnuInd => .bd
  | .pxRole => .px0 | .pxCnt => .px0 | .pxLinkCnt k => .pxl k
  | .clPortProf => .cl 0 | .clCnt => .cl 0 | .clProfile => .cl 1 | .clRange => .cl 1 | .clNode => .cl 2
  | .clFlow => .cl 3 | .clRuleCnt => .cl 4
  | .bpPoolCfg => .bp 0 | .bpTubLog => .bp 0 | .bpAccount => .bp 1 | .bpAcctCnt => .bp 1 | .bpDesc => .bp 2
  | .scCnt => .sc 0 | .scNode => .sc 1 | .scQueue => .sc 2 | .scSample => .sc 3 | .scAgg => .sc 4 | .scPolicer => .sc 5
  | .cxKeyLog => .cx0 | .cxCnt => .cx0 | .cxJobWin => .cx0 | .cxKey => .cx1 | .cxOnuKeys => .cx1
  | .cxTkey t => .cxt t | .cxJobCnt t => .cxt t
  | .tnTenant => .tn | .tnOwner => .tn | .tnSlot => .tn | .tnSepCnt => .tn
  | .tmCnt => .tm 1 | .tmAnn => .tm 2
  | .ulCnt u => .ulp u
  | .ckDomainCtrl => .ck | .ckLoop => .ck
  | .rsRetain => .rs | .rsCalImg => .rs | .rsLwRec => .rs
  | .pwCnt => .pw
  | .ftClass => .ft | .ftEvent => .ft | .ftInst => .ft
  | .hiRingCnt f => .hir f
  | .pmSel => .pm0 | .pmAccess => .pm0

/-- The page of a key of the register store. -/
def keyPage (k : Nat) : Option Page := Page.ofNum (k / 131072)

/-- The byte offset of a key of the register store. -/
def keyOff (k : Nat) : Nat := k / 32 % 4096

/-- A key of an RWS field or of PAGE_OWNER: kept by every scope but cold (Table PWR–5). -/
def keySticky (k : Nat) : Bool :=
  match keyPage k with
  | none => false
  | some p => p.fields.any (fun f => f.off == keyOff k && f.lo == k % 32 && f.acc == .rws)

/-- RS_BACKUP0–31: kept by every scope (R392). -/
def keyBackup (k : Nat) : Bool := keyPage k == some .rs && 0x180 ≤ keyOff k

/-- Fields that show the supply, a pin or the retained rail, not what the module decided: a reset does not change what
they show (log 14). -/
def keyPhysical (k : Nat) : Bool :=
  (keyPage k == some .pw && 0x100 ≤ keyOff k) ||
    (keyPage k == some .rs && (keyOff k == 0x140 && k % 32 == 30 || keyOff k == 0x104 && k % 32 == 31 || keyOff k == 0x120 && k % 32 == 30))

/-- The domain of a key of the table store. -/
def tblKeyDomain (k : Nat) : Nat :=
  match Tbl.ofNum (k / 536870912) with
  | none => 1000
  | some t => t.page.domain

/-- Whether a key of the table store lies in retained SRAM or in the last-word record (R392). -/
def tblKeyRetained (k : Nat) : Bool :=
  match Tbl.ofNum (k / 536870912) with
  | some .rsRetain => true
  | some .rsLwRec => true
  | _ => false

/-- Take a page's register fields to their reset values, but for RWS fields and PAGE_OWNER (R35).  A PAGE_OWNER write that
waits for the table command which the reset ends is dropped with it (DESIGN CHOICE, log 62). -/
def Dev.resetPage (d : Dev) (p : Page) : Dev :=
  { d with regs := d.regs.keep (fun k => keyPage k != some p || keySticky k || keyBackup k || keyPhysical k),
           fab := { d.fab with tcmd := d.fab.tcmd.del p.num, ownerPend := d.fab.ownerPend.del p.num } }

/-- What a tree engine holds beside its pages. -/
def Dev.resetTree (d : Dev) (n : Nat) : Dev :=
  { d with te := { d.te with fr := d.te.fr.del n, rx := d.te.rx.del n, sq := d.te.sq.del n } }

/-- The trees of a TE domain. -/
def domTrees (k : Nat) : List Nat := if 11 ≤ k ∧ k < 59 then [k - 11] else []

/-- What the blocks of a domain hold beside their pages and tables. -/
def Dev.resetInner (d : Dev) (k : Nat) : Dev :=
  if 11 ≤ k ∧ k < 59 then (d.resetTree (k - 11)).setCtl (k - 11) false
  else if k = 4 then
    { d with hif := { d.hif with rings := [], heldPloam := [], heldOmci := [], msix := [], numVfs := 0 } }
  else if k = 2 then { d with eng := { d.eng with hy := [], damagedAlloc := [], violAt := 0 } }
  else if k = 6 then
    { d.bwRestart with eng := { d.bwRestart.eng with traceAt := 0 }, grp := { bd := [], px := [], link := [] } }
  else if 59 ≤ k ∧ k < 147 then { d with lanes := d.lanes.del (k - 59) }
  else if 147 ≤ k then { d with path := { d.path with mac := d.path.mac.del (k - 147) } }
  else d

/-! ## Calibration values and release (R386, R387, R394) -/

/-- Word `w` of the calibration image in force: the built-in defaults when neither bank was valid (R394). -/
def Dev.calWord (d : Dev) (w : Nat) : Nat :=
  if d.on .rs RS_STAT.CAL_DEFAULT then Config.calDefault w else d.pwr.applied.get 0 w

/-- The fields of a page whose reset value the calibration store gives: LN_TXEQ of a lane, ENERGY_THR of a tree
(Table BRX–11, Table PWR–9). -/
def Dev.calPage (d : Dev) (p : Page) : Dev :=
  match p with
  | .te n i => if i = 1 then d.wr p TE_RX_LISTEN.ENERGY_THR (d.calWord (708 + 16 * n)) else d
  | .ln l =>
    let v := d.calWord (4 + 8 * l)
    d.wrs p [(LN_TXEQ.SWING, LN_TXEQ.SWING.get v), (LN_TXEQ.POST, LN_TXEQ.POST.get v), (LN_TXEQ.PRE, LN_TXEQ.PRE.get v)]
  | _ => d

/-- The fields of a domain's pages whose reset value the calibration store gives. -/
def Dev.calApply (d : Dev) (k : Nat) : Dev :=
  if 11 ≤ k ∧ k < 59 then d.calPage (.te (k - 11) 1)
  else if 59 ≤ k ∧ k < 147 then d.calPage (.ln (k - 59))
  else d

/-- A lane domain: CLK_GOOD of a lane shows that it runs in L0, so its release does not wait for it (DEDUCED, log 20). -/
def laneDomain (k : Nat) : Bool := 59 ≤ k && k < 147

/-- Release a domain from reset (R386). -/
def Dev.releaseDom (d : Dev) (k : Nat) : Dev :=
  (d.setDom k { d.dom k with released := true, held := false, inRst := false }).calApply k

/-- Whether a domain may be released (R387): it shows CLK_GOOD. -/
def Dev.mayRelease (d : Dev) (k : Nat) : Bool :=
  laneDomain k || d.onT .ckDomainCtrl k CK_DOMAIN_CTRL.CLK_GOOD

/-- A release is reached: it takes effect, or is latched until CLK_GOOD rises (R387). -/
def Dev.reachRelease (d : Dev) (k : Nat) : Dev :=
  let d1 := d.setDom k { d.dom k with released := false, held := false, inRst := false }
  if d.mayRelease k then d1.releaseDom k
  else d1.wrs .rs [(RS_STAT.REL_PEND_CLK, 1), (RS_STAT.PEND_DOMAIN, k)]

/-- A domain-scope reset: every page of the domain, RWS fields and PAGE_OWNER kept, its tables with counters and
shadows, what its blocks hold, its gating (Table PWR–5). -/
def Dev.resetDomain (d : Dev) (k : Nat) : Dev :=
  let d1 := { d with
    regs := d.regs.keep (fun q => (keyPage q).map Page.domain != some k || keySticky q || keyBackup q || keyPhysical q),
    tbls := d.tbls.keep (fun q => tblKeyDomain q != k || tblKeyRetained q),
    shads := d.shads.keep (fun q => tblKeyDomain q != k),
    fab := { d.fab with
      tcmd := d.fab.tcmd.keep (fun q => (Page.ofNum q).map Page.domain != some k),
      ownerPend := d.fab.ownerPend.keep (fun q => (Page.ofNum q).map Page.domain != some k),
      blkRst := d.fab.blkRst.filter (fun q => (Page.ofNum q).map Page.domain != some k) } }
  let d2 := d1.resetInner k
  (d2.wrTs .ckDomainCtrl k
    ([(CK_DOMAIN_CTRL.GATE, 0), (CK_DOMAIN_CTRL.GATED, 0), (CK_DOMAIN_CTRL.BUSY, 0)] ++
      if laneDomain k then [(CK_DOMAIN_CTRL.CLK_GOOD, 0)] else [])).setDom k { d2.dom k with op := 0 }

/-- Every function's epoch and the Aztil message epoch after a reset that increments them (R385). -/
def bumpEpochs (e : Store Nat) (l : List Nat) : Store Nat :=
  l.foldl (fun e f => e.put 1 f ((e.get 1 f + 1) % 65536)) e

/-- A warm (`cold = false`) or cold reset of everything behind the supply (Table PWR–5): module time restarts, the
retained rail, the flash and the epochs go on; the release sequence starts at its first step. -/
def Dev.resetAll (d : Dev) (cold : Bool) : Dev :=
  { Dev.reset with
    regs := d.regs.keep (fun k => (!cold && keySticky k) || keyBackup k || keyPhysical k),
    tbls := d.tbls.keep (fun k => tblKeyRetained k ||
      (!cold && k / 536870912 == Tbl.ckDomainCtrl.num && k / 512 % 1048576 == 0)),
    now := d.now, out := d.out, freeCtr := d.freeCtr,
    clk := { Dev.reset.clk with
      dom := if cold then [] else d.clk.dom.keep (fun k => k == 0), aonWait := !cold && d.clk.aonWait },
    pwr := { d.pwr with scope := if cold then 3 else 2, relQ := [], lw := 0, commit := none,
                        abandoned := d.pwr.abandoned || d.pwr.commit.isSome, wdtStart := d.now, wdtWarned := false,
                        epochs := bumpEpochs d.pwr.epochs (List.range 17) },
    sup := { Dev.reset.sup with quenchHighAt := d.sup.quenchHighAt } }

/-- Hold a unit's domain in reset (R469): the domain-scope reset, then held. -/
def Dev.holdDomain (d : Dev) (k : Nat) : Dev :=
  (d.resetDomain k).setDom k { (d.resetDomain k).dom k with held := true, released := false, inRst := false }

end Sys2Proof.Machine
end

