-- ==== Sys2Proof/Machine/LaneOps.lean ====
section
/-! DEFINITION. Lane power states and what keeps a lane awake (R337–R340), and the ports of the uplink octets (R345). -/

namespace Sys2Proof.Machine

/-- A lane beside its page. -/
def Dev.lane (d : Dev) (l : Nat) : Lane := d.lanes.get Lane.init l
/-- Set a lane. -/
def Dev.setLane (d : Dev) (l : Nat) (v : Lane) : Dev := { d with lanes := d.lanes.put Lane.init l v }

/-- MODE of the octet that holds uplink lane or port `u` (Table SLU–4). -/
def Dev.octetMode (d : Dev) (u : Nat) : Nat := d.rd .ul0 (UL_OCTET_CFG.MODE (u / 8))

/-- The port that contains uplink lane `u`. -/
def Dev.portOf (d : Dev) (u : Nat) : Nat :=
  if d.octetMode u = 0 then u else if d.octetMode u = 1 then u / 4 * 4 else u / 8 * 8

/-- Whether `u` is a valid port under the arrangement of its octet. -/
def Dev.validPort (d : Dev) (u : Nat) : Bool := u < 32 && d.portOf u == u

/-- UL_PORT_STAT.RATE: 0 not a valid port, 1 100GbE, 2 400GbE, 3 800GbE. -/
def Dev.portRate (d : Dev) (u : Nat) : Nat := if d.validPort u then d.octetMode u + 1 else 0

/-- The MAC and PCS of a port run: the page is enabled and no lasting fault retires the port (R346, Table FLT–2). -/
def Dev.portOn (d : Dev) (u : Nat) : Bool :=
  d.enabled (.ulp u) && d.validPort u && !d.lastingOn 4 u 2 && !d.lastingOn 4 u 3

/-- The owning block of a lane is active (R338). -/
def Dev.laneActive (d : Dev) (l : Nat) : Bool :=
  if l < 48 then d.rd (.te l 0) TE_TX_STAT.FSTATE != 0 || d.on (.te l 1) TE_RX_CTRL.RX_EN
  else if l < 80 then d.on (.ulp (d.portOf (l - 48))) PAGE_CTRL.EN
  else d.on (.pxl ((l - 80) / 4)) PX_PEER_CFG.EN

/-- A lane whose generator or checker is on refuses L1 and L2 (R341). -/
def Dev.prbsOn (d : Dev) (l : Nat) : Bool := d.on (.ln l) LN_PRBS.GEN_EN || d.on (.ln l) LN_PRBS.CHK_EN

/-- The state the lane is to be in: L2 while its page is disabled or a lasting fault retires it (R340, Table FLT–2). -/
def Dev.laneWant (d : Dev) (l : Nat) : Nat :=
  if !d.on (.ln l) PAGE_CTRL.EN || d.laneRetired l then 2
  else d.rd (.ln l) LN_PSTATE.TARGET

/-- Begin a transition when none is in progress and the lane is not where it is to be (R337, R339): CLK_GOOD falls in
the cycle in which a lane begins to leave L0, and a continuous lane that leaves L2 begins full adaptation (R336). -/
def Dev.laneKick (d : Dev) (l : Nat) : Dev :=
  if d.live (.ln l) && !d.on (.ln l) LN_PSTATE.TRANS && d.rd (.ln l) LN_PSTATE.STATE != d.laneWant l then
    let d1 := (d.setLane l { d.lane l with dest := d.laneWant l }).wr (.ln l) LN_PSTATE.TRANS 1
    let d2 := if d.rd (.ln l) LN_PSTATE.STATE = 0 then d1.wrT .ckDomainCtrl (59 + l) CK_DOMAIN_CTRL.CLK_GOOD 0 else d1
    if d.rd (.ln l) LN_PSTATE.STATE = 2 ∧ 48 ≤ l then
      (d2.wrs (.ln l) [(LN_RX_ADAPT.STATE, 1), (LN_RX_ADAPT.RESTART, 0)]).setLane l { dest := d.laneWant l, adaptAt := d.now }
    else d2
  else d

/-- The owning block becomes active: TARGET becomes 0 in the same cycle (R338). -/
def Dev.laneWake (d : Dev) (l : Nat) : Dev := (d.wr (.ln l) LN_PSTATE.TARGET 0).laneKick l

/-- The lanes of uplink port `u`. -/
def Dev.portLanes (d : Dev) (u : Nat) : List Nat :=
  (List.range 32).filterMap (fun v => if d.portOf v = u then some (48 + v) else none)

/-- Drop LINK_UP of a port, with its interrupt, its count and its report (R348). -/
def Dev.linkFall (d : Dev) (u : Nat) : Dev :=
  if d.on (.ulp u) UL_PORT_STAT.LINK_UP then
    (((d.wr (.ulp u) UL_PORT_STAT.LINK_UP 0).cnt (.ulCnt u) 12).raise (.ulp u) 0).report 51 u
  else d

end Sys2Proof.Machine
end

