-- ==== Sys2Proof/Machine/Decide.lean ====
section
/-! DEFINITION. The ranging sequencer's shared operations: its PLOAM messages, deciding a transition, the commit of
Table RNG–2 with the precedence of R115, and the rogue hunt (R104–R125). -/

namespace Sys2Proof.Machine

/-! ## Units of the line (Table SCP–2, Table BRX–1) -/

/-- Upstream blocks per frame of a line mode. -/
def blocksOf (mode : Nat) : Nat := if mode = 0 then 9720 else if mode = 1 then 12150 else if mode = 2 then 24300 else 48600

/-- Upstream blocks per frame of a tree: C. -/
def Dev.blocks (d : Dev) (n : Nat) : Nat := blocksOf (d.rd (.te n 0) TE_MODE.LINE_MODE)

/-- Nanoseconds in UI of the upstream rate of `c` blocks per frame, to the nearest, halves up: 125 µs are c × 128 UI. -/
def nsToUi (c ns : Nat) : Nat := (ns * c * 128 * 2 + 125000) / 250000

/-- Nanoseconds in blocks, rounded up. -/
def nsToBlocks (c ns : Nat) : Nat := (ns * c + 124999) / 125000

/-! ## The ONU table -/

/-- STATE of a local index; the table is the group port's (R177). -/
def Dev.onuSt (d : Dev) (n j : Nat) : Nat := d.rdT (.teOnu n) j TE_ONU.STATE

/-- The local indices of a tree in a state other than EMPTY: the listed ones of the table store, ascending. -/
def Dev.onusIn (d : Dev) (n st : Nat) : List Nat :=
  (d.tbls.filter (fun e => e.1 / 536870912 == (Tbl.teOnu n).num && e.1 % 512 == 0 && e.2 == st)).map
    (fun e => e.1 / 512 % 1048576)

/-- Entries in OPERATING (TE_SEQ_STAT.OPERATING_N). -/
def Dev.operatingN (d : Dev) (n : Nat) : Nat := (d.onusIn n 3).length

/-- An ONU that may transmit: RANGING, OPERATING or DRIFTING. -/
def Dev.activeOnus (d : Dev) (n : Nat) : List Nat :=
  (List.range 256).filter (fun j => (2 : Nat) ≤ d.onuSt n j && d.onuSt n j ≤ 4)

/-- The tree's protection role is standby: protected and neither ACTIVE nor TAKING with control (R121, R151, R171). -/
def Dev.standby (d : Dev) (n : Nat) : Bool := d.isProtected n && d.pxState n != 2

/-! ## Messages of the sequencer (R63, Table DSF–3) -/

/-- The broadcast ONU-ID, which is also the unassigned one (R111). -/
def bcastOnu : Nat := 1023

/-- A PLOAM message of the sequencer joins the queue of the framer that carries the tree's messages (R66, R182).  The
body holds the message's parameters; its coding is the recommendation's (DESIGN CHOICE, log 15). -/
def Dev.ploam (d : Dev) (n onu : Nat) (t : DsPloamType) (body : List Byte) : Dev :=
  let m := d.lead n
  let f := d.fr m
  if d.standby n then d
  else d.setFr m { f with seqQ := f.seqQ ++ [{ ring := none, host := false, onu := onu, type := t, body := body }] }

/-- Disable_Serial_Number for an entry: 0xFF disable, 0x00 enable, and the serial number. -/
def Dev.disableSn (d : Dev) (n j : Nat) (disable : Bool) : Dev :=
  d.ploam n bcastOnu .disableSerialNumber
    ((if disable then 0xff#8 else 0x00#8) :: beBytes 8 (d.rdT (.teOnu n) j TE_ONU.SERIAL))

/-! ## Recall (R91) -/

/-- Clear VALID of a recall entry, with the cause. -/
def Dev.recallDrop (d : Dev) (m j cause : Nat) : Dev :=
  if d.onT (.teEqRecall m) j TE_EQ_RECALL.VALID then
    (d.wrT (.teEqRecall m) j TE_EQ_RECALL.VALID 0).wrT (.teEqRecall m) j TE_EQ_RECALL.INVAL_CAUSE cause
  else d

/-! ## Deciding and committing (R114–R116) -/

/-- A transition without the data of a serial number. -/
def Trans.plain (onu dest cause rank : Nat) : Trans :=
  { onu := onu, dest := dest, cause := cause, rank := rank, serial := 0, rtd := 0, rnd := 0, case4 := false }

/-- Decide a transition: it waits for the commit of the tree's handover. -/
def Dev.plan (d : Dev) (n : Nat) (t : Trans) : Dev := d.setSq n { d.sq n with trans := (d.sq n).trans ++ [t] }

/-- Whether Table RNG–2 has the transition from a state. -/
def transOk (st dest cause : Nat) : Bool :=
  match dest with
  | 0 => if cause = 4 then st == 1 else st == 1 || st == 6 || st == 7
  | 1 => st == 0 || st == 6
  | 2 => if cause = 3 then st == 1 else if cause = 9 then st == 4 else st == 3 || st == 4
  | 3 => st == 2
  | 4 => st == 3
  | 5 => 2 ≤ st && st ≤ 4
  | 6 =>
    if cause = 6 then st == 2
    else if cause = 10 then 2 ≤ st && st ≤ 4
    else if cause = 11 then st != 0 && st != 7
    else if cause = 14 then st == 5
    else 2 ≤ st
  | _ => st != 7

/-- EqD_pre of R107 in UI. -/
def Dev.eqdPre (d : Dev) (n : Nat) : Nat :=
  nsToUi (d.blocks n) (d.rd (.te n 2) TE_RANGE_CFG.TEQD_NS - 35000 - 9800 * d.rd (.te n 2) TE_RANGE_CFG.MAX_KM)

/-- Start ranging of an ONU that is using an equalisation delay of `used` UI (R118). -/
def Dev.rangeStart (d : Dev) (n j : Nat) (used : Int) : Dev :=
  let q := d.sq n
  d.setSq n { q with rng := q.rng.ins j { confirm := false, fails := 0, wait := false, sends := 0, seqs := [], used := used } }

/-- Clear the drift filter of an ONU, that of every member on a group (R119).  The filter of member slot `s` is kept
under `s × 256 + j`. -/
def Dev.driftClear (d : Dev) (n j : Nat) : Dev :=
  let d1 := d.setSq n { d.sq n with drift := (d.sq n).drift.keep (fun k => k % 256 != j),
                                    resume := (d.sq n).resume.del j }
  (d1.wrT (.teOnu n) j TE_ONU.DRIFT_N 0).wrT (.teOnu n) j TE_ONU.DRIFT_F 0

/-! ## Skew probes (R185) -/

/-- Put a number at its place in an ascending list, once. -/
def insertNat (j : Nat) : List Nat → List Nat
  | [] => [j]
  | x :: t => if j < x then j :: x :: t else if j = x then x :: t else x :: insertNat j t

/-- A probe of an ONU on a member is to be issued. -/
def Dev.probeAdd (d : Dev) (g s j : Nat) : Dev :=
  let m := d.mem g s
  d.setMem g s { m with probes := insertNat j m.probes }

/-- An ONU enters OPERATING: a probe for each member in service other than the acting lead. -/
def Dev.probeOnu (d : Dev) (n j : Nat) : Dev :=
  match d.groupOf n with
  | none => d
  | some g => ((d.members g).filter (fun m => m != d.lead n && d.inService m)).foldl
      (fun (x : Dev) m => x.probeAdd g (m - 2 * g) j) d

/-- The outputs of a committed transition of entry `j` from state `st` (Table RNG–2).  An ONU placed anew starts with
LOB_CNT 0, as loss is counted over bursts in a row of the ONU now placed (DESIGN CHOICE, log 67). -/
def Dev.transOut (d : Dev) (n st : Nat) (t : Trans) : Dev :=
  let j := t.onu
  match t.dest with
  | 1 =>
    let d1 := d.wrTs (.teOnu n) j
      [(TE_ONU.SERIAL, t.serial), (TE_ONU.SN_VALID, 1), (TE_ONU.RTD, t.rtd), (TE_ONU.RAND_DELAY, t.rnd),
       (TE_ONU.LOB_CNT, 0)]
    (d1.setSq n { d1.sq n with discAt := (d1.sq n).discAt.ins j d1.now,
                               case4 := (d1.sq n).case4.put false j t.case4 }).raise (.te n 2) 0
  | 2 =>
    if t.cause = 3 then
      (d.ploam n bcastOnu .assignOnuId (beBytes 2 j ++ beBytes 8 (d.rdT (.teOnu n) j TE_ONU.SERIAL))).rangeStart n j
        (d.eqdPre n)
    else d.rangeStart n j (d.rdT (.teOnu n) j TE_ONU.EQD)
  | 3 =>
    let d1 := (d.wrT (.teOnu n) j TE_ONU.CORR_CNT 0).driftClear n j
    (d1.setSq n { d1.sq n with rng := (d1.sq n).rng.del j }).probeOnu n j
  | 4 => ((d.cnt (.teRngCnt n) 7).raise (.te n 2) 2).reportOnu 42 n j
  | 5 => (((d.disableSn n j true).cnt (.teRngCnt n) 12).raise (.te n 2) 3)
  | 6 =>
    let d1 :=
      if t.cause = 6 ∨ t.cause = 10 then d.ploam n j .deactivateOnuId []
      else if t.cause = 11 then d
      else if st = 5 ∨ st = 7 then d.disableSn n j false
      else d.ploam n j .deactivateOnuId []
    ((d1.cnt (.teRngCnt n) 8).raise (.te n 2) 0).reportOnu 41 n j
  | 7 => d.disableSn n j true
  | _ =>
    let d1 :=
      if t.cause = 4 then
        if (d.sq n).case4.get false j then (d.wrT (.teOnu n) j TE_ONU.SERIAL 0).wrT (.teOnu n) j TE_ONU.SN_VALID 0 else d
      else d
    d1.raise (.te n 2) 0

/-- Commit one transition at superframe count `sfc` (R114, R116): STATE, CAUSE, LAST_SFC, the Hardy's copy, the
recall entry of an ONU that leaves OPERATING or DRIFTING, the ranging of one that leaves RANGING, the outputs. -/
def Dev.commitOne (d : Dev) (n sfc : Nat) (t : Trans) : Dev :=
  let j := t.onu
  let st := d.onuSt n j
  let d0 := if t.dest = 0 ∧ t.cause = 1 then (d.wrTs (.teOnu n) j (TE_ONU.fields.map (fun f => (f, 0)))) else d
  let d1 := d0.wrTs (.teOnu n) j [(TE_ONU.STATE, t.dest), (TE_ONU.CAUSE, t.cause), (TE_ONU.LAST_SFC, sfc)]
  let d2 := d1.wrT .hyOnu (n * 256 + j) HY_ONU.STATE t.dest
  let d3 := d2.undamage (Tbl.hyOnu.key (n * 256 + j) HY_ONU.STATE)
  let d4 := if st = 3 ∨ st = 4 then (d3.mates n).foldl (fun d m => d.recallDrop m j 2) d3 else d3
  let d5 := if t.dest ≠ 3 then
      d4.setSq n { d4.sq n with rng := (d4.sq n).rng.del j, awaits := (d4.sq n).awaits.filter (fun k => k / 256 != j) }
    else d4
  let d6 := d5.transOut n st t
  d6.setBw n { d6.bw n with ploamu := (d6.bw n).ploamu.del j }

/-- The transition that a pending host command asks for, against the committed state: `none` where the command is not
valid (R127). -/
def Dev.cmdTrans (d : Dev) (n : Nat) : Option Trans :=
  let op := d.rd (.te n 2) TE_ONU_CMD.OP
  let j := d.rd (.te n 2) TE_ONU_CMD.INDEX
  let st := d.onuSt n j
  if d.onT (.teOnu n) j TE_ONU.MCAST then none
  else
    match op with
    | 1 => if d.onT (.teOnu n) j TE_ONU.SN_VALID then
             some (if st = 1 then Trans.plain j 2 3 3 else Trans.plain j 8 0 3) else none
    | 2 => if st = 3 ∨ st = 4 then some (Trans.plain j 2 (if st = 4 then 9 else 1) 3) else none
    | 3 => if 2 ≤ st ∧ st ≤ 4 then some (Trans.plain j 6 1 3) else none
    | 4 => if d.onT (.teOnu n) j TE_ONU.SN_VALID ∧ st ≠ 7 then some (Trans.plain j 7 1 1) else none
    | 5 => if st = 5 ∨ st = 7 then some (Trans.plain j 6 1 3) else none
    | 6 => if st = 1 ∨ st = 6 ∨ st = 7 then some (Trans.plain j 0 1 3) else none
    | _ => none

/-- Complete the host command with a status (R127). -/
def Dev.cmdDone (d : Dev) (n stat : Nat) : Dev := (d.wr (.te n 2) TE_ONU_CMD.STAT stat).raise (.te n 2) 5

/-- A rogue hunt ends: HUNT as given, the suspects count, HUNT_DONE. -/
def Dev.huntEnd (d : Dev) (n res : Nat) : Dev :=
  let d1 := d.setSq n { d.sq n with hunt := none }
  (d1.wr (.te n 2) TE_SEQ_STAT.HUNT res).raise (.te n 2) 4

/-- Release hunt-isolated entries: each is decided to LOST with cause 14. -/
def Dev.huntRelease (d : Dev) (n : Nat) (l : List Nat) : Dev :=
  l.foldl (fun d j => d.plan n (Trans.plain j 6 14 4)) d

/-- Begin the next round of a hunt with these suspects (R124): the lower half is isolated; with one suspect left, it is
isolated alone; with none the hunt is unresolved. -/
def Dev.huntRound (d : Dev) (n : Nat) (sus isolated : List Nat) : Dev :=
  let d0 := d.wr (.te n 2) TE_SEQ_STAT.SUSPECTS sus.length
  match sus with
  | [] => (d0.huntRelease n isolated).huntEnd n 3
  | [j] =>
    let d1 := if isolated.contains j then d0 else d0.plan n (Trans.plain j 5 13 2)
    let d2 := d1.huntRelease n (isolated.filter (· != j))
    d2.setSq n { d2.sq n with hunt := some { suspects := [j], half := [j], isolated := [j], confirming := true,
                                             energy := false, listening := false, abort := false } }
  | _ =>
    let half := sus.take ((sus.length + 1) / 2)
    let d1 := half.foldl (fun d j => if d.onuSt n j = 5 then d else d.plan n (Trans.plain j 5 13 2)) d0
    d1.setSq n { d1.sq n with hunt := some { suspects := sus, half := half,
                                             isolated := isolated ++ half.filter (fun j => !isolated.contains j),
                                             confirming := false, energy := false, listening := false,
                                             abort := false } }

/-- Start a rogue hunt (R123, R124): never while another runs. -/
def Dev.huntStart (d : Dev) (n : Nat) : Dev :=
  if (d.sq n).hunt.isSome then d
  else
    let d1 := (d.cnt (.teRngCnt n) 11).wrs (.te n 2) [(TE_SEQ_STAT.HUNT, 1), (TE_SEQ_STAT.ROUND, 0)]
    d1.huntRound n (d1.activeOnus n) []

/-- The candidate transitions of a commit in order of rank, the earlier decided first among equals. -/
def bestFor (l : List Trans) (j : Nat) : Option Trans :=
  (l.filter (fun t => t.onu == j)).foldl
    (fun b t => match b with | none => some t | some u => if t.rank < u.rank then some t else some u) none

/-- The transitions that arise at a commit by themselves: DISCOVERED with AUTH or AUTO_AUTH, DRIFTING with
AUTO_RERANGE (Table RNG–2). -/
def Dev.autoTrans (d : Dev) (n : Nat) : List Trans :=
  ((d.onusIn n 1).filter (fun j => d.onT (.teOnu n) j TE_ONU.AUTH || d.on (.te n 2) TE_DISC_CFG.AUTO_AUTH)).map
      (fun j => Trans.plain j 2 3 4) ++
    (if d.on (.te n 2) TE_DRIFT_CFG.AUTO_RERANGE then (d.onusIn n 4).map (fun j => Trans.plain j 2 9 4) else [])

/-- Whether the sequencer of a tree acts: its page runs, is enabled and is not asked to quiesce (R126), and the tree is
not standby (R121). -/
def Dev.seqActs (d : Dev) (n : Nat) : Bool := d.takes (.te n 2) && !d.standby n

/-- The part of a commit that a pending HUNT_ABORT makes (R125): isolations of the hunt that are decided and not yet
committed lapse, the committed ones are released. -/
def Dev.commitAbort (d : Dev) (n : Nat) : Dev :=
  if d.rd (.te n 2) TE_ONU_CMD.STAT = 1 ∧ d.rd (.te n 2) TE_ONU_CMD.OP = 7 then
    match (d.sq n).hunt with
    | some h =>
      let d1 := d.setSq n { d.sq n with trans := (d.sq n).trans.filter (fun t => t.cause != 13) }
      ((d1.huntRelease n (h.isolated.filter (fun j => d1.onuSt n j == 5))).huntEnd n 3).cmdDone n 0
    | none => (d.logErr (.te n 2) 0x143).cmdDone n 3
  else d

/-- Start a hunt that the hold of R126 kept waiting. -/
def Dev.huntDue (d : Dev) (n : Nat) : Dev :=
  if (d.sq n).huntHeld then (d.setSq n { d.sq n with huntHeld := false }).huntStart n else d

/-- The commit of a tree's decided transitions at superframe count `sfc` (R114, R115).  An AUTHORISE that makes no
transition (`dest` 8) takes no part in the order of R115, which ranks transitions. -/
def Dev.commit (d : Dev) (n sfc : Nat) : Dev :=
  if !d.seqActs n then d
  else
    let d0 := (d.huntDue n).commitAbort n
    let cmdPend := d0.rd (.te n 2) TE_ONU_CMD.STAT == 1
    let cmd := if cmdPend then d0.cmdTrans n else none
    let auto := d0.autoTrans n
    let seq := (d0.sq n).trans.filter (fun t => transOk (d0.onuSt n t.onu) t.dest t.cause)
    let all := seq ++ cmd.toList.filter (fun t => t.dest != 8) ++ auto
    let onus := (all.map Trans.onu).foldl (fun l j => if l.contains j then l else l ++ [j]) []
    let won := onus.filterMap (bestFor all)
    let lost := (seq ++ auto).filter (fun t => !won.contains t && t.cause != 3 && t.cause != 9)
    let d1 := d0.setSq n { d0.sq n with trans := lost }
    let d3 := won.foldl (fun d t => d.commitOne n sfc t) d1
    let d4 := match (d3.sq n).hunt with
      | some h => d3.setSq n { d3.sq n with hunt := some { h with listening := true } }
      | none => d3
    if cmdPend then
      match cmd with
      | none => (d4.logErr (.te n 2) 0x143).cmdDone n 3
      | some t =>
        let ok : Bool := won.contains t || t.dest == 8
        let d5 := if d0.rd (.te n 2) TE_ONU_CMD.OP = 1 ∧ ok then d4.wrT (.teOnu n) t.onu TE_ONU.AUTH 1 else d4
        d5.cmdDone n (if ok then 0 else 2)
    else d4

/-- Transitions decided while the framer is DISABLED or ALIGNING are committed in the cycle in which they are decided
(R114). -/
def Dev.commitNow (d : Dev) (n : Nat) : Dev := if d.sending (d.lead n) then d else d.commit n (d.sfc n)

end Sys2Proof.Machine
end

