-- ==== Sys2Proof/WellFormed.lean ====
section
/-! DEFINITION. Which commands name units and values that exist (R3): what a command that an outside event can be
satisfies.  A command that does not is stopped by name, see `Fault.noSuchUnit`. -/

namespace Sys2Proof

/-- A host access: a function of the device, with the slot of its window for a virtual function (R48), and for the
physical function 0 or a page of a tenant window; four byte enables. -/
def By.ok (b : By) : Bool :=
  (if b.func == 0 then b.slot == 0 || (8192 ≤ b.slot && b.slot < 16384) else b.func < 16 && b.slot < 512) && b.be < 16

/-- A host access writes a 32-bit word, enables at most TotalVFs = 15 virtual functions, masks one of 64 vectors
(Table HIF–1). -/
def HostOp.ok : HostOp → Bool
  | .write v => v < 4294967296
  | .read => true
  | .vfEnable k => k < 16
  | .msixMask vec => vec < 64

/-- A cell: a header of 8 bytes and at most 248 bytes of payload (R200). -/
def cellOk (c : Nat × List Byte) : Bool := decide (c.1 < 2 ^ 64) && decide (c.2.length ≤ 248)

/-- A command names units that exist and values that fit their word. -/
def Instr.wellFormed : Instr → Bool
  | .registerWrite b pg off op => b.ok && decide (pg < 16384) && decide (off < 4096) && op.ok
  | .errCountRead b pg => b.ok && decide (pg < 16384)
  | .intRawClear b pg v => b.ok && decide (pg < 16384) && decide (v < 4294967296)
  | .intForceWrite b pg v => b.ok && decide (pg < 16384) && decide (v < 4294967296)
  | .msixVectorUnmask f vec => decide (f < 16) && decide (vec < 64)
  | .pageOwnerWrite b pg v => b.ok && decide (pg < 16384) && decide (v < 4294967296)
  | .pageEnableWrite b pg v => b.ok && decide (pg < 16384) && decide (v < 4294967296)
  | .quiesceRequest b pg v => b.ok && decide (pg < 16384) && decide (v < 4294967296)
  | .quiesceReached pg => decide (pg < 16384)
  | .quiesceRelease b pg v => b.ok && decide (pg < 16384) && decide (v < 4294967296)
  | .softRst b pg v => b.ok && decide (pg < 16384) && decide (v < 4294967296)
  | .blockResetDone pg => decide (pg < 16384)
  | .tblNop b pg v => b.ok && decide (pg < 16384) && decide (v < 4294967296)
  | .tblRead b pg v _ => b.ok && decide (pg < 16384) && decide (v < 4294967296)
  | .tblWrite b pg v => b.ok && decide (pg < 16384) && decide (v < 4294967296)
  | .tblRmw b pg v _ => b.ok && decide (pg < 16384) && decide (v < 4294967296)
  | .tblClearRange b pg v => b.ok && decide (pg < 16384) && decide (v < 4294967296)
  | .tblCmdDone pg => decide (pg < 16384)
  | .frameStart n => decide (n < 48)
  | .ocHiWrite b n v => b.ok && decide (n < 48) && decide (v < 4294967296)
  | .todArm b n v => b.ok && decide (n < 48) && decide (v < 4294967296)
  | .framerEnable b n v => b.ok && decide (n < 48) && decide (v < 4294967296)
  | .framerDisable b n v => b.ok && decide (n < 48) && decide (v < 4294967296)
  | .lineModeWrite b n v => b.ok && decide (n < 48) && decide (v < 4294967296)
  | .dsXgemFrame n => decide (n < 48)
  | .todAnnouncement n => decide (n < 48)
  | .hostPloamSubmit n => decide (n < 48)
  | .cycleOpen n => decide (n < 48)
  | .bellowsStart n kind a => decide (n < 48) && decide (kind < 7) && decide (a < 16384)
  | .speculativeMapComplete n => decide (n < 48)
  | .confirmationCut n => decide (n < 48)
  | .grantCheck n _ => decide (n < 48)
  | .reconciliationDeadline n => decide (n < 48)
  | .mapHandover n => decide (n < 48)
  | .mapDeadline n _ => decide (n < 48)
  | .txdisSample n _ => decide (n < 48)
  | .rxDisable b n v => b.ok && decide (n < 48) && decide (v < 4294967296)
  | .burstLockStart n slotk => decide (n < 48) && decide (slotk < 2048)
  | .searchWindowOpen n slotk _ => decide (n < 48) && decide (slotk < 2048)
  | .delimiterMatch n slotk bits hdr id _ _ => decide (n < 48) && decide (slotk < 2048) && decide (bits < 18446744073709551616) && decide (hdr < 3) && decide (id < 1024)
  | .searchWindowClose n slotk _ => decide (n < 48) && decide (slotk < 2048)
  | .burstPayloadEnd n slotk ffe dfe dc freq gain thresh phase => decide (n < 48) && decide (slotk < 2048) && decide (ffe < 1766847064778384329583297500742918515827483896875618958121606201292619776) && decide (dfe < 1208925819614629174706176) && decide (dc < 65536) && decide (freq < 65536) && decide (gain < 256) && decide (thresh < 256) && decide (phase < 64)
  | .brstPulse n slotk => decide (n < 48) && decide (slotk < 2048)
  | .fecCodewordDecode n slotk corr _ bip _ => decide (n < 48) && decide (slotk < 2048) && decide (corr < 18446744073709551616) && decide (bip < 33)
  | .idleSpanListen n _ amp _ _ => decide (n < 48) && decide (amp < 256)
  | .discoveryWindowOpen n => decide (n < 48)
  | .snBurstAccept n bits hdr id serial rnd _ _ _ => decide (n < 48) && decide (bits < 18446744073709551616) && decide (hdr < 3) && decide (id < 1024) && decide (serial < 18446744073709551616) && decide (rnd < 16777216)
  | .discoveryWindowEnd n amp _ => decide (n < 48) && decide (amp < 256)
  | .discoveredTimeout n j => decide (n < 48) && decide (j < 256)
  | .rangingBurstAccept n slotk => decide (n < 48) && decide (slotk < 2048)
  | .rangingTimeAck n j _ _ => decide (n < 48) && decide (j < 256)
  | .rangingAckTimeout n j => decide (n < 48) && decide (j < 256)
  | .onuAuthorise b n v => b.ok && decide (n < 48) && decide (v < 4294967296)
  | .onuRerange b n v => b.ok && decide (n < 48) && decide (v < 4294967296)
  | .onuDeactivate b n v => b.ok && decide (n < 48) && decide (v < 4294967296)
  | .onuDisable b n v => b.ok && decide (n < 48) && decide (v < 4294967296)
  | .onuEnable b n v => b.ok && decide (n < 48) && decide (v < 4294967296)
  | .onuRelease b n v => b.ok && decide (n < 48) && decide (v < 4294967296)
  | .huntAbort b n v => b.ok && decide (n < 48) && decide (v < 4294967296)
  | .huntRoundEnd n => decide (n < 48)
  | .traceEnable b v => b.ok && decide (v < 4294967296)
  | .safeEnter b v => b.ok && decide (v < 4294967296)
  | .safeExit b v => b.ok && decide (v < 4294967296)
  | .groupForm b gs e => b.ok && decide (gs < 24) && decide (e < 13407807929942597099574024998205846127479365820592393377723561443721764030073546976801874298166903427690031858186486050853753882811946569946433649006084096)
  | .groupDissolve b gs => b.ok && decide (gs < 24)
  | .groupLineMode b gs mode => b.ok && decide (gs < 24) && decide (mode < 4)
  | .memberDown b v => b.ok && decide (v < 4294967296)
  | .memberRestore b v => b.ok && decide (v < 4294967296)
  | .skewRemeasure b v => b.ok && decide (v < 4294967296)
  | .memberRestoreTimeout gs ms => decide (gs < 24) && decide (ms < 4)
  | .dsFragmentDistribute gs => decide (gs < 24)
  | .usFragmentReceive gs => decide (gs < 24)
  | .fragmentWaitTimeout gs a => decide (gs < 24) && decide (a < 16384)
  | .oamTemplateSend gs => decide (gs < 24)
  | .holdGapDetect k _ _ => decide (k < 2)
  | .holdGapEnd k => decide (k < 2)
  | .protectionCellSend k => decide (k < 2)
  | .protectionCellReceive k h p => decide (k < 2) && cellOk (h, p)
  | .linkSilent k => decide (k < 2)
  | .timeCellSend k => decide (k < 2)
  | .timeCellReceive k h p => decide (k < 2) && cellOk (h, p)
  | .mirrorRecordApply k cells => decide (k < 2) && cells.all cellOk
  | .mirrorDeadline n => decide (n < 48)
  | .acquisitionTimeout n => decide (n < 48)
  | .reqClear b v => b.ok && decide (v < 4294967296)
  | .reqLockout b v => b.ok && decide (v < 4294967296)
  | .reqForced b v => b.ok && decide (v < 4294967296)
  | .reqManual b v => b.ok && decide (v < 4294967296)
  | .reqExercise b v => b.ok && decide (v < 4294967296)
  | .exerciseTimeout n => decide (n < 48)
  | .wtrExpiry n => decide (n < 48)
  | .startTimeout n => decide (n < 48)
  | .holdFault k => decide (k < 2)
  | .pxRoleWrite b n e => b.ok && decide (n < 48) && decide (e < 13407807929942597099574024998205846127479365820592393377723561443721764030073546976801874298166903427690031858186486050853753882811946569946433649006084096)
  | .aztilMessageReceive k cells => decide (k < 2) && cells.all cellOk
  | .dsFrameClassify u _ _ => decide (u < 32)
  | .usFrameClassify n _ _ => decide (n < 48)
  | .clProfileDrainDone => true
  | .bufferAdmit desc _ => decide (desc < 1048576)
  | .releaseRequest handle tag _ _ => decide (handle < 268435456) && decide (tag < 67108864)
  | .freeRequest handle tag _ _ => decide (handle < 268435456) && decide (tag < 67108864)
  | .slackTubReceive => true
  | .dequeueSelect root _ => decide (root < 80)
  | .launchTimeReached a => decide (a < 16384)
  | .flush b v => b.ok && decide (v < 4294967296)
  | .flushDone => true
  | .latencySample q => decide (q < 147456)
  | .dsEncrypt n _ _ => decide (n < 48)
  | .usDecrypt n _ => decide (n < 48)
  | .pauseScanDone pair => decide (pair < 16384)
  | .jobCfbEncrypt f key len addr _ _ _ => decide (f < 16) && decide (key < 65536) && decide (len < 4294967296) && decide (addr < 18446744073709551616)
  | .jobCfbDecrypt f key len addr _ _ _ => decide (f < 16) && decide (key < 65536) && decide (len < 4294967296) && decide (addr < 18446744073709551616)
  | .jobCmacGenerate f key len addr _ _ _ => decide (f < 16) && decide (key < 65536) && decide (len < 4294967296) && decide (addr < 18446744073709551616)
  | .jobCmacVerify f key len addr _ _ _ => decide (f < 16) && decide (key < 65536) && decide (len < 4294967296) && decide (addr < 18446744073709551616)
  | .jobComplete f _ => decide (f < 16)
  | .jobqPiWrite b f v => b.ok && decide (f < 16) && decide (v < 4294967296)
  | .functionLevelReset f => decide (f < 16)
  | .flrDone f => decide (f < 16)
  | .todSet b v => b.ok && decide (v < 4294967296)
  | .todStep b v => b.ok && decide (v < 4294967296)
  | .todRead b => b.ok
  | .sfcLoRead b n => b.ok && decide (n < 48)
  | .oneSecondTick => true
  | .hostOffsetSample b v => b.ok && decide (v < 4294967296)
  | .ptpSyncReceive u transport version domain clockId portNum seq _ sec ns corr => decide (u < 32) && decide (transport < 3) && decide (version < 16) && decide (domain < 256) && decide (clockId < 18446744073709551616) && decide (portNum < 65536) && decide (seq < 65536) && decide (sec < 281474976710656) && decide (ns < 4294967296) && decide (corr < 18446744073709551616)
  | .ptpFollowUpReceive u transport version domain clockId portNum seq sec ns corr => decide (u < 32) && decide (transport < 3) && decide (version < 16) && decide (domain < 256) && decide (clockId < 18446744073709551616) && decide (portNum < 65536) && decide (seq < 65536) && decide (sec < 281474976710656) && decide (ns < 4294967296) && decide (corr < 18446744073709551616)
  | .servoTimeout => true
  | .xtalGate v => decide (v < 4294967296)
  | .tsqPop b u => b.ok && decide (u < 32)
  | .pstateRequest b l v => b.ok && decide (l < 88) && decide (v < 4294967296)
  | .pstateTransitionDone l => decide (l < 88)
  | .clkGoodRise m => decide (m < 179)
  | .adaptRestart b l v => b.ok && decide (l < 88) && decide (v < 4294967296)
  | .adaptDone l => decide (l < 88)
  | .adaptFail l _ => decide (l < 88)
  | .prbsInject b l v => b.ok && decide (l < 88) && decide (v < 4294967296)
  | .prbsClear b l v => b.ok && decide (l < 88) && decide (v < 4294967296)
  | .prbsLost l _ _ => decide (l < 88)
  | .prbsErrLoRead b l _ _ _ => b.ok && decide (l < 88)
  | .ulFrameReceive u _ _ corr _ _ => decide (u < 32) && decide (corr < 18446744073709551616)
  | .ulFrameTransmit u _ _ => decide (u < 32)
  | .linkUp u => decide (u < 32)
  | .linkDown u _ _ _ _ => decide (u < 32)
  | .refclkDetect refRate => decide (refRate < 3)
  | .refclkLoss => true
  | .reflLock => true
  | .clockFailure src _ => decide (src < 35)
  | .xtalBFailure _ => true
  | .xtalBReturn => true
  | .sysLock => true
  | .sourceSwitch b m src => b.ok && decide (m < 179) && decide (src < 35)
  | .sourceSwitchDone m => decide (m < 179)
  | .deadSource m _ => decide (m < 179)
  | .gateRequest b m => b.ok && decide (m < 179)
  | .gateComplete m => decide (m < 179)
  | .gateTimeout m => decide (m < 179)
  | .ungate b m => b.ok && decide (m < 179)
  | .clockFailClear b v locked _ => b.ok && decide (v < 4294967296) && decide (locked < 131072)
  | .feedStateChange feed mag _ => decide (feed < 2) && decide (mag < 65536)
  | .feedUsable feed => decide (feed < 2)
  | .lastWordStart magA magB lid => decide (magA < 65536) && decide (magB < 65536) && decide (lid < 65536)
  | .lastWordRecordDone => true
  | .holdupOk _ => true
  | .lwArmed => true
  | .powerOnReset _ => true
  | .rstNAssert => true
  | .rstNRelease => true
  | .pcieHotReset => true
  | .resetCold b v => b.ok && decide (v < 4294967296)
  | .resetWarm b v => b.ok && decide (v < 4294967296)
  | .resetDomain b v => b.ok && decide (v < 4294967296)
  | .releaseEscalated b v => b.ok && decide (v < 4294967296)
  | .domainResetDone m => decide (m < 179)
  | .releaseStep => true
  | .watchdogKick b v => b.ok && decide (v < 4294967296)
  | .watchdogWarn => true
  | .watchdogExpiry => true
  | .calCommit b v => b.ok && decide (v < 4294967296)
  | .calReload b v => b.ok && decide (v < 4294967296)
  | .calDone _ => true
  | .quenchNAssert => true
  | .qrelWrite b v => b.ok && decide (v < 4294967296)
  | .lockstepMismatch sig => decide (sig < 65536)
  | .cmpTest b v => b.ok && decide (v < 4294967296)
  | .cmpTestDone _ => true
  | .holdOutputMismatch k => decide (k < 2)
  | .thermalSample sensor _ => decide (sensor < 32)
  | .faultEvent cls unit _ detail => decide (cls < 64) && decide (unit < 256) && decide (detail < 4294967296)
  | .faultWindowClose cls unit => decide (cls < 64) && decide (unit < 256)
  | .lastingExpiry cls unit => decide (cls < 64) && decide (unit < 256)
  | .coalIntervalEnd cls unit => decide (cls < 64) && decide (unit < 256)
  | .ftClear b v => b.ok && decide (v < 4294967296)
  | .ftInject b v => b.ok && decide (v < 4294967296)
  | .txRingDoorbell b f r v => b.ok && decide (f < 16) && decide (r < 8) && decide (v < 4294967296)
  | .rxRingConsume b f x v _ => b.ok && decide (f < 16) && decide (x < 8) && decide (v < 4294967296)
  | .txFlowFrame f r target _ tsMode tsId tsOfs udpOfs _ pSec pNs => decide (f < 16) && decide (r < 8) && decide (target < 4294967296) && decide (tsMode < 4) && decide (tsId < 65536) && decide (tsOfs < 65536) && decide (udpOfs < 65536) && decide (pSec < 4294967296) && decide (pNs < 4294967296)
  | .txAggFrame f r target _ tsMode tsId tsOfs udpOfs _ pSec pNs => decide (f < 16) && decide (r < 8) && decide (target < 4294967296) && decide (tsMode < 4) && decide (tsId < 65536) && decide (tsOfs < 65536) && decide (udpOfs < 65536) && decide (pSec < 4294967296) && decide (pNs < 4294967296)
  | .txPloam f r target len onuId _ _ _ => decide (f < 16) && decide (r < 8) && decide (target < 4294967296) && decide (len < 4294967296) && decide (onuId < 1024)
  | .txOmci f r target _ _ => decide (f < 16) && decide (r < 8) && decide (target < 4294967296)
  | .txAztilMessage f r target _ _ => decide (f < 16) && decide (r < 8) && decide (target < 4294967296)
  | .hostAggDequeue f _ _ => decide (f < 16)
  | .dmaError f slot i _ _ => decide (f < 16) && decide (slot < 16) && decide (i < 8192)
  | .ringCoalesceTimeout f slot => decide (f < 16) && decide (slot < 16)
  | .pcieLinkChange _ rate width => decide (rate < 6) && decide (width < 9)
  | .hiErrCntRead b => b.ok
  | .hiOmciDropRead b => b.ok
  | .pmSnap b g v => b.ok && decide (g < 128) && decide (v < 4294967296)
  | .pmCntLoRead b g c _ => b.ok && decide (g < 128) && decide (c < 32)
  | .cvAlgWrite b cv v => b.ok && decide (cv < 8) && decide (v < 4294967296)
  | .cvStart b cv v => b.ok && decide (cv < 8) && decide (v < 4294967296)
  | .cvData8 b cv v => b.ok && decide (cv < 8) && decide (v < 4294967296)
  | .cvData16 b cv v => b.ok && decide (cv < 8) && decide (v < 4294967296)
  | .cvData32 b cv v => b.ok && decide (cv < 8) && decide (v < 4294967296)
  | .cvStatRead b cv => b.ok && decide (cv < 8)
  | .quenchNRelease => true
  | .prbsLock l => decide (l < 88)
  | .prbsInjectDone l => decide (l < 88)
  | .soscFailure => true
  | .opticBusError bus => decide (bus < 12)
  | .pcieUncorrectableError => true
  | .inputCurrentHigh cur => decide (cur < 65536)
  | .aztilMessageAck k id _ => decide (k < 2) && decide (id < 65536)

end Sys2Proof
end

