-- ==== Sys2Proof/Machine/Settle.lean ====
section
/-! DEFINITION. FT: what follows in the same step from the events that a step reports (R410–R418, R469), and the form
that every command's meaning has (`State.run`). -/

namespace Sys2Proof.Machine

/-- What FT keeps for a key that has had no event. -/
def FtKey.init : FtKey := { wStart := 0, wMs := 0, wN := 0, coal := none }

/-- Index of an FT_INST entry (R419). -/
def ftIdx (cls unit : Nat) : Nat := cls * 256 + unit

/-- What FT keeps for a key. -/
def Dev.ftKey (d : Dev) (cls unit : Nat) : FtKey := d.ft.keys.get FtKey.init (ftIdx cls unit)

/-- Set what FT keeps for a key. -/
def Dev.setFtKey (d : Dev) (cls unit : Nat) (v : FtKey) : Dev :=
  { d with ft := { d.ft with keys := d.ft.keys.put FtKey.init (ftIdx cls unit) v } }

/-- The lasting state of a key, if it is in force. -/
def Dev.lastingAt (d : Dev) (cls unit : Nat) : Option Lasting :=
  d.ft.lasting.find? (fun l => l.cls == cls && l.unit == unit)

/-- Set the lasting states. -/
def Dev.setLasting (d : Dev) (v : List Lasting) : Dev := { d with ft := { d.ft with lasting := v } }

/-- Tenant carried by a record: the unit of classes 21 to 28. -/
def ftTenant (cls unit : Nat) : Nat := if 21 ≤ cls ∧ cls ≤ 28 then unit else 0

/-- What a record holds beside its sequence number and its count of dropped records. -/
structure FtRec where
  cls : Nat
  unit : Nat
  kind : Nat
  act : Nat
  count : Nat
  bitmap : Nat
  sec : Nat
  ns : Nat
  detail : Nat
  lasting : Bool
  inj : Bool
  deriving DecidableEq, Repr

/-- Write an event record (R418, Table FLT–6): stored at FT_RING_PI, or dropped while the ring is full. -/
def Dev.ftRecord (d : Dev) (r : FtRec) : Dev :=
  let pi := d.rd .ft FT_RING_PI.PI
  if (pi + 8192 - d.rd .ft FT_RING_CI.CI) % 8192 = 4096 then (d.sat .ft FT_DROPPED.COUNT).raise .ft 2
  else
    let i := pi % 4096
    let d1 := d.wrTs .ftEvent i
      [(FT_EVENT.BITMAP, r.bitmap), (FT_EVENT.SEC, r.sec), (FT_EVENT.NS, r.ns), (FT_EVENT.COUNT, r.count),
       (FT_EVENT.DROPPED, d.rd .ft FT_DROPPED.COUNT), (FT_EVENT.DETAIL, r.detail), (FT_EVENT.INST, r.unit),
       (FT_EVENT.CLASS, r.cls), (FT_EVENT.KIND, r.kind), (FT_EVENT.ACT, r.act),
       (FT_EVENT.TENANT, ftTenant r.cls r.unit), (FT_EVENT.LASTING, r.lasting.toNat), (FT_EVENT.INJ, r.inj.toNat),
       (FT_EVENT.SEQ, d.ft.seq)]
    let d2 := (d1.wrs .ft [(FT_DROPPED.COUNT, 0), (FT_RING_PI.PI, (pi + 1) % 8192)]).raise .ft 1
    let d3 := { d2 with ft := { d2.ft with seq := (d2.ft.seq + 1) % 2 ^ 32 } }
    if d3.on .ft FT_CTRL.RING_MSG then
      d3.rxOrDrop 0 { cls := 5, reason := 0, source := 0, ts := none, epoch := d3.epoch 0,
                      bytes := leBytes 64 (d3.entry .ftEvent i) }
    else d3

/-- The record of a coalescing interval that ends (R417, KIND 1). -/
def Dev.ftCoalEnd (d : Dev) (cls unit : Nat) : Dev :=
  let k := d.ftKey cls unit
  match k.coal with
  | none => d
  | some c =>
    (d.setFtKey cls unit { k with coal := none }).ftRecord
      { cls := cls, unit := unit, kind := 1, act := if c.lasting then c.act else 0,
        count := c.count, bitmap := c.bitmap, sec := c.sec, ns := c.ns, detail := c.detail, lasting := c.lasting,
        inj := c.inj }

/-- The record of the onset (KIND 2) or of the end (KIND 3) of a lasting state (R417).  No interval belongs to it:
COUNT and BITMAP are 0, and the time is that of the onset or of the end (DESIGN CHOICE, log 16). -/
def Dev.ftLastRec (d : Dev) (cls unit kind act detail : Nat) (inj : Bool) : Dev :=
  d.ftRecord { cls := cls, unit := unit, kind := kind, act := act, count := 0, bitmap := 0,
               sec := d.time.sec % 2 ^ 32, ns := d.time.ns, detail := detail, lasting := false, inj := inj }

/-- The action with which a key of a class becomes lasting: on lanes 80 to 87 actions 2 and 5 are taken as 1 (R413). -/
def Dev.ftAction (d : Dev) (cls unit : Nat) : Nat :=
  let a := d.rdT .ftClass cls FT_CLASS.ACTION
  if (ftRow cls).scope = 3 ∧ 80 ≤ unit ∧ (a = 2 ∨ a = 5) then 1 else a

/-- The clock domain of a unit of a scope that action 5 may hold (R469): TE n, lane, UL port. -/
def ftDomain (scope unit : Nat) : Option Nat :=
  if scope = 2 then some (11 + unit) else if scope = 3 then some (59 + unit) else if scope = 4 then some (147 + unit)
  else none

/-- Retire a lane or a port (Table FLT–2): the lane leaves for L2, the port's link falls. -/
def Dev.ftRetire (d : Dev) (scope unit : Nat) : Dev :=
  if scope = 3 then d.laneKick unit else if scope = 4 then d.linkFall unit else d

/-- Give up the trees of an Aztil link (Table FLT–2, R413). -/
def Dev.ftGiveLink (d : Dev) (k : Nat) : Dev := (d.linkTrees k).foldl (fun d n => d.giveUp n 4) d

/-- Apply an action at the onset of a lasting state, beside what `Flags.lean` derives from the state itself
(Table FLT–2, R413, R403, R469). -/
def Dev.ftAct (d : Dev) (scope unit act : Nat) : Dev :=
  match act with
  | 2 => d.ftRetire scope unit
  | 3 =>
    if scope = 2 then d.giveUp unit 4
    else if scope = 3 then
      if unit < 48 then d.giveUp unit 4 else if 80 ≤ unit then d.ftGiveLink ((unit - 80) / 4) else d.ftRetire scope unit
    else if scope = 4 then d.ftRetire scope unit
    else if scope = 5 then d.ftGiveLink unit
    else d.giveUpAll
  | 4 => (d.wr .rs RS_KEYS.QREL 0).giveUpAll
  | 5 =>
    match ftDomain scope unit with
    | some k => d.holdDomain k
    | none => d
  | _ => d

/-- The response that another rule fixes at the onset of a class (R414): safe-map mode (R167), isolation of the ONU
that the event names (R123), the rogue hunt (R123, R124).  What is decided while the sequencer holds (R126) waits for the
end of the hold; an isolation decided on a standby, which commits nothing (R121), waits for its takeover (DESIGN CHOICE,
log 70). -/
def Dev.ftFixed (d : Dev) (e : FtEv) : Dev :=
  if e.cls = 33 then d.setHy e.unit { d.hy e.unit with safeReq := true }
  else if e.cls = 37 then
    match e.onu with
    | some j => ((d.raise (.te e.unit 2) 3).plan e.unit (Trans.plain j 5 12 2)).commitNow e.unit
    | none => d.raise (.te e.unit 2) 3
  else if e.cls = 38 then
    let d1 := d.raise (.te e.unit 2) 3
    if !d1.on (.te e.unit 2) TE_ROGUE_CFG.HUNT_EN || d1.standby e.unit then d1
    else if d1.takes (.te e.unit 2) then (d1.huntStart e.unit).commitNow e.unit
    else d1.setSq e.unit { d1.sq e.unit with huntHeld := true }
  else d

/-- The trees whose key A an action on a unit may take. -/
def ftTrees (scope unit : Nat) : List Nat :=
  if scope = 2 then [unit] else if scope = 3 ∧ unit < 48 then [unit] else List.range 48

/-- A key becomes lasting (R410): its state, LASTING when the action is at least 1, the KIND 2 record of a class
without coalesced records, the action and the fixed response. -/
def Dev.ftOnset (d : Dev) (e : FtEv) : Dev :=
  let a := d.ftAction e.cls e.unit
  let l : Lasting :=
    { cls := e.cls, unit := e.unit, act := a, lastEv := d.now, wMs := d.rdT .ftClass e.cls FT_CLASS.W_MS }
  let d1 := d.setLasting (d.ft.lasting ++ [l])
  let d2 := d1.wrTs .ftInst (ftIdx e.cls e.unit) [(FT_INST.LASTING, 1), (FT_INST.ACT, a)]
  let d3 := if 1 ≤ a then d2.raise .ft 0 else d2
  let d4 := if d3.onT .ftClass e.cls FT_CLASS.REC then d3 else d3.ftLastRec e.cls e.unit 2 a e.detail e.inj
  let sc := (ftRow e.cls).scope
  let d5 := (ftTrees sc e.unit).foldl (fun (x : Dev) n => d.watchFrom n x) (d4.ftAct sc e.unit a)
  d5.ftFixed e

/-- Count an event in the coalescing interval of its key, opening one where REC is 1 (R417). -/
def Dev.ftCoal (d : Dev) (e : FtEv) (lasting : Bool) : Dev :=
  let k := d.ftKey e.cls e.unit
  let m := match e.onu with | some j => 2 ^ j | none => 0
  match k.coal with
  | some c =>
    let c2 : Coal := { c with count := min (c.count + 1) 65535, bitmap := c.bitmap ||| m,
                              lasting := c.lasting || lasting,
                              act := if lasting then d.ftAction e.cls e.unit else c.act, inj := c.inj || e.inj }
    d.setFtKey e.cls e.unit { k with coal := some c2 }
  | none =>
    if d.onT .ftClass e.cls FT_CLASS.REC then
      let c : Coal :=
        { start := d.now, sec := d.time.sec % 2 ^ 32, ns := d.time.ns, count := 1, bitmap := m, detail := e.detail,
          tenant := e.tenant, lasting := lasting, act := d.ftAction e.cls e.unit, inj := e.inj }
      d.setFtKey e.cls e.unit { k with coal := some c }
    else d

/-- One event reaches FT (R410, R417): TOTAL, the window, the coalescing interval, and the onset when the count stands
at N or above in a key that is not lasting. -/
def Dev.ftEvent (d : Dev) (e : FtEv) : Dev :=
  let i := ftIdx e.cls e.unit
  let d1 := d.satT .ftInst i FT_INST.TOTAL
  let d2 :=
    if d1.onT .ftInst i FT_INST.WOPEN then d1.satT .ftInst i FT_INST.WCOUNT
    else
      (d1.wrTs .ftInst i [(FT_INST.WOPEN, 1), (FT_INST.WCOUNT, 1)]).setFtKey e.cls e.unit
        { d1.ftKey e.cls e.unit with wStart := d.now, wMs := d.rdT .ftClass e.cls FT_CLASS.W_MS,
                                     wN := d.rdT .ftClass e.cls FT_CLASS.N }
  let on := (d2.lastingAt e.cls e.unit).isNone && (d2.ftKey e.cls e.unit).wN ≤ d2.rdT .ftInst i FT_INST.WCOUNT
  let d3 := d2.setLasting
    (d2.ft.lasting.map (fun l => if l.cls = e.cls ∧ l.unit = e.unit then { l with lastEv := d.now } else l))
  let d4 := d3.ftCoal e on
  if on then d4.ftOnset e else d4

/-- Whether one event comes before another of the same cycle (R412). -/
def FtEv.before (a b : FtEv) : Bool := a.cls < b.cls || (a.cls == b.cls && a.unit < b.unit)

/-- Put an event at its place. -/
def ftInsert (e : FtEv) : List FtEv → List FtEv
  | [] => [e]
  | x :: t => if e.before x then e :: x :: t else x :: ftInsert e t

/-- Events of one step in ascending class and unit order (R412). -/
def ftSort (l : List FtEv) : List FtEv := l.foldl (fun acc e => ftInsert e acc) []

/-- No event waits in FT. -/
def Dev.quiet (d : Dev) : Dev := { d with ft := { d.ft with queue := [] } }

/-- Apply the events of a step, and those that applying them reports; FT counts none while SUP is in reset.  A round
reports further events only where a key becomes lasting, so the bound on the rounds is never reached. -/
def Dev.settleN : Nat → Dev → Dev
  | 0, d => d.quiet
  | k + 1, d =>
    if d.ft.queue = [] then d
    else if d.domInReset 1 then d.quiet
    else Dev.settleN k ((ftSort d.ft.queue).foldl Dev.ftEvent d.quiet)

/-- Apply the events of a step. -/
def Dev.settle (d : Dev) : Dev := d.settleN 16

/-- Whether another lasting state holds a domain (R469). -/
def Dev.ftHolds (d : Dev) (k : Nat) : Bool :=
  d.ft.lasting.any (fun l => l.act == 5 && ftDomain (ftRow l.cls).scope l.unit == some k)

/-- A lasting state ends (R411): it is withdrawn, ENDED is raised, a KIND 3 record is written, and its unit is freed: a
lane leaves L2 again, a held domain is released once no other state holds it (R469). -/
def Dev.ftEnd (d : Dev) (cls unit : Nat) : Dev :=
  match d.lastingAt cls unit with
  | none => d
  | some l =>
    let d1 := d.setLasting (d.ft.lasting.filter (fun x => !(x.cls == cls && x.unit == unit)))
    let d2 := d1.wrTs .ftInst (ftIdx cls unit) [(FT_INST.LASTING, 0), (FT_INST.ACT, 0)]
    let d3 := (d2.raise .ft 3).ftLastRec cls unit 3 l.act 0 false
    let sc := (ftRow cls).scope
    if l.act = 5 then
      match ftDomain sc unit with
      | some k => if d3.ftHolds k then d3 else d3.reachRelease k
      | none => d3
    else if sc = 3 then d3.laneKick unit
    else d3

/-! ## The form of a meaning -/

/-- Run a command whose effect on the device is `f`: events it reports are applied in the same step.  A command that
names a unit or a value that does not exist is no event of this hardware (R3). -/
def State.run (c : Instr) (f : Dev → Dev) (s : State) : Host.Outcome State Fault Refusal :=
  if c.wellFormed then .next { s with dev := (f s.dev).settle } else .fault .noSuchUnit

end Sys2Proof.Machine
end

