-- ==== Sys2Proof/Machine/BufOps.lean ====
section
/-! DEFINITION. The buffer pools' shared operations: pools and descriptors, owner tags, accounts, the slack tub, and
the resolution of a request to return a reference (R238–R251). -/

namespace Sys2Proof.Machine

/-- Set the buffer pools. -/
def Dev.setBp (d : Dev) (v : Bp) : Dev := { d with path := { d.path with bp := v } }
/-- Set the scheduler. -/
def Dev.setSc (d : Dev) (v : Sched) : Dev := { d with path := { d.path with sc := v } }
/-- Set the cipher engine. -/
def Dev.setCx (d : Dev) (v : Cx) : Dev := { d with path := { d.path with cx := v } }

/-! ## Pools and descriptors (R238–R240) -/

/-- The pool of a stored length: the first whose buffer size holds it (Table BUF–1). -/
def poolOf (len : Nat) : Nat :=
  if len ≤ 128 then 0 else if len ≤ 512 then 1 else if len ≤ 2048 then 2 else if len ≤ 9728 then 3 else 4

/-- Buffer size of a pool (Table BUF–1). -/
def poolSize (p : Nat) : Nat :=
  if p = 0 then 128 else if p = 1 then 512 else if p = 2 then 2048 else if p = 3 then 9728 else 16384

/-- SRAM buffers of a pool. -/
def Dev.poolSram (d : Dev) (p : Nat) : Nat := d.rdT .bpPoolCfg p BP_POOL_CFG.SRAM_BUFS
/-- Buffers of a pool in both tiers. -/
def Dev.poolAll (d : Dev) (p : Nat) : Nat := d.poolSram p + d.rdT .bpPoolCfg p BP_POOL_CFG.HBM_BUFS

/-- The first descriptor of a pool (R240). -/
def Dev.poolBase (d : Dev) (p : Nat) : Nat := (List.range p).foldl (fun s q => s + d.poolAll q) 0

/-- Pool and tier (0 SRAM, 1 HBM) of a descriptor; `none` beyond the last pool's last. -/
def Dev.descAt (d : Dev) (i : Nat) : Option (Nat × Nat) :=
  ((List.range 5).find? (fun p => d.poolBase p ≤ i && i < d.poolBase p + d.poolAll p)).map
    (fun p => (p, if i < d.poolBase p + d.poolSram p then 0 else 1))

/-- The count of free buffers of a pool in a tier. -/
def freeFld (tier : Nat) : Fld := if tier = 0 then BP_POOL_CFG.FREE_SRAM else BP_POOL_CFG.FREE_HBM

/-- The tier that a pool's next buffer comes from (R240); `none` when the pool is empty. -/
def Dev.tierOf (d : Dev) (p : Nat) : Option Nat :=
  if d.onT .bpPoolCfg p BP_POOL_CFG.FREE_SRAM then some 0
  else if d.onT .bpPoolCfg p BP_POOL_CFG.FREE_HBM then some 1 else none

/-- Whether descriptor `i` is free and lies in the pool and tier. -/
def Dev.descFree (d : Dev) (i p tier : Nat) : Bool :=
  d.descAt i == some (p, tier) && d.rdT .bpDesc i BP_DESC.REFCNT == 0 && !d.path.bp.retired.contains i

/-- Handle of descriptor `i` as it stands (R243). -/
def Dev.handleOf (d : Dev) (i : Nat) : Nat := d.rdT .bpDesc i BP_DESC.GEN * 1048576 + i

/-- Descriptor index of a handle. -/
def handleIdx (h : Nat) : Nat := h % 1048576

/-- The packet in the buffer that a handle names. -/
def Dev.pkt (d : Dev) (h : Nat) : Option Pkt := d.path.bp.pkt.get none (handleIdx h)

/-- The bytes of the packet that a handle names: no reader sees more than LEN of the buffer (R241). -/
def Dev.pktBytes (d : Dev) (h : Nat) : List Byte :=
  match d.pkt h with
  | some p => p.bytes.take (d.rdT .bpDesc (handleIdx h) BP_DESC.LEN)
  | none => []

/-! ## Owner tags (R242, R468) -/

/-- How many of the low `k` bits are ones. -/
def ones (k v : Nat) : Nat := (List.range k).foldl (fun s i => s + bit v i) 0

/-- An owner tag: KIND, TENANT and INDEX with its parity (Table BUF–2). -/
def mkTag (kind tenant index : Nat) : Nat :=
  let b := kind * 2 ^ 22 + tenant * 2 ^ 18 + index
  b + ones 25 b % 2 * 2 ^ 25

/-- The parity of a tag fits. -/
def tagFits (t : Nat) : Bool := ones 26 t % 2 == 0
/-- KIND of a tag. -/
def tagKind (t : Nat) : Nat := t / 2 ^ 22 % 8
/-- TENANT of a tag. -/
def tagTenant (t : Nat) : Nat := t / 2 ^ 18 % 16
/-- INDEX of a tag. -/
def tagIndex (t : Nat) : Nat := t % 2 ^ 18

/-- Index of a flow's or an aggregate's queue (Table SCH–1). -/
def aggQ (a : Nat) : Nat := 131072 + a

/-- A queue. -/
def Dev.queue (d : Dev) (q : Nat) : Queue := d.path.sc.q.get Queue.init q

/-- Set a queue. -/
def Dev.setQueue (d : Dev) (q : Nat) (v : Queue) : Dev :=
  d.setSc { d.path.sc with q := d.path.sc.q.put Queue.init q v }

/-- The tenant of the tag kept with a flow queue (R468): CL_FLOW's while it is empty. -/
def Dev.flowTenant (d : Dev) (f : Nat) : Nat :=
  if (d.queue f).frames = [] then d.rdT .clFlow f CL_FLOW.TENANT else (d.queue f).tenant

/-- The RX ring that takes a tenant's processor copies, 0 to 7. -/
def Dev.copyRing (d : Dev) (t : Nat) : Nat := ((d.rxRing t 1).getD 8) - 8

/-- The owner tag kept with a target. -/
def Dev.targetTag (d : Dev) (t : Target) : Nat :=
  match t with
  | .flow f => mkTag 1 (d.flowTenant f) f
  | .agg a => mkTag 2 (d.rdT .scAgg a SC_AGG.TENANT) a
  | .ring f _ => mkTag 3 f (d.copyRing f)
  | .foreign _ => mkTag 4 0 0
  | .template g => mkTag 5 0 g

/-! ## Accounts (R251) -/

/-- The account of tenant t and port index k. -/
def acctOf (t k : Nat) : Nat := t * 88 + k

/-- Port index of an aggregate's buffers: its uplink port, or 80 for a host aggregate. -/
def Dev.aggPortIdx (d : Dev) (a : Nat) : Nat := if 16368 ≤ a then 80 else 48 + d.rdT .scAgg a SC_AGG.PORT

/-- The account a buffer is charged to, by its first holder. -/
def Dev.acctFor (d : Dev) (t : Target) : Nat :=
  match t with
  | .flow f => acctOf (d.flowTenant f) (d.rdT .clFlow f CL_FLOW.TREE)
  | .agg a => acctOf (d.rdT .scAgg a SC_AGG.TENANT) (d.aggPortIdx a)
  | .ring f _ => acctOf f (80 + d.copyRing f)
  | .foreign f => acctOf (d.rdT .clFlow f CL_FLOW.TENANT) (d.rdT .clFlow f CL_FLOW.TREE)
  | .template g => acctOf 0 (48 + d.rdT .bdGroup g BD_GROUP.UPLINK)

/-- The account of the requester that a tag names (R248): one that is no queue, ring or template is counted against
T0's account for the port of the descriptor. -/
def Dev.acctOfTag (d : Dev) (tag i : Nat) : Nat :=
  match tagKind tag with
  | 1 => acctOf (tagTenant tag) (d.rdT .clFlow (tagIndex tag) CL_FLOW.TREE)
  | 2 => acctOf (tagTenant tag) (d.aggPortIdx (tagIndex tag))
  | 3 => acctOf (tagTenant tag) (80 + tagIndex tag % 8)
  | 5 => acctOf 0 (48 + d.rdT .bdGroup (tagIndex tag) BD_GROUP.UPLINK)
  | _ => acctOf 0 (d.rdT .bpDesc i BP_DESC.ACCT % 88)

/-- The listed values of a field over all entries of a table. -/
def Dev.listedT (d : Dev) (t : Tbl) (f : Fld) : List (Nat × Nat) :=
  (d.tbls.filter (fun e => e.1 / 536870912 == t.num && e.1 % 512 == f.lo)).map (fun e => (e.1 / 512 % 1048576, e.2))

/-- The sum of the reserves of every account in a pool. -/
def Dev.resSum (d : Dev) (p : Nat) : Nat := (d.listedT .bpAccount (BP_ACCOUNT.RES p)).foldl (fun s e => s + e.2) 0

/-- SHARED_USED of a pool (R252). -/
def Dev.sharedUsed (d : Dev) (p : Nat) : Nat :=
  (d.listedT .bpAccount (BP_ACCOUNT.USE p)).foldl (fun s e => s + (e.2 - d.rdT .bpAccount e.1 (BP_ACCOUNT.RES p))) 0

/-- The decision on admitting a buffer of pool `p` to account `a` (R252, R253, R256): 0 from reserve, 1 from the shared
region or under MODE = 1, 2 account maximum, 3 shared full, 4 pool empty: the counter entries of Table BUF–9. -/
def Dev.admission (d : Dev) (a p : Nat) : Nat :=
  let use := d.rdT .bpAccount a (BP_ACCOUNT.USE p)
  let c :=
    if d.poolAll p = 0 then 4
    else if d.on (.bp 0) BP_CTRL.MODE then 1
    else if use < d.rdT .bpAccount a (BP_ACCOUNT.RES p) then 0
    else if d.rdT .bpAccount a (BP_ACCOUNT.MAX p) ≤ use then 2
    else if d.poolAll p - d.resSum p ≤ d.sharedUsed p then 3
    else 1
  if c ≤ 1 ∧ (d.tierOf p).isNone then 4 else c

/-! ## The slack tub (R249) -/

/-- Write a record of the tub log (Table BUF–10): it stops at 64 records, or overwrites the oldest. -/
def Dev.tubLog (d : Dev) (reason handle expected found : Nat) : Dev :=
  let n := d.rd (.bp 0) BP_STAT.TUB_COUNT
  let put (d : Dev) (i : Nat) : Dev := d.wrTs .bpTubLog i
    [(BP_TUB_LOG.REASON, reason), (BP_TUB_LOG.HANDLE, handle), (BP_TUB_LOG.EXPECTED, expected),
     (BP_TUB_LOG.FOUND, found), (BP_TUB_LOG.TIME, d.us)]
  if n < 64 then
    let d1 := (put d n).wr (.bp 0) BP_STAT.TUB_COUNT (n + 1)
    if n = 63 ∧ !d.on (.bp 0) BP_CTRL.TUB_WRAP then (d1.wr (.bp 0) BP_STAT.TUB_FULL 1).raise (.bp 0) 4 else d1
  else if d.on (.bp 0) BP_CTRL.TUB_WRAP then
    (put d d.path.bp.tubAt).setBp { d.path.bp with tubAt := (d.path.bp.tubAt + 1) % 64 }
  else d

/-- Hand a reference to the slack tub. -/
def Dev.toTub (d : Dev) (r : TubRef) : Dev := d.setBp { d.path.bp with tub := d.path.bp.tub ++ [r] }

/-- A holder is done with a buffer: its RELEASE reaches the pools. -/
def Dev.release (d : Dev) (handle tag : Nat) : Dev :=
  d.setBp { d.path.bp with reqs := d.path.bp.reqs ++ [{ free := false, handle := handle, tag := tag }] }

/-! ## Returning a reference (R246–R250) -/

/-- A request is rejected (R248): recorded in BP_ERR, counted, raised, and a separation failure of the requester's
tenant: code 1 double free, 2 foreign free. -/
def Dev.bpReject (d : Dev) (code handle tag : Nat) : Dev :=
  let a := d.acctOfTag tag (handleIdx handle)
  let d1 := d.wrs (.bp 0) [(BP_ERR.CODE, code), (BP_ERR.HANDLE, handle), (BP_ERR_REQ.TAG, tag)]
  let d2 := (d1.cnt .bpAcctCnt (a * 8 + 4 + code)).cnt .bpAcctCnt (a * 8 + 7)
  (d2.raise (.bp 0) (code - 1)).sep (tagTenant tag) (4 + code) handle

/-- The last reference goes (Table BUF–4, FREE): buffer and descriptor return to their pool, the account is credited; the
buffer is not cleared (R241). -/
def Dev.bpFree (d : Dev) (i : Nat) : Dev :=
  match d.descAt i with
  | none => d
  | some (p, tier) =>
    let a := d.rdT .bpDesc i BP_DESC.ACCT
    let d1 := d.wrTs .bpDesc i [(BP_DESC.REFCNT, 0), (BP_DESC.LAST, 0), (BP_DESC.HOLDER_A, 0), (BP_DESC.HOLDER_B, 0)]
    let d2 := d1.wrT .bpAccount a (BP_ACCOUNT.USE p) (d.rdT .bpAccount a (BP_ACCOUNT.USE p) - 1)
    d2.wrT .bpPoolCfg p (freeFld tier) (d.rdT .bpPoolCfg p (freeFld tier) + 1)

/-- A descriptor read fails its check (R250, R306): the descriptor and its buffer are retired. -/
def Dev.bpRetire (d : Dev) (handle tag : Nat) : Dev :=
  let i := handleIdx handle
  match d.descAt i with
  | none => d
  | some (p, tier) =>
    let wasFree := d.rdT .bpDesc i BP_DESC.REFCNT == 0
    let d1 := d.setBp { d.path.bp with retired := d.path.bp.retired ++ [i] }
    let d2 := d1.wrT .bpDesc i BP_DESC.REFCNT 0
    let d3 := if wasFree then d2.wrT .bpPoolCfg p (freeFld tier) (d.rdT .bpPoolCfg p (freeFld tier) - 1) else d2
    let d4 := d3.addT .bpPoolCfg p BP_POOL_CFG.RETIRED
    (((d4.tubLog 6 handle tag 0).raise (.bp 0) 3).report 18 0 handle).memError .bpDesc i

/-- A buffer's data is uncorrectable (R250, R306): reported as packet data, which counts the drop (DEDUCED, log 78), and as
an error of the memory of its tier; which HBM stack holds a buffer is the implementation's (log 78). -/
def Dev.dataError (d : Dev) (handle : Nat) : Dev :=
  let i := handleIdx handle
  let d1 := d.report 19 0 handle
  match d.descAt i with
  | some (_, 1) => d1.report 17 (Config.hbmStack i % 2) i
  | _ => d1.report 15 0 (2 ^ 32 - 2 ^ 18 + i % 2 ^ 18)

/-- Resolve a request by the first row of Table BUF–4 that applies. -/
def Dev.bpResolve (d : Dev) (free : Bool) (handle tag : Nat) (damaged : Bool) : Dev :=
  let i := handleIdx handle
  let refs := d.rdT .bpDesc i BP_DESC.REFCNT
  let isA := tagFits tag && d.rdT .bpDesc i BP_DESC.HOLDER_A == tag
  let isB := tagFits tag && d.rdT .bpDesc i BP_DESC.HOLDER_B == tag && tag != 0
  if d.path.bp.retired.contains i then d.bpReject 1 handle tag
  else if damaged then d.bpRetire handle tag
  else if d.rdT .bpDesc i BP_DESC.GEN ≠ handle / 1048576 ∨ refs = 0 then d.bpReject 1 handle tag
  else if !isA && !isB then d.bpReject 2 handle tag
  else if refs = 2 then
    if free then d.bpReject 2 handle tag
    else if isA then d.wrTs .bpDesc i [(BP_DESC.REFCNT, 1), (BP_DESC.HOLDER_A, 0), (BP_DESC.LAST, 2)]
    else d.wrTs .bpDesc i [(BP_DESC.REFCNT, 1), (BP_DESC.HOLDER_B, 0), (BP_DESC.LAST, 1)]
  else if (isA && d.rdT .bpDesc i BP_DESC.LAST == 1) || (isB && d.rdT .bpDesc i BP_DESC.LAST == 2) then d.bpFree i
  else d.bpReject 2 handle tag

/-- Take the first waiting request that equals the one presented. -/
def takeReq (r : BpReq) : List BpReq → List BpReq
  | [] => []
  | x :: t => if x = r then t else x :: takeReq r t

/-- The place of a request among those of its cycle (R247): RELEASE before FREE, HOLDER_A before HOLDER_B, judged by the
descriptor as it stands; what matches neither holder comes last (DEDUCED, log 79). -/
def Dev.reqRank (d : Dev) (r : BpReq) : Nat :=
  let i := handleIdx r.handle
  let k := if r.free then 2 else 0
  if d.rdT .bpDesc i BP_DESC.HOLDER_A = r.tag then k
  else if d.rdT .bpDesc i BP_DESC.HOLDER_B = r.tag then k + 1 else 4

/-- The requests of a cycle on one descriptor are resolved, one after another in the order of R247. -/
def Dev.bpCycle (d : Dev) : Dev :=
  let l := (List.range 5).flatMap (fun k => d.path.bp.cycle.filter (fun e => d.reqRank e.1 == k))
  l.foldl (fun (x : Dev) e => x.bpResolve e.1.free e.1.handle e.1.tag e.2) (d.setBp { d.path.bp with cycle := [] })

/-- A request reaches the pools, leaving their input where a hardware holder sent it.  With `more`, another one on the same
descriptor reaches them in the same cycle, and they are resolved together (log 79); one on another descriptor shows that
the cycle before is over. -/
def Dev.bpRequest (free : Bool) (handle tag : Nat) (damaged more : Bool) (d : Dev) : Dev :=
  let r : BpReq := { free := free, handle := handle, tag := tag }
  let d0 := if d.path.bp.cycle.all (fun e => handleIdx e.1.handle == handleIdx handle) then d else d.bpCycle
  let d1 := d0.setBp { d0.path.bp with reqs := takeReq r d0.path.bp.reqs, cycle := d0.path.bp.cycle ++ [(r, damaged)] }
  if more then d1 else d1.bpCycle

/-- RELEASE: `more` says that another request on the descriptor comes in the same cycle. -/
def execReleaseRequest (handle tag : Nat) (damaged more : Bool) (s : State) : Host.Outcome State Fault Refusal :=
  s.run (.releaseRequest handle tag damaged more) (Dev.bpRequest false handle tag damaged more)

/-- FREE: `more` says that another request on the descriptor comes in the same cycle. -/
def execFreeRequest (handle tag : Nat) (damaged more : Bool) (s : State) : Host.Outcome State Fault Refusal :=
  s.run (.freeRequest handle tag damaged more) (Dev.bpRequest true handle tag damaged more)

/-- The slack tub takes its next reference (R249): record, count, TUB, and a RELEASE under the holder slot. -/
def Dev.tubReceive (d : Dev) : Dev :=
  match d.path.bp.tub with
  | [] => d
  | r :: t =>
    let d1 := (d.setBp { d.path.bp with tub := t }).tubLog r.reason r.handle r.expected r.found
    ((d1.cnt .bpAcctCnt (r.acct * 8 + 7)).raise (.bp 0) 2).release r.handle r.slot

/-- SLACK_TUB_RECEIVE. -/
def execSlackTubReceive (s : State) : Host.Outcome State Fault Refusal := s.run .slackTubReceive Dev.tubReceive

end Sys2Proof.Machine
end

