-- ==== Sys2Proof/Machine/SchedOps.lean ====
section
/-! DEFINITION. The scheduler's shared operations: the two hierarchies, shapers, eligibility, virtual-time tags, enqueue
and the removal of a head frame, and the transmit-timestamp queue that a frame which never departs writes to
(R259–R268, R323). -/

namespace Sys2Proof.Machine

/-! ## Module time and transmit timestamps -/

/-- Module time in nanoseconds since second 0, the fraction dropped. -/
def Dev.nowNs (d : Dev) : Nat := d.time.sec * 1000000000 + d.time.ns

/-- LEAD_NS. -/
def Dev.leadNs (d : Dev) : Nat := d.rd (.tm 1) TM_LAUNCH.LEAD_US4 * 250
/-- LATE_NS. -/
def Dev.lateNs (d : Dev) : Nat := d.rd (.tm 1) TM_LAUNCH.LATE_US4 * 250

/-- Set the time unit. -/
def Dev.setTm (d : Dev) (v : Tm) : Dev := { d with tm := v }

/-- Write an entry of a port's transmit-timestamp queue (R323): discarded, counted and raised when the queue is full. -/
def Dev.tsqPut (d : Dev) (u : Nat) (e : TsqEntry) : Dev :=
  let l := d.tm.tsq.get [] u
  if l.length < 32 then (d.setTm { d.tm with tsq := d.tm.tsq.put [] u (l ++ [e]) }).cnt .tmCnt (u * 8)
  else ((d.setTm { d.tm with ovf := d.tm.ovf.put false u true }).cnt .tmCnt (u * 8 + 1)).raise (.tm 1) 0

/-- A frame for port `u` never departs: a two-step one leaves an entry with DROPPED = 1 (R323). -/
def Dev.tsqLost (d : Dev) (u : Nat) (r : Option TxReq) : Dev :=
  match r with
  | some q => if q.tsMode = 1 then d.tsqPut u { id := q.tsId, dropped := true, sec := 0, ns := 0, frac := 0 } else d
  | none => d

/-- The same for a frame of aggregate `a`. -/
def Dev.tsqDrop (d : Dev) (a : Nat) (r : Option TxReq) : Dev := d.tsqLost (d.rdT .scAgg a SC_AGG.PORT) r

/-- The same for a queue: only an aggregate's frames ask for a timestamp. -/
def Dev.tsqDropQ (d : Dev) (q : Nat) (r : Option TxReq) : Dev :=
  if 131072 ≤ q ∧ q < 147456 then d.tsqDrop (q - 131072) r else d

/-! ## The hierarchies (Table SCH–1) -/

/-- A member of a hierarchy: an SC_NODE entry or an SC_QUEUE entry. -/
inductive SchItem
  | node (i : Nat) | queue (q : Nat)
  deriving DecidableEq, Repr

/-- The table of an item. -/
def SchItem.tbl : SchItem → Tbl
  | .node _ => .scNode
  | .queue _ => .scQueue
/-- The index of an item in its table. -/
def SchItem.idx : SchItem → Nat
  | .node i => i
  | .queue q => q
/-- The start tag's field. -/
def SchItem.stag : SchItem → Fld
  | .node _ => SC_NODE.STAG
  | .queue _ => SC_QUEUE.STAG
/-- The finish tag's field. -/
def SchItem.ftag : SchItem → Fld
  | .node _ => SC_NODE.FTAG
  | .queue _ => SC_QUEUE.FTAG
/-- RATE of an item. -/
def SchItem.rate : SchItem → Fld
  | .node _ => SC_NODE.RATE
  | .queue _ => SC_QUEUE.RATE
/-- BURST of an item. -/
def SchItem.burst : SchItem → Fld
  | .node _ => SC_NODE.BURST
  | .queue _ => SC_QUEUE.BURST
/-- WEIGHT of an item. -/
def SchItem.weight : SchItem → Fld
  | .node _ => SC_NODE.WEIGHT
  | .queue _ => SC_QUEUE.WEIGHT
/-- EN of an item. -/
def SchItem.en : SchItem → Fld
  | .node _ => SC_NODE.EN
  | .queue _ => SC_QUEUE.EN
/-- The queue of a group's templates: it lies beyond SC_QUEUE, is enabled, and has weight 1, no shaper and no limit
(R192; DESIGN CHOICE, log 80). -/
def SchItem.isTemplate : SchItem → Bool
  | .node _ => false
  | .queue q => 147456 ≤ q
/-- Key of an item's shaper. -/
def SchItem.creditKey : SchItem → Nat
  | .node i => i
  | .queue q => 131072 + q

/-- The OVH register of an item: its level, downstream 0–4, uplink 5–8 (R265). -/
def SchItem.ovh : SchItem → Nat
  | .node i =>
    if i < 48 then 0 else if i < 816 then 1 else if i < 13104 then 2 else if i < 111408 then 3
    else if i < 111440 then 5 else if i < 111952 then 6 else 7
  | .queue q => if q < 131072 then 4 else 8

/-- What an index that names no node stands for: the parent of a host aggregate. -/
def noNode : Nat := 1048576

/-- The parent of a node; `noNode` for a root.  An ONU node's is the one recorded when it became active (R260). -/
def Dev.nodeParent (d : Dev) (i : Nat) : Nat :=
  if i < 48 then noNode
  else if i < 816 then (i - 48) % 48
  else if i < 13104 then d.path.sc.onuParent.get 0 (i - 816) - 1
  else if i < 111408 then 816 + (i - 13104) / 8
  else if i < 111440 then noNode
  else if i < 111952 then 111408 + (i - 111440) % 32
  else 111440 + (i - 111952) / 8

/-- The parent of an item. -/
def Dev.parentOf (d : Dev) : SchItem → Nat
  | .node i => d.nodeParent i
  | .queue q => (d.queue q).parent

/-- The tenant node that an ONU node joins: the ONU's tree and assigned tenant. -/
def Dev.onuNodeParent (d : Dev) (g : Nat) : Nat := 48 + d.onuTenant g * 48 + g / 256

/-- The class node that a queue joins (R260); `noNode` for a host aggregate (R436).  A group's templates are sent in class
OAM_CLASS under T0 (R192). -/
def Dev.queueParent (d : Dev) (q : Nat) : Nat :=
  if q < 131072 then
    13104 + (d.rdT .clFlow q CL_FLOW.TREE * 256 + d.rdT .clFlow q CL_FLOW.ONU) * 8 + d.rdT .clFlow q CL_FLOW.CLASS
  else if 147456 ≤ q then
    111952 + d.rdT .bdGroup (q - 147456) BD_GROUP.UPLINK * 8 + d.rdT .bdGroup (q - 147456) BD_GROUP.OAM_CLASS
  else
    let a := q - 131072
    if 16368 ≤ a then noNode
    else 111952 + (d.rdT .scAgg a SC_AGG.TENANT * 32 + d.rdT .scAgg a SC_AGG.PORT) * 8 + d.rdT .scAgg a SC_AGG.CLASS

/-- The root above a class node: its tree, or 48 + its uplink port; `none` for a host aggregate. -/
def rootOfClass (c : Nat) : Option Nat :=
  if c = noNode then none
  else if c < 111952 then some ((c - 13104) / 8 / 256) else some (48 + (c - 111952) / 8 % 32)

/-- The SC_CNT entry `e` of a queue's tree or port. -/
def Dev.scEntry (d : Dev) (q e : Nat) : Option Nat :=
  let p := if (d.queue q).frames = [] then d.queueParent q else (d.queue q).parent
  (rootOfClass p).map (fun r => r * 8 + e)

/-- Count in SC_CNT of a queue's tree or port. -/
def Dev.scCount (d : Dev) (q e : Nat) (k : Nat := 1) : Dev :=
  match d.scEntry q e with
  | some i => d.cnt .scCnt i k
  | none => d

/-- Whether a queue holds a frame. -/
def Dev.queueActive (d : Dev) (q : Nat) : Bool := (d.queue q).frames != []

/-- The nodes whose ACTIVE is set: the listed ones of the table store, ascending. -/
def Dev.activeNodes (d : Dev) : List Nat := (d.listedT .scNode SC_NODE.ACTIVE).map (fun e => e.1)

/-- The active children of a node, ascending. -/
def Dev.kids (d : Dev) (i : Nat) : List SchItem :=
  ((d.activeNodes.filter (fun j => d.nodeParent j == i)).map SchItem.node) ++
    ((d.path.sc.q.filter (fun e => e.2.frames != [] && e.2.parent == i)).map (fun e => SchItem.queue e.1))

/-! ## Lengths and shapers (R265–R267) -/

/-- Counted length of a stored length at an item's level (R265). -/
def Dev.counted (d : Dev) (it : SchItem) (len : Nat) : Nat :=
  max 1 ((len : Int) + sext 9 (d.rd (.sc 0) (SC_OVH.OVH it.ovh))).toNat

/-- What an item's credit lacks to BURST now, in 1/8,000,000 byte: credit grows at RATE × 125 bytes per second, which
is RATE of these units per nanosecond, and stops at BURST (R266). -/
def Dev.lack (d : Dev) (it : SchItem) : Nat :=
  let c := d.path.sc.credit.get (0, 0) it.creditKey
  if d.rdT it.tbl it.idx it.rate = 0 then 0 else c.1 - d.rdT it.tbl it.idx it.rate * (d.now - c.2)

/-- An item's credit in 1/256 byte, rounded toward minus infinity. -/
def Dev.credit256 (d : Dev) (it : SchItem) : Int :=
  ((d.rdT it.tbl it.idx it.burst * 8000000 : Int) - d.lack it) / 31250

/-- CREDIT as the entry shows it: whole bytes, rounded toward minus infinity; BURST while RATE = 0 (R267). -/
def Dev.creditShown (d : Dev) (it : SchItem) : Nat := toBits 32 (d.credit256 it / 256)

/-- Set what an item's credit lacks. -/
def Dev.setLack (d : Dev) (it : SchItem) (v : Nat) : Dev :=
  d.setSc { d.path.sc with credit := d.path.sc.credit.put (0, 0) it.creditKey (if v = 0 then (0, 0) else (v, d.now)) }

/-- Subtract a frame's counted length from an item's credit (R266). -/
def Dev.charge (d : Dev) (len : Nat) (it : SchItem) : Dev :=
  if d.rdT it.tbl it.idx it.rate = 0 then d else d.setLack it (d.lack it + d.counted it len * 8000000)

/-- A write of RATE and BURST (R267): the credit is kept, clamped to the new BURST; a RATE that leaves 0 starts at
BURST. -/
def Dev.reshape (d : Dev) (it : SchItem) (rate burst : Nat) : Dev :=
  let r0 := d.rdT it.tbl it.idx it.rate
  let l := (d.lack it : Int) + (burst * 8000000 : Int) - (d.rdT it.tbl it.idx it.burst * 8000000 : Int)
  let v := if r0 = 0 ∨ rate = 0 then 0 else l.toNat
  ((d.wrT it.tbl it.idx it.rate rate).wrT it.tbl it.idx it.burst burst).setLack it v

/-! ## Eligibility (R261) -/

/-- The page-level conditions of a root: item 6 for a tree, item 7 for an uplink port. -/
def Dev.rootReady (d : Dev) (i : Nat) : Bool :=
  if i < 48 then
    d.rd (.te i 0) TE_TX_STAT.FSTATE == 2 && !d.on (.te i 0) PAGE_CTRL.QUIESCE_REQ &&
      (!d.isProtected i || d.pxState i == 2) &&
      (match d.groupOf i with
       | some g => (List.range (d.grpSize g)).any (fun s => d.memberState g s == 0 || d.memberState g s == 2)
       | none => true)
  else if 111408 ≤ i ∧ i < 111440 then d.portOn (i - 111408) && d.on (.ulp (i - 111408)) UL_PORT_STAT.LINK_UP
  else true

/-- Items 1 to 3, 5, 6 and 7 of R261 of an item; a frame of an encrypted flow stays in its queue while the cipher engine
is disabled (R467). -/
def Dev.itemReady (d : Dev) (it : SchItem) : Bool :=
  (it.isTemplate || d.onT it.tbl it.idx it.en) && (d.rdT it.tbl it.idx it.rate == 0 || 0 < d.credit256 it) &&
    (match it with
     | .queue q =>
       !d.onT .scQueue q SC_QUEUE.PAUSED && !d.onT .scQueue q SC_QUEUE.LAUNCH_WAIT &&
         (131072 ≤ q || !d.onT .clFlow q CL_FLOW.CIPHER_EN || d.enabled .cx0)
     | .node i =>
       d.rootReady i &&
         (if 816 ≤ i ∧ i < 13104 ∧ d.onT .scNode i SC_NODE.GATE then
            d.onuSt ((i - 816) / 256) ((i - 816) % 256) == 3 || d.onuSt ((i - 816) / 256) ((i - 816) % 256) == 4
          else true))

/-- Whether an active item is eligible: itself ready, and for a node one of its children eligible (item 4).  The
hierarchies have five levels, which bounds the descent. -/
def Dev.eligibleN : Nat → Dev → SchItem → Bool
  | 0, _, _ => false
  | _ + 1, d, .queue q => d.itemReady (.queue q)
  | k + 1, d, .node i => d.itemReady (.node i) && (d.kids i).any (fun c => Dev.eligibleN k d c)

/-- Whether an active item is eligible (R261). -/
def Dev.eligible (d : Dev) (it : SchItem) : Bool := Dev.eligibleN 5 d it

/-! ## Tags (R264) -/

/-- One tag is below another: by their difference modulo 2^48, taken as signed. -/
def tagLt (a b : Nat) : Bool := 0 < (b + 2 ^ 48 - a) % 2 ^ 48 && (b + 2 ^ 48 - a) % 2 ^ 48 < 2 ^ 47

/-- The larger of two tags. -/
def tagMax (a b : Nat) : Nat := if tagLt a b then b else a

/-- The item with the smallest value of a tag; the first listed wins a tie. -/
def Dev.smallest (d : Dev) (f : SchItem → Fld) : List SchItem → Option SchItem
  | [] => none
  | c :: t =>
    match d.smallest f t with
    | none => some c
    | some e => if tagLt (d.rdT e.tbl e.idx (f e)) (d.rdT c.tbl c.idx (f c)) then some e else some c

/-- The child that a node would choose: the eligible one with the smallest finish tag, or where none is eligible the
active one with the smallest. -/
def Dev.wouldChoose (d : Dev) (i : Nat) : Option SchItem :=
  match d.smallest SchItem.ftag ((d.kids i).filter d.eligible) with
  | some c => some c
  | none => d.smallest SchItem.ftag (d.kids i)

/-- Stored length of an item's next frame. -/
def Dev.nextLenN : Nat → Dev → SchItem → Nat
  | 0, _, _ => 0
  | _ + 1, d, .queue q => ((d.queue q).frames.head?.map Held.len).getD 0
  | k + 1, d, .node i =>
    match d.wouldChoose i with
    | some c => Dev.nextLenN k d c
    | none => 0

/-- Stored length of an item's next frame (R264). -/
def Dev.nextLen (d : Dev) (it : SchItem) : Nat := Dev.nextLenN 5 d it

/-- Set the tags of an item: S, and F = S + ⌊L × 65,536 ÷ WEIGHT⌋. -/
def Dev.setTags (d : Dev) (it : SchItem) (s : Nat) : Dev :=
  (d.wrT it.tbl it.idx it.stag s).wrT it.tbl it.idx it.ftag
    (s + d.counted it (d.nextLen it) * 65536 / d.rdT it.tbl it.idx it.weight)

/-- An item wakes under its parent: S = max(V, F). -/
def Dev.wakeTags (d : Dev) (it : SchItem) : Dev :=
  d.setTags it (tagMax (d.rdT .scNode (d.parentOf it) SC_NODE.VTIME) (d.rdT it.tbl it.idx it.ftag))

/-- Wake the nodes from `i` up: each that was inactive becomes active and takes its tags under its parent; an ONU node
takes its parent then (R260). -/
def Dev.wakeNodeN : Nat → Nat → Dev → Dev
  | 0, _, d => d
  | k + 1, i, d =>
    if i = noNode ∨ d.onT .scNode i SC_NODE.ACTIVE then d
    else
      let d1 :=
        if 816 ≤ i ∧ i < 13104 then
          d.setSc { d.path.sc with onuParent := d.path.sc.onuParent.put 0 (i - 816) (d.onuNodeParent (i - 816) + 1) }
        else d
      let d2 := d1.wrT .scNode i SC_NODE.ACTIVE 1
      let p := d2.nodeParent i
      if p = noNode then d2 else Dev.wakeNodeN k p (d2.wakeTags (.node i))

/-- Take the nodes from `i` up out of the active ones where no child is active. -/
def Dev.restNodeN : Nat → Nat → Dev → Dev
  | 0, _, d => d
  | k + 1, i, d =>
    if i = noNode ∨ d.kids i ≠ [] then d
    else Dev.restNodeN k (d.nodeParent i) (d.wrT .scNode i SC_NODE.ACTIVE 0)

/-- A frame passed through the hierarchy by way of item `it`: the charge, the new tags where it is still active, and
the parent's virtual time; then the same for the parent, up to the root, which is charged alone (R264, R266).  `len`
is the frame's stored length. -/
def Dev.passUpN : Nat → Nat → SchItem → Dev → Dev
  | 0, _, _, d => d
  | k + 1, len, it, d =>
    let p := d.parentOf it
    let d1 := d.charge len it
    if p = noNode then d1
    else
      let live := (d.kids p).contains it
      let d2 := if live then d1.setTags it (d1.rdT it.tbl it.idx it.ftag) else d1
      let v := d2.rdT .scNode p SC_NODE.VTIME
      let d3 := match d2.smallest SchItem.stag (d2.kids p) with
        | some c => d2.wrT .scNode p SC_NODE.VTIME (tagMax v (d2.rdT c.tbl c.idx c.stag))
        | none => d2
      Dev.passUpN k len (.node p) d3

/-! ## Queues -/

/-- The target that a queue is. -/
def queueTarget (q : Nat) : Target :=
  if q < 131072 then .flow q else if q < 147456 then .agg (q - 131072) else .template (q - 147456)

/-- The owner tag kept with a queue (R468). -/
def Dev.queueTag (d : Dev) (q : Nat) : Nat := d.targetTag (queueTarget q)

/-- The account that the buffers of a queue are charged to. -/
def Dev.queueAcct (d : Dev) (q : Nat) : Nat := d.acctFor (queueTarget q)

/-- Bytes stored in a queue. -/
def Dev.queueBytes (d : Dev) (q : Nat) : Nat := (d.queue q).frames.foldl (fun s h => s + h.len) 0

/-- Whether a frame may still be launched: P no more than MAX_MS beyond module time (R325). -/
def Dev.launchNear (d : Dev) (h : Held) : Bool :=
  match h.req.bind TxReq.launch with
  | some (p, _) => p ≤ d.nowNs + d.rd (.tm 1) TM_LAUNCH.MAX_MS * 1000000
  | none => true

/-- A frame reaches the head of a queue (R262, R325): one whose launch time lies too far off is dropped, and the next
one reaches the head; LAUNCH_WAIT is 1 while module time is below L. -/
def Dev.atHeadOf (q : Nat) : List Held → Dev → Dev
  | [], d => (d.setQueue q { d.queue q with frames := [] }).wrT .scQueue q SC_QUEUE.LAUNCH_WAIT 0
  | h :: t, d =>
    if d.launchNear h then
      let wait := match h.req.bind TxReq.launch with | some (_, l) => if d.nowNs < l then 1 else 0 | none => 0
      (d.setQueue q { d.queue q with frames := h :: t }).wrT .scQueue q SC_QUEUE.LAUNCH_WAIT wait
    else
      let u := d.rdT .scAgg (q - 131072) SC_AGG.PORT
      let d1 := ((d.cnt .tmCnt (u * 8 + 5)).raise (.tm 1) 2).tsqDropQ q h.req
      Dev.atHeadOf q t (d1.release h.handle h.tag)

/-- As `atHeadOf`, of a device. -/
def Dev.atHead (d : Dev) (q : Nat) (l : List Held) : Dev := Dev.atHeadOf q l d

/-- A queue that holds no frame keeps no parent and no tag. -/
def Dev.clearQueue (d : Dev) (q : Nat) : Dev := if d.queueActive q then d else d.setQueue q Queue.init

/-- The head frame leaves a queue: the next one reaches the head, and the nodes above a queue that became empty rest.
The queue keeps its parent until `clearQueue`. -/
def Dev.popHead (d : Dev) (q : Nat) : Dev :=
  let d1 := d.atHead q (d.queue q).frames.tail
  if d1.queueActive q then d1 else Dev.restNodeN 4 (d1.queue q).parent d1

/-- The head frame leaves a queue without a selection: no tag and no credit is charged. -/
def Dev.dropHead (d : Dev) (q : Nat) : Dev := (d.popHead q).clearQueue q

/-- The head frame is dequeued (R264, R266): the queue and every node above it are charged and take their new tags. -/
def Dev.takeHead (d : Dev) (q len : Nat) : Dev := (Dev.passUpN 5 len (.queue q) (d.popHead q)).clearQueue q

/-- A frame joins a queue (R260, R264, R268): refused by QLIM_KB, or stored; a queue that was empty takes its parent and
its tag's tenant, and wakes with the nodes above it. -/
def Dev.enqueue (d : Dev) (q : Nat) (h : Held) : Dev :=
  let lim := d.rdT .scQueue q SC_QUEUE.QLIM_KB
  if lim ≠ 0 ∧ lim * 1024 < d.queueBytes q + h.len then
    (((d.scCount q 2).raise (.sc 0) 1).tsqDropQ q h.req).release h.handle h.tag
  else
    let c := d.queue q
    if c.frames = [] then
      let p := d.queueParent q
      let d1 := (d.setQueue q { frames := [h], parent := p, tenant := tagTenant h.tag }).atHead q [h]
      if !d1.queueActive q then d1.setQueue q Queue.init
      else if p = noNode then d1
      else
        let d2 := d1.wakeTags (.queue q)
        Dev.wakeNodeN 4 p d2
    else d.setQueue q { c with frames := c.frames ++ [h] }

end Sys2Proof.Machine
end

