-- ==== Sys2Proof/Machine/Scheduler.lean ====
section
/-! DEFINITION. Admission to the hearth and the scheduler: the commands of Buffer pools and of Scheduling, shaping and
policing (R238–R277, R325, R468). -/

namespace Sys2Proof.Machine

/-! ## Admission (R238–R245, R252–R254) -/

/-- KIND that a target calls for. -/
def Target.kind : Target → Nat
  | .flow _ => 1
  | .agg _ => 2
  | .ring _ _ => 3
  | .foreign _ => 4
  | .template _ => 5

/-- INDEX of a target's tag. -/
def Dev.targetIndex (d : Dev) : Target → Nat
  | .flow f => f
  | .agg a => a
  | .ring t _ => d.copyRing t
  | .foreign _ => 0
  | .template g => g

/-- Whether a target is a queue of the scheduler. -/
def Target.isQueue : Target → Bool
  | .flow _ => true
  | .agg _ => true
  | .template _ => true
  | _ => false

/-- The enqueue check of one holder (R245): 0 it passes, 1 the tag does not fit the target or RT, 2 its parity.  A frame that
R232 keeps from its flow has failed its check already. -/
def Dev.enqCheck (d : Dev) (rt : Nat) (t : Target) : Nat :=
  let tag := d.targetTag t
  if t.kind = 4 then 0
  else if !tagFits tag then 2
  else if tagKind tag = t.kind ∧ (rt = 0 ∨ tagTenant tag = rt) then 0 else 1

/-- A holder takes its reference: a queue stores the frame, a processor copy is delivered and released, and a frame that R232
keeps from a flow goes to the slack tub. -/
def Dev.deliver (d : Dev) (a : Admit) (handle : Nat) (isB : Bool) (t : Target) : Dev :=
  let tag := d.targetTag t
  let h : Held := { handle := handle, tag := tag, isB := isB, len := a.bytes.length, enq := d.nowNs, req := a.req }
  match t with
  | .flow f => d.enqueue f h
  | .agg q => d.enqueue (aggQ q) h
  | .ring f reason =>
    (d.rxOrDrop f { cls := 1, reason := reason, source := a.source, ts := a.ts, epoch := d.epoch f,
                    bytes := a.bytes }).release handle tag
  | .template g => d.enqueue (147456 + g) h
  | .foreign f =>
    d.toTub { handle := handle, slot := tag, expected := mkTag 1 a.rt f, found := d.targetTag (.flow f), reason := 5,
              acct := d.acctFor t }

/-- An enqueue waits at the pools' output while the scheduler takes no work (R34, R271), behind those before it. -/
def Dev.handOn (d : Dev) (a : Admit) (handle : Nat) (isB : Bool) (t : Target) : Dev :=
  if t.isQueue && (!d.takes (.sc 0) || d.path.bp.outq != []) then
    d.setBp { d.path.bp with outq := d.path.bp.outq ++ [{ a := a, handle := handle, isB := isB, target := t }] }
  else d.deliver a handle isB t

/-- What waited at the pools' output is enqueued once the scheduler takes work again. -/
def Dev.drainOut (d : Dev) : Dev :=
  if !d.takes (.sc 0) then d
  else d.path.bp.outq.foldl (fun (x : Dev) e => x.deliver e.a e.handle e.isB e.target) (d.setBp { d.path.bp with outq := [] })

/-- One holder of an admitted buffer (R245): enqueued, or its reference passed to the slack tub as a separation failure
of the requesting tenant. -/
def Dev.holder (d : Dev) (a : Admit) (handle : Nat) (isB : Bool) (t : Target) : Dev :=
  match d.enqCheck a.rt t with
  | 0 => d.handOn a handle isB t
  | c + 1 =>
    let d1 := match t with | .agg q => d.tsqDrop q a.req | _ => d
    (d1.toTub { handle := handle, slot := d.targetTag t, expected := mkTag t.kind a.rt (d.targetIndex t),
                found := d.targetTag t, reason := c + 1, acct := d.acctFor t }).sep a.rt 2 handle

/-- Complete the host descriptor that injected a frame. -/
def Dev.admitDone (d : Dev) (a : Admit) (st det : Nat) : Dev :=
  match a.tx with
  | some (f, r, i) => d.txComplete f r i st det (d.epoch f)
  | none => d

/-- A buffer is taken (R243, R251, R252): descriptor `i` with its next generation, its holders' tags, its account. -/
def Dev.takeBuf (d : Dev) (a : Admit) (i acct pool tier : Nat) : Dev :=
  let tB := match a.second with | some t => d.targetTag t | none => 0
  let two := a.second.isSome
  let d1 := d.wrTs .bpDesc i
    [(BP_DESC.GEN, d.rdT .bpDesc i BP_DESC.GEN + 1), (BP_DESC.LEN, a.bytes.length), (BP_DESC.ACCT, acct),
     (BP_DESC.HOLDER_A, d.targetTag a.first), (BP_DESC.HOLDER_B, tB), (BP_DESC.REFCNT, if two then 2 else 1),
     (BP_DESC.LAST, if two then 0 else 1)]
  let d2 := d1.addT .bpAccount acct (BP_ACCOUNT.USE pool)
  let d3 := d2.wrT .bpPoolCfg pool (freeFld tier) (d.rdT .bpPoolCfg pool (freeFld tier) - 1)
  let left := match d.path.bp.pkt.get none i with | some p => p.bytes.drop a.bytes.length | none => []
  d3.setBp { d3.path.bp with
    pkt := d3.path.bp.pkt.put none i (some { bytes := a.bytes ++ left, ts := a.ts, source := a.source }) }

/-- The first result at the pools' input is decided while the pools take work (R34, R252, R253, R255): refused, counted and
dropped, or it takes buffer `i` and its holders are enqueued after their check.  A buffer that the pool's tier does not
offer is not taken; one whose descriptor read fails is retired, and the result waits for another (R250). -/
def Dev.admitWaiting (i : Nat) (damaged : Bool) (d : Dev) : Dev :=
  match d.path.bp.inq with
  | [] => d
  | a :: rest =>
    if !d.takes (.bp 0) then d
    else
      let acct := d.acctFor a.first
      let pool := poolOf a.bytes.length
      let c := d.admission acct pool
      let d0 := d.setBp { d.path.bp with inq := rest }
      if 2 ≤ c then ((d0.cnt .bpAcctCnt (acct * 8 + c)).pm 16 acct).admitDone a 5 (c - 1)
      else
        match d.tierOf pool with
        | none => d
        | some tier =>
          if !d.descFree i pool tier then d
          else if damaged then d.bpRetire (d.handleOf i) 0
          else
            let ok := d.enqCheck a.rt a.first = 0
            let d1 := ((d0.takeBuf a i acct pool tier).cnt .bpAcctCnt (acct * 8 + c)).pm 15 acct
            let h := d1.handleOf i
            let d2 := d1.holder a h false a.first
            let d3 := match a.second with | some t => d2.holder a h true t | none => d2
            if ok then d3.admitDone a 0 0 else d3.admitDone a 5 4

/-- BUFFER_ADMIT. -/
def execBufferAdmit (desc : Nat) (damaged : Bool) (s : State) : Host.Outcome State Fault Refusal :=
  s.run (.bufferAdmit desc damaged) (fun d => Dev.admitWaiting desc damaged d.drainOut)

/-! ## Dequeue (R261–R269, R288, R325) -/

/-- The usable downstream key of a key pair (R288): ACTIVE_DS, VALID and not FROZEN. -/
def Dev.dsKey (d : Dev) (pair : Nat) : Option Nat :=
  [2 * pair, 2 * pair + 1].find? (fun c =>
    d.onT .cxKey c CX_KEY.ACTIVE_DS && d.onT .cxKey c CX_KEY.VALID && !d.onT .cxKey c CX_KEY.FROZEN)

/-- The key pair of a flow. -/
def Dev.flowPair (d : Dev) (f : Nat) : Nat := d.rdT .clFlow f CL_FLOW.KEY_CTX / 2

/-- A flow is paused (R288): encrypted, and its pair without a usable downstream key. -/
def Dev.flowPaused (d : Dev) (f : Nat) : Bool := d.onT .clFlow f CL_FLOW.CIPHER_EN && (d.dsKey (d.flowPair f)).isNone

/-- The node of a root: tree n, or uplink port u as 48 + u. -/
def rootNode (r : Nat) : Nat := if r < 48 then r else 111408 + (r - 48)

/-- The queue that a selection from a node reaches (R263): at each level the eligible child with the smallest finish
tag. -/
def Dev.chooseN : Nat → Dev → Nat → Option Nat
  | 0, _, _ => none
  | k + 1, d, i =>
    match d.smallest SchItem.ftag ((d.kids i).filter d.eligible) with
    | some (.queue q) => some q
    | some (.node j) => Dev.chooseN k d j
    | none => none

/-- The queue that a selection at a root reaches. -/
def Dev.choose (d : Dev) (r : Nat) : Option Nat :=
  if d.itemReady (.node (rootNode r)) then Dev.chooseN 4 d (rootNode r) else none

/-- The tag that the descriptor records for a held frame, and whether it passes the dequeue check (R269). -/
def Dev.heldTag (d : Dev) (h : Held) : Nat :=
  d.rdT .bpDesc (handleIdx h.handle) (if h.isB then BP_DESC.HOLDER_B else BP_DESC.HOLDER_A)

/-- The dequeue check: the recorded tag equals the one kept with the queue, both fit, and the descriptor is not
retired. -/
def Dev.deqOk (d : Dev) (q : Nat) (h : Held) : Bool :=
  d.heldTag h == d.queueTag q && tagFits (d.heldTag h) && tagFits (d.queueTag q) &&
    !d.path.bp.retired.contains (handleIdx h.handle)

/-- A head frame fails the dequeue check: its reference to the slack tub with reason 3, counted, DEQ_TAG, a separation
failure; nothing of its ancestors is charged. -/
def Dev.deqFail (d : Dev) (q : Nat) (h : Held) : Dev :=
  let tag := d.queueTag q
  let d1 := ((d.scCount q 3).raise (.sc 0) 0).toTub
    { handle := h.handle, slot := h.tag, expected := tag, found := d.heldTag h, reason := 3, acct := d.queueAcct q }
  ((d1.tsqDropQ q h.req).dropHead q).sep (tagTenant tag) 3 h.handle

/-- The descriptor read of a dequeue fails: descriptor and buffer are retired, and the frame goes with them (R250). -/
def Dev.deqDamaged (d : Dev) (q : Nat) (h : Held) : Dev :=
  ((d.bpRetire h.handle h.tag).tsqDropQ q h.req).dropHead q

/-- Count a dequeued frame of an aggregate in the counter groups of Table HIF–12. -/
def Dev.aggCount (d : Dev) (q len : Nat) : Dev :=
  if 131072 ≤ q ∧ q < 147456 then (d.pm 9 (q - 131072)).pm 10 (q - 131072) len else d

/-- A selected frame goes on: to the cipher engine of its tree, or to the MAC of its port unless it is late (R325). -/
def Dev.passOn (d : Dev) (r q : Nat) (h : Held) : Dev :=
  let bytes := d.pktBytes h.handle
  if q < 131072 then
    let d1 := (d.pm 7 q).pm 8 q h.len
    let l := d1.path.cx.ds.get [] r
    d1.setCx { d1.path.cx with
      ds := d1.path.cx.ds.put [] r (l ++ [{ flow := q, handle := h.handle, tag := h.tag, bytes := bytes }]) }
  else
    let u := r - 48
    let d1 := d.aggCount q h.len
    let late := match h.req.bind TxReq.launch with | some (_, l) => if l + d.lateNs < d.nowNs then true else false | none => false
    if late then
      (((d1.cnt .tmCnt (u * 8 + 4)).raise (.tm 1) 1).tsqDropQ q h.req).release h.handle h.tag
    else
      let m := d1.path.mac.get [] u
      { d1 with path := { d1.path with
        mac := d1.path.mac.put [] u (m ++ [{ handle := h.handle, tag := h.tag, bytes := bytes, req := h.req }]) } }

/-- One decision of a root (R263): a head frame that fails its check goes to the slack tub, and one of a paused flow
stays, and the root selects again; otherwise the frame is dequeued, charged and counted, and goes on.  `damaged`: the
descriptor read of the first frame chosen fails. -/
def Dev.selectN : Nat → Bool → Nat → Dev → Dev
  | 0, _, _, d => d
  | k + 1, damaged, r, d =>
    match d.choose r with
    | none => d
    | some q =>
      match (d.queue q).frames with
      | [] => d
      | h :: _ =>
        if damaged && !d.path.bp.retired.contains (handleIdx h.handle) then Dev.selectN k false r (d.deqDamaged q h)
        else if !d.deqOk q h then Dev.selectN k false r (d.deqFail q h)
        else if q < 131072 ∧ d.flowPaused q then
          Dev.selectN k false r ((d.wrT .scQueue q SC_QUEUE.PAUSED 1).cnt .cxCnt (r * 8 + 7))
        else
          let d1 := (d.cnt .scCnt (r * 8)).cnt .scCnt (r * 8 + 1) h.len
          (d1.takeHead q h.len).passOn r q h

/-- How many decisions a root can make before every frame is dropped or every queue paused. -/
def Dev.frameCount (d : Dev) : Nat := d.path.sc.q.foldl (fun s e => s + e.2.frames.length + 1) 1

/-- A root asks for its next frame; none is dequeued while SC page 0 is asked to quiesce or disabled (R271). -/
def Dev.dequeue (r : Nat) (damaged : Bool) (d : Dev) : Dev :=
  if d.takes (.sc 0) then Dev.selectN d.drainOut.frameCount damaged r d.drainOut else d

/-- DEQUEUE_SELECT. -/
def execDequeueSelect (root : Nat) (damaged : Bool) (s : State) : Host.Outcome State Fault Refusal :=
  s.run (.dequeueSelect root damaged) (Dev.dequeue root damaged)

/-- Module time reaches the launch time of an aggregate's head frame (R262). -/
def Dev.launchReached (a : Nat) (d : Dev) : Dev :=
  match (d.queue (aggQ a)).frames with
  | [] => d
  | h :: _ =>
    match h.req.bind TxReq.launch with
    | some (_, l) => if l ≤ d.nowNs then d.wrT .scQueue (aggQ a) SC_QUEUE.LAUNCH_WAIT 0 else d
    | none => d

/-- LAUNCH_TIME_REACHED. -/
def execLaunchTimeReached (a : Nat) (s : State) : Host.Outcome State Fault Refusal :=
  s.run (.launchTimeReached a) (Dev.launchReached a)

/-! ## Flush and sampling (R270, R275) -/

/-- Release every frame of a queue, head first (R270). -/
def Dev.flushQueue (d : Dev) (q : Nat) : Dev :=
  let l := (d.queue q).frames
  let d1 := l.foldl (fun (x : Dev) h => ((x.scCount q 4).tsqDropQ q h.req).release h.handle h.tag) d
  if l = [] then d1 else ((Dev.restNodeN 4 (d1.queue q).parent (d1.atHead q []))).clearQueue q

/-- A write of SC_CMD (Table SCH–3). -/
def Dev.wScCmd (v : Nat) (d : Dev) : Dev :=
  if d.rd (.sc 0) SC_CMD.STAT = 1 then d.logErr (.sc 0) 0x262
  else if 147456 ≤ SC_CMD.QUEUE.get v then d.logErr (.sc 0) 0x263
  else
    let d1 := d.wrs (.sc 0) [(SC_CMD.OP, SC_CMD.OP.get v), (SC_CMD.QUEUE, SC_CMD.QUEUE.get v)]
    if SC_CMD.OP.get v = 1 then (d1.wr (.sc 0) SC_CMD.STAT 1).flushQueue (SC_CMD.QUEUE.get v)
    else (d1.wr (.sc 0) SC_CMD.STAT 3).logErr (.sc 0) 0x262

/-- FLUSH. -/
def execFlush (b : By) (v : Nat) (s : State) : Host.Outcome State Fault Refusal :=
  s.run (.flush b v) (fun d => d.hostF b (.sc 0) SC_CMD.OP (SC_CMD.OP.set v 1) (Dev.wScCmd (SC_CMD.OP.set v 1)))

/-- A flush completes. -/
def Dev.flushDone (d : Dev) : Dev :=
  if d.rd (.sc 0) SC_CMD.STAT = 1 then (d.wr (.sc 0) SC_CMD.STAT 0).raise (.sc 0) 2 else d

/-- FLUSH_DONE. -/
def execFlushDone (s : State) : Host.Outcome State Fault Refusal := s.run .flushDone Dev.flushDone

/-- Head delay of a queue in nanoseconds, saturating; a head that a backward step of module time put in the future has
a delay that the spec does not state: a free value. -/
def Dev.headDelay (d : Dev) (q : Nat) : Nat :=
  match (d.queue q).frames with
  | [] => 0
  | h :: _ => if h.enq ≤ d.nowNs then min (d.nowNs - h.enq) 0xffffffff else d.free % 2 ^ 32

/-- The period of the latency scan that runs now, counted from 1. -/
def Dev.scanPeriod (d : Dev) : Nat := (d.now - d.path.sc.scanAt) / (max 1 (d.rd (.sc 0) SC_SAMPLE_CFG.PERIOD_US) * 1000) + 1

/-- A latency sample of a queue (R275). -/
def Dev.sample (q : Nat) (d : Dev) : Dev :=
  if d.enabled (.sc 0) && d.on (.sc 0) SC_SAMPLE_CFG.EN then
    let dly := d.headDelay q
    let dep := (d.queueBytes q + 63) / 64
    let r (f : Fld) : Nat := d.rdT .scSample q f
    let d1 := (d.freed).wrTs .scSample q
      [(SC_SAMPLE.DLY_LAST, dly), (SC_SAMPLE.DLY_MIN, min dly (r SC_SAMPLE.DLY_MIN)),
       (SC_SAMPLE.DLY_MAX, max dly (r SC_SAMPLE.DLY_MAX)), (SC_SAMPLE.DEP_LAST, dep),
       (SC_SAMPLE.DEP_MIN, min dep (r SC_SAMPLE.DEP_MIN)), (SC_SAMPLE.DEP_MAX, max dep (r SC_SAMPLE.DEP_MAX))]
    let ovD := r SC_SAMPLE.DLY_THR ≠ 65535 ∧ r SC_SAMPLE.DLY_THR * 1000 < dly
    let ovP := r SC_SAMPLE.DEP_THR ≠ 65535 ∧ r SC_SAMPLE.DEP_THR * 1024 < dep * 64
    let d2 := if ovD then d1.satT .scSample q SC_SAMPLE.DLY_OVER else d1
    let d3 := if ovP then d2.satT .scSample q SC_SAMPLE.DEP_OVER else d2
    if (ovD ∨ ovP) ∧ d.path.sc.threshP ≠ d.scanPeriod then
      (d3.setSc { d3.path.sc with threshP := d.scanPeriod }).raise (.sc 0) 3
    else d3
  else d

/-- LATENCY_SAMPLE. -/
def execLatencySample (q : Nat) (s : State) : Host.Outcome State Fault Refusal := s.run (.latencySample q) (Dev.sample q)

end Sys2Proof.Machine
end

