-- ==== Sys2Proof/Machine/CipherOps.lean ====
section
/-! DEFINITION. The cipher engine's shared operations: modes of AES, key contexts with their usage, limits and log, the
tag check, integrity codes, and the choice of a pair's downstream key at a frame start (R278–R292). -/

namespace Sys2Proof.Machine

/-! ## Modes over the block cipher -/

/-- Byte `j` of a 16-byte block, most significant first. -/
def blockByte (b j : Nat) : Byte := BitVec.ofNat 8 (b / 256 ^ (15 - j))

/-- Counter mode: every byte combined with the keystream of its block, whose counter block `ctr` gives (R282, R290). -/
def ctrMode (alg key : Nat) (ctr : Nat → Nat) (l : List Byte) : List Byte :=
  l.zipIdx.map (fun e => e.1 ^^^ blockByte (aes alg key (ctr (e.2 / 16))) (e.2 % 16))

/-- The value of up to 16 bytes as the leading bytes of a block. -/
def toBlock (l : List Byte) : Nat := (List.range 16).foldl (fun v j => v * 256 + (l.getD j 0).toNat) 0

/-- CFB-128 over the blocks of `l` with the previous ciphertext block `iv` (R293): a final partial block uses a
truncated keystream.  `fuel` bounds the blocks. -/
def cfbMode (alg key : Nat) (decrypt : Bool) : Nat → Nat → List Byte → List Byte
  | 0, _, _ => []
  | k + 1, iv, l =>
    if l = [] then []
    else
      let ks := aes alg key iv
      let inp := l.take 16
      let out := inp.zipIdx.map (fun e => e.1 ^^^ blockByte ks e.2)
      out ++ cfbMode alg key decrypt k (toBlock (if decrypt then inp else out)) (l.drop 16)

/-- Doubling in GF(2^128), as CMAC's subkeys need it (NIST SP 800-38B). -/
def dbl128 (v : Nat) : Nat := if v < 2 ^ 127 then v * 2 else (v * 2 % 2 ^ 128) ^^^ 0x87

/-- The CMAC chain over the blocks of `l`; the last block is combined with a subkey. -/
def cmacChain (alg key : Nat) : Nat → Nat → List Byte → Nat
  | 0, x, _ => x
  | k + 1, x, l =>
    let k1 := dbl128 (aes alg key 0)
    if l.length ≤ 16 then
      let last := if l.length = 16 then toBlock l ^^^ k1 else toBlock (l ++ [0x80#8]) ^^^ dbl128 k1
      aes alg key (x ^^^ last)
    else cmacChain alg key k (aes alg key (x ^^^ toBlock (l.take 16))) (l.drop 16)

/-- The 16-byte CMAC of a message (R293; NIST SP 800-38B). -/
def cmac (alg key : Nat) (l : List Byte) : List Byte := beBytes 16 (cmacChain alg key (l.length / 16 + 1) 0 l)

/-- Blocks of 16 bytes that an XGEM payload or a packet counts against its context (R286). -/
def xgemBlocks (bytes : Nat) : Nat := (bytes + 15) / 16

/-- Blocks that a message or a chunk of a job counts: at least 1 (R286). -/
def blocks16 (bytes : Nat) : Nat := max 1 (xgemBlocks bytes)

/-! ## Key contexts -/

/-- The key of a context as the cipher takes it: AES-128 uses bits [511:384]. -/
def Dev.keyOf (d : Dev) (c : Nat) : Nat :=
  if d.rdT .cxKey c CX_KEY.ALG = 0 then d.rdT .cxKey c CX_KEY.KEY / 2 ^ 128 else d.rdT .cxKey c CX_KEY.KEY

/-- ALG of a context. -/
def Dev.algOf (d : Dev) (c : Nat) : Nat := d.rdT .cxKey c CX_KEY.ALG

/-- Write a record of the key log (Table CPH–7): it stops at 64 records, or overwrites the oldest. -/
def Dev.keyLog (d : Dev) (c event : Nat) : Dev :=
  let n := d.rd .cx0 CX_STAT.LOG_COUNT
  let tree := d.rdT .cxKey c CX_KEY.TAG_TREE
  let put (d : Dev) (i : Nat) : Dev := d.wrTs .cxKeyLog i
    [(CX_KEY_LOG.SFC, d.sfc (d.lead tree)), (CX_KEY_LOG.CTX, c), (CX_KEY_LOG.EVENT, event), (CX_KEY_LOG.TREE, tree),
     (CX_KEY_LOG.TIME, d.us)]
  if n < 64 then
    let d1 := (put d n).wr .cx0 CX_STAT.LOG_COUNT (n + 1)
    if n = 63 ∧ !d.on .cx0 CX_CTRL.LOG_WRAP then (d1.wr .cx0 CX_STAT.LOG_FULL 1).raise .cx0 4 else d1
  else if d.on .cx0 CX_CTRL.LOG_WRAP then
    (put d d.path.cx.logAt).setCx { d.path.cx with logAt := (d.path.cx.logAt + 1) % 64 }
  else d

/-- A context freezes (R285, R287): cause 1 hard limit, 2 count regress. -/
def Dev.freeze (d : Dev) (c cause : Nat) : Dev :=
  let d1 := d.wrTs .cxKey c [(CX_KEY.FROZEN, 1), (CX_KEY.FREEZE_CAUSE, cause)]
  ((d1.keyLog c (cause + 1)).raise .cx0 1).report 36 (d.rdT .cxKey c CX_KEY.TAG_TREE) c

/-- Add blocks to a context's USAGE, with the soft and the hard limit (R286, R287). -/
def Dev.useKey (d : Dev) (c blocks : Nat) : Dev :=
  let d1 := (d.satT .cxKey c CX_KEY.USAGE blocks).pm 18 c blocks
  let u := d1.rdT .cxKey c CX_KEY.USAGE
  let d2 :=
    if !d1.onT .cxKey c CX_KEY.SOFT_HIT && 2 ^ d1.rdT .cxKey c CX_KEY.SOFT_LOG2 ≤ u then
      ((d1.wrT .cxKey c CX_KEY.SOFT_HIT 1).keyLog c 1).raise .cx0 0
    else d1
  if !d2.onT .cxKey c CX_KEY.FROZEN && 2 ^ d2.rdT .cxKey c CX_KEY.HARD_LOG2 ≤ u then d2.freeze c 1 else d2

/-- The tag bits [93:74] that tenant, tree and ONU call for, with their parity. -/
def keyTag (tenant tree onu : Nat) : Nat :=
  let b := tenant * 2 ^ 14 + tree * 2 ^ 8 + onu
  ones 18 b % 2 * 2 ^ 19 + b

/-- The tag bits [93:74] of a context. -/
def Dev.ctxTag (d : Dev) (c : Nat) : Nat :=
  d.rdT .cxKey c CX_KEY.TAG_P * 2 ^ 19 + d.rdT .cxKey c CX_KEY.TAG_TENANT * 2 ^ 14 +
    d.rdT .cxKey c CX_KEY.TAG_TREE * 2 ^ 8 + d.rdT .cxKey c CX_KEY.TAG_ONU

/-- The tag that a flow requires of its context. -/
def Dev.flowKeyTag (d : Dev) (f : Nat) : Nat :=
  keyTag (d.rdT .clFlow f CL_FLOW.TENANT) (d.rdT .clFlow f CL_FLOW.TREE) (d.rdT .clFlow f CL_FLOW.ONU)

/-- The tag check of a fetch for a flow's frame (R281). -/
def Dev.keyTagOk (d : Dev) (f c : Nat) (up : Bool) : Bool :=
  d.ctxTag c == d.flowKeyTag f &&
    (d.rdT .cxKey c CX_KEY.KIND == 0 || (!up && d.rdT .cxKey c CX_KEY.KIND == 1))

/-- What a failed tag check counts and raises on tree `n` (R281); a context whose read failed is a memory error too. -/
def Dev.keyTagFail (d : Dev) (n f c : Nat) (bad : Bool) : Dev :=
  let d1 := ((d.cnt .cxCnt (n * 8 + 4)).raise .cx0 2).sep (d.rdT .clFlow f CL_FLOW.TENANT) 4 c
  if bad then d1.memError .cxKey c else d1

/-- The counter block of a bonded group (Table CPH–2). -/
def groupBlock (sfc dir seq id blk : Nat) : Nat := sfc * 2 ^ 77 + dir * 2 ^ 76 + seq * 2 ^ 60 + id * 2 ^ 44 + blk

/-! ## The downstream key of a pair at a frame start (R284) -/

/-- The contexts of a tree that are due at superframe count `sfc`. -/
def Dev.dueKeys (d : Dev) (n sfc : Nat) : List Nat :=
  ((d.listedT .cxKey CX_KEY.VALID).map (fun e => e.1)).filter (fun c =>
    d.rdT .cxKey c CX_KEY.TAG_TREE == n && !d.onT .cxKey c CX_KEY.FROZEN && decide (d.rdT .cxKey c CX_KEY.KIND < 2) &&
      decide (d.rdT .cxKey c CX_KEY.ACT_SFC ≤ sfc))

/-- The context that becomes, or stays, the downstream key of a pair, of those due. -/
def Dev.pairKey (d : Dev) (due : List Nat) (p : Nat) : Option Nat :=
  let e := due.contains (2 * p)
  let o := due.contains (2 * p + 1)
  let se := d.rdT .cxKey (2 * p) CX_KEY.ACT_SFC
  let so := d.rdT .cxKey (2 * p + 1) CX_KEY.ACT_SFC
  if e && o then
    if so < se then some (2 * p) else if se < so then some (2 * p + 1)
    else if d.onT .cxKey (2 * p + 1) CX_KEY.ACTIVE_DS then some (2 * p + 1) else some (2 * p)
  else if e then some (2 * p) else if o then some (2 * p + 1) else none

/-- Choose the downstream key of one pair: on a change the partner's ACTIVE_DS falls, the switch is logged, and the scan
that ends the pair's pause begins (R288). -/
def Dev.pairSwitch (due : List Nat) (d : Dev) (p : Nat) : Dev :=
  match d.pairKey due p with
  | none => d
  | some c =>
    if d.onT .cxKey c CX_KEY.ACTIVE_DS then d
    else
      let other := if c % 2 = 0 then c + 1 else c - 1
      let d1 := ((d.wrT .cxKey other CX_KEY.ACTIVE_DS 0).wrT .cxKey c CX_KEY.ACTIVE_DS 1).keyLog c 4
      d1.setCx { d1.path.cx with scan := d1.path.cx.scan.filter (· != p) ++ [p] }

/-- Choose the downstream keys of every pair of a tree at a frame start. -/
def Dev.keySwitch (d : Dev) (n sfc : Nat) : Dev :=
  let due := d.dueKeys n sfc
  let pairs := (due.map (· / 2)).foldl (fun l p => if l.contains p then l else l ++ [p]) []
  pairs.foldl (Dev.pairSwitch due) d

/-! ## Integrity codes (R291, R292) -/

/-- The PLOAM integrity context of an ONU; `none` for the default key: a broadcast, or PLOAM_V = 0. -/
def Dev.ploamCtx (d : Dev) (n onu : Nat) : Option Nat :=
  if onu < 256 ∧ d.onT .cxOnuKeys (n * 256 + onu) CX_ONU_KEYS.PLOAM_V then
    some (d.rdT .cxOnuKeys (n * 256 + onu) CX_ONU_KEYS.PLOAM_IK)
  else none

/-- The integrity code of a management message under a context, or under the default key: the first `k` bytes of its
AES-CMAC over the bytes covered (R291).  The 8 bytes of PLOAM are R65's; which bytes are covered and the 4 bytes of OMCI
are the recommendations' (log 4). -/
def Dev.mic (d : Dev) (c : Option Nat) (k : Nat) (l : List Byte) : List Byte :=
  (match c with
   | some c => cmac (d.algOf c) (d.keyOf c) l
   | none => cmac 0 (Config.ploamKey % 2 ^ 128) l).take k

/-- The integrity code of a PLOAM message (R65, R291). -/
def Dev.ploamMic (d : Dev) (c : Option Nat) (l : List Byte) : Nat :=
  (d.mic c 8 l).foldl (fun v b => v * 256 + b.toNat) 0

/-- Count the use of a management context over a message. -/
def Dev.useMgmt (d : Dev) (c : Option Nat) (bytes : Nat) : Dev :=
  match c with
  | some c => d.useKey c (blocks16 bytes)
  | none => d

end Sys2Proof.Machine
end

