-- ==== Sys2Proof/Machine/Cipher.lean ====
section
/-! DEFINITION. The cipher engine's commands: downstream encryption, upstream decryption with policing, the scan after a
key switch, and tenant jobs (R273, R278–R296). -/

namespace Sys2Proof.Machine

/-! ## Downstream (R180, R281–R288) -/

/-- Bytes that an XGEM frame of a payload length takes: header and padding (R67). -/
def xgemBytes (len : Nat) : Nat := 8 + (len + 3) / 4 * 4

/-- Bytes of a member's payload field that the frames already assigned to it leave free. -/
def Dev.freeRoom (d : Dev) (m : Nat) : Int :=
  ((d.fr m).room : Int) - ((d.fr m).ready.foldl (fun s x => s + xgemBytes x.payload.length) 0 : Nat)

/-- The line takes payload: the framer is SENDING and its page is not asked to quiesce (R70, R73). -/
def Dev.lineTakes (d : Dev) (m : Nat) : Bool :=
  d.rd (.te m 0) TE_TX_STAT.FSTATE == 2 && !d.on (.te m 0) PAGE_CTRL.QUIESCE_REQ

/-- The members that can carry a fragment in the frame under construction: in service, with at least 16 bytes left
(R68, R181). -/
def Dev.roomy (d : Dev) (g : Nat) : List Nat :=
  (d.members g).filter (fun m => d.lineTakes m && d.inService m && decide (16 ≤ d.freeRoom m))

/-- Whether the next frame of tree `n` can be served now: an unbonded tree's framer waits for it with at least 16 bytes
left; on a group no packet waits to be cut and a member has room, so that the packet's first fragment goes into the frame
whose count its counter block uses (R283). -/
def Dev.encReady (d : Dev) (n : Nat) : Bool :=
  match d.groupOf n with
  | some g => d.enabled .bd && (d.path.cx.cut.get [] g).isEmpty && !(d.roomy g).isEmpty
  | none => d.lineTakes n && (d.fr n).ready == [] && 16 ≤ (d.fr n).room

/-- Take the first item that can go on: of a clear flow, or of one whose pair has a usable downstream key. -/
def Dev.takeItem (d : Dev) : List CxItem → Option (CxItem × List CxItem)
  | [] => none
  | x :: t =>
    if !d.onT .clFlow x.flow CL_FLOW.CIPHER_EN || (d.enabled .cx0 && (d.dsKey (d.flowPair x.flow)).isSome) then some (x, t)
    else (d.takeItem t).map (fun r => (r.1, x :: r.2))

/-- How much payload fits in what is left of the field (R68): all of it, or a fragment of whole words. -/
def fitBytes (room len : Nat) : Nat := if xgemBytes len ≤ room then len else (room - 8) / 4 * 4

/-- Intra-frame word position of the payload of an XGEM frame placed next on a tree. -/
def Dev.payloadPos (d : Dev) (m : Nat) : Nat := (d.frameBytes m - (d.fr m).room + 8) / 4

/-- Encrypt the bytes that go into the field at the framer's position on an unbonded tree (R282). -/
def Dev.treeCipher (d : Dev) (n c : Nat) (l : List Byte) : List Byte :=
  ctrMode (d.algOf c) (d.keyOf c) (Config.ctrBlock (d.sfc n) 0 (d.payloadPos n)) l

/-! ### Cutting a packet of a group (R180, R181, R283) -/

/-- The member whose field has the most bytes left after a fragment of `len` bytes; ties to the lowest slot. -/
def Dev.roomiest (d : Dev) (g len : Nat) : Option Nat :=
  (d.roomy g).foldl (fun (best : Option Nat) m =>
    match best with
    | none => some m
    | some k => if d.freeRoom k - (xgemBytes len : Int) < d.freeRoom m - (xgemBytes len : Int) then some m else some k) none

/-- Set the packets of a group that wait to be cut. -/
def Dev.setCut (d : Dev) (g : Nat) (l : List CutPkt) : Dev :=
  d.setCx { d.path.cx with cut := d.path.cx.cut.put [] g l }

/-- The label of a fragment on a group (Table BND–1). -/
def bondLabel (seq : Nat) (first last : Bool) : Nat := seq % 65536 + last.toNat * 65536 + first.toNat * 131072

/-- The label of an XGEM frame sent whole to an ONU of tree `n`, with its number taken: 0 but on a group (R179). -/
def Dev.label (d : Dev) (n onu : Nat) : Nat × Dev :=
  match d.groupOf n with
  | some g => (bondLabel ((d.bd g).dsSeq.get 0 onu) true true,
      d.setBd g { d.bd g with dsSeq := (d.bd g).dsSeq.put 0 onu (((d.bd g).dsSeq.get 0 onu + 1) % 65536) })
  | none => (0, d)

/-- Assign up to `k` more fragments of a packet; what finds no room in the frames under construction waits in front. -/
def Dev.cutOut : Nat → Dev → Nat → CutPkt → Dev
  | 0, d, g, c => d.setCut g (c :: d.path.cx.cut.get [] g)
  | k + 1, d, g, c =>
    let rest := c.frame.payload.drop (c.next * c.frag)
    let part := rest.take c.frag
    let last := decide (rest.length ≤ c.frag)
    match d.roomiest g part.length with
    | none => d.setCut g (c :: d.path.cx.cut.get [] g)
    | some m =>
      let x : Xgem := { c.frame with options := bondLabel (c.seq + c.next) (c.next == 0) last, payload := part }
      let d1 := (d.setFr m { d.fr m with ready := (d.fr m).ready ++ [x] }).cnt .bdCnt (g * 16)
      if last then (if 0 < c.next then d1.cnt .bdCnt (g * 16 + 1) else d1)
      else Dev.cutOut k d1 g { c with next := c.next + 1 }

/-- Take the next sequence numbers of an ONU's stream on a group, `k` of them. -/
def Dev.takeSeq (d : Dev) (g onu k : Nat) : Dev :=
  d.setBd g { d.bd g with dsSeq := (d.bd g).dsSeq.put 0 onu (((d.bd g).dsSeq.get 0 onu + k) % 65536) }

/-- Hand a frame to the bonding unit with the packet's first sequence number; its first fragment takes its place in the
frame under construction at once (R283). -/
def Dev.toBonding (d : Dev) (g onu : Nat) (x : Xgem) : Dev :=
  let seq := (d.bd g).dsSeq.get 0 onu
  let frag := max 1 (if (d.bd g).frag = 0 then d.rdT .bdGroup g BD_GROUP.FRAG_MAX else (d.bd g).frag)
  let n := (x.payload.length + frag - 1) / frag
  Dev.cutOut 1 (d.takeSeq g onu n) g { seq := seq, onu := onu, frag := frag, next := 0, frame := x }

/-- An item goes on encrypted under context `c`, or clear: to the framer of its tree, or to the bonding unit of its
group. -/
def Dev.encGo (d : Dev) (n : Nat) (x : CxItem) (c : Option Nat) : Dev :=
  let port := d.rdT .clFlow x.flow CL_FLOW.XGEM_PORT
  let idx := match c with | some k => k % 2 + 1 | none => 0
  let base : Xgem := { port := port, keyIdx := idx, options := 0, cipher := d.onT .clFlow x.flow CL_FLOW.CIPHER_EN,
                       done := c.isSome, payload := x.bytes, rest := [], item := some x }
  match d.groupOf n with
  | some g =>
    let onu := d.rdT .clFlow x.flow CL_FLOW.ONU
    match c with
    | some k =>
      let ctr := groupBlock (d.sfc (d.lead n)) 0 ((d.bd g).dsSeq.get 0 onu) port
      ((d.useKey k (xgemBlocks x.bytes.length)).toBonding g onu
        { base with payload := ctrMode (d.algOf k) (d.keyOf k) ctr x.bytes, item := none }).release x.handle x.tag
    | none => (d.toBonding g onu { base with item := none }).release x.handle x.tag
  | none =>
    match c with
    | some k =>
      let m := fitBytes (d.fr n).room x.bytes.length
      let y := { base with payload := d.treeCipher n k (x.bytes.take m), rest := x.bytes.drop m }
      (d.setFr n { d.fr n with ready := [y] }).useKey k (xgemBlocks m)
    | none => d.setFr n { d.fr n with ready := [base] }

/-- Encrypt the next frame that the scheduler chose for tree `n`.  `badCtx`: the context's read fails its check;
`badData`: the buffer's data is uncorrectable (R250, R306). -/
def Dev.dsEncrypt (n : Nat) (badCtx badData : Bool) (d : Dev) : Dev :=
  if !d.encReady n || d.standby n then d
  else
    match d.takeItem (d.path.cx.ds.get [] n) with
    | none => d
    | some (x, rest) =>
      let d1 := d.setCx { d.path.cx with ds := d.path.cx.ds.put [] n rest }
      if badData then (d1.dataError x.handle).release x.handle x.tag
      else if !d.onT .clFlow x.flow CL_FLOW.CIPHER_EN then d1.encGo n x none
      else
        match d.dsKey (d.flowPair x.flow) with
        | none => d
        | some c =>
          if badCtx || !d.keyTagOk x.flow c false then
            (d1.keyTagFail n x.flow c badCtx).toTub
              { handle := x.handle, slot := x.tag, expected := d.flowKeyTag x.flow, found := d.ctxTag c, reason := 4,
                acct := d.acctFor (.flow x.flow) }
          else if d.sfc (d.lead n) < d.rdT .cxKey c CX_KEY.HWM_SFC then d.freeze c 2
          else ((d1.wrT .cxKey c CX_KEY.HWM_SFC (d.sfc (d.lead n))).cnt .cxCnt (n * 8)).encGo n x (some c)

/-- DS_ENCRYPT. -/
def execDsEncrypt (n : Nat) (badCtx badData : Bool) (s : State) : Host.Outcome State Fault Refusal :=
  s.run (.dsEncrypt n badCtx badData) (Dev.dsEncrypt n badCtx badData)

/-! ## Upstream (R273, R290) -/

/-- What a bucket of `burst` bytes filled at `rate` kb/s lacks now, in 1/8,000,000 byte. -/
def bucketLack (lack rate dt : Nat) : Nat := lack - rate * dt

/-- Tokens of a bucket in whole bytes. -/
def bucketTokens (burst lack : Nat) : Nat := (burst * 8000000 - lack) / 8000000

/-- What a flow's committed and peak buckets lack now. -/
def Dev.bucketNow (d : Dev) (f : Nat) : Nat × Nat :=
  let b := d.path.sc.bucket.get (0, 0, 0) f
  (bucketLack b.1 (d.rdT .scPolicer f SC_POLICER.CIR) (d.now - b.2.2),
   bucketLack b.2.1 (d.rdT .scPolicer f SC_POLICER.PIR) (d.now - b.2.2))

/-- Set what a flow's buckets lack. -/
def Dev.setBucket (d : Dev) (f c p : Nat) : Dev :=
  d.setSc { d.path.sc with bucket := d.path.sc.bucket.put (0, 0, 0) f (if c = 0 ∧ p = 0 then (0, 0, 0) else (c, p, d.now)) }

/-- The policer's colour of a frame of `len` bytes: 0 green, 1 yellow, 2 red, with its tokens taken (R273). -/
def Dev.police (d : Dev) (f len : Nat) : Nat × Dev :=
  if !d.onT .scPolicer f SC_POLICER.EN then (0, d.addT .scPolicer f SC_POLICER.GREEN_PKTS)
  else
    let l := d.bucketNow f
    let cost := len * 8000000
    if d.rdT .scPolicer f SC_POLICER.PBS * 8000000 < cost + l.2 then (2, d.addT .scPolicer f SC_POLICER.RED_PKTS)
    else if d.rdT .scPolicer f SC_POLICER.CBS * 8000000 < cost + l.1 then
      (1, (d.setBucket f l.1 (l.2 + cost)).addT .scPolicer f SC_POLICER.YELLOW_PKTS)
    else (0, (d.setBucket f (l.1 + cost) (l.2 + cost)).addT .scPolicer f SC_POLICER.GREEN_PKTS)

/-- A frame in plain passes the policer to the classifier, or is dropped and counted (R273). -/
def Dev.usPass (d : Dev) (n f : Nat) (bytes : List Byte) : Dev :=
  let r := d.police f bytes.length
  if r.1 = 2 then (r.2.cnt .scCnt (n * 8 + 6)).pm 12 f
  else if r.1 = 1 ∧ d.onT .scPolicer f SC_POLICER.YEL_DROP then (r.2.cnt .scCnt (n * 8 + 5)).pm 12 f
  else
    let e := r.2.pm 11 f
    { e with path := { e.path with
      cl := e.path.cl ++ [{ up := true, port := n, flow := f, bytes := bytes, ts := none }] } }

/-- The slack tub's record for an upstream frame that fails its tag check (R281, Table ARC–4 step 5).  No buffer holds the
frame yet, so nothing is released, and which HANDLE the record shows is a free value (DESIGN CHOICE, log 72). -/
def Dev.tubBare (d : Dev) (f c : Nat) : Dev :=
  let d1 := d.freed.tubLog 4 d.free (d.flowKeyTag f) (d.ctxTag c)
  (d1.cnt .bpAcctCnt (d.acctFor (.flow f) * 8 + 7)).raise (.bp 0) 2

/-- Decrypt the next matched upstream frame of tree `n` under the context of its pair that the received key index names
(R290), and police it. -/
def Dev.usDecrypt (n : Nat) (badCtx : Bool) (d : Dev) : Dev :=
  match d.path.cx.dec.get [] n with
  | [] => d
  | (f, x) :: t =>
    let enc := d.onT .clFlow f CL_FLOW.CIPHER_EN
    if enc && !d.enabled .cx0 then d
    else
      let d1 := d.setCx { d.path.cx with dec := d.path.cx.dec.put [] n t }
      if !enc then (if x.keyIdx = 0 then d1.usPass n f x.payload else d1.cnt .cxCnt (n * 8 + 2))
      else if x.keyIdx = 0 then d1.cnt .cxCnt (n * 8 + 3)
      else
        let c := d.flowPair f * 2 + (x.keyIdx - 1)
        if x.keyIdx = 3 ∨ !d.onT .cxKey c CX_KEY.VALID then d1.cnt .cxCnt (n * 8 + 2)
        else if badCtx || !d.keyTagOk f c true then (d1.keyTagFail n f c badCtx).tubBare f c
        else
          let ctr := if (d.groupOf n).isSome then groupBlock x.sfc 1 x.seq x.allocId else Config.ctrBlock x.sfc 1 x.pos
          let plain := ctrMode (d.algOf c) (d.keyOf c) ctr x.payload
          ((d1.cnt .cxCnt (n * 8 + 1)).useKey c (xgemBlocks x.payload.length)).usPass n f plain

/-- US_DECRYPT. -/
def execUsDecrypt (n : Nat) (badCtx : Bool) (s : State) : Host.Outcome State Fault Refusal :=
  s.run (.usDecrypt n badCtx) (Dev.usDecrypt n badCtx)

/-- The scan after a key switch ends (R288): PAUSED falls on every queue whose flow names the pair. -/
def Dev.pauseScanDone (pair : Nat) (d : Dev) : Dev :=
  if d.path.cx.scan.contains pair then
    let d1 := d.setCx { d.path.cx with scan := d.path.cx.scan.filter (· != pair) }
    let l := (d1.listedT .scQueue SC_QUEUE.PAUSED).map (fun e => e.1)
    (l.filter (fun q => d1.flowPair q == pair)).foldl (fun (x : Dev) q => x.wrT .scQueue q SC_QUEUE.PAUSED 0) d1
  else d

/-- PAUSE_SCAN_DONE. -/
def execPauseScanDone (pair : Nat) (s : State) : Host.Outcome State Fault Refusal :=
  s.run (.pauseScanDone pair) (Dev.pauseScanDone pair)

/-! ## Tenant jobs (R293, R294) -/

/-- Jobs waiting in a tenant's ring. -/
def Dev.jobsWaiting (d : Dev) (t : Nat) : Nat :=
  (d.rd (.cxt t) CX_JOBQ_PI.PI + 8192 - d.rd (.cxt t) CX_JOBQ_CI.CI) % 8192

/-- A tenant's job in progress. -/
def Dev.job (d : Dev) (t : Nat) : Option Job := d.path.cx.job.get none t

/-- Set a tenant's job in progress. -/
def Dev.setJob (d : Dev) (t : Nat) (j : Option Job) : Dev :=
  d.setCx { d.path.cx with job := d.path.cx.job.put none t j }

/-- Tenant `t` has work for a core: a job in progress with chunks left, or one that its queue may start (R293, R295). -/
def Dev.jobWants (d : Dev) (t : Nat) : Bool :=
  match d.job t with
  | some j => d.live .cx0 && !j.fin
  | none => d.takes .cx0 && d.on .cx0 CX_CTRL.JOB_EN && d.takes (.cxt t) && d.on (.cxt t) CX_JOBQ_CFG.EN &&
      !d.onT .tnTenant t TN_TENANT.FLR_BUSY && d.jobsWaiting t != 0

/-- Line payload waits for a core (R278 levels 1 and 2). -/
def Dev.lineWaits (d : Dev) : Bool :=
  (List.range 48).any (fun n =>
    (d.encReady n && !d.standby n && (d.takeItem (d.path.cx.ds.get [] n)).isSome) ||
    (match d.path.cx.dec.get [] n with
     | [] => false
     | (f, _) :: _ => !d.onT .clFlow f CL_FLOW.CIPHER_EN || d.enabled .cx0))

/-- A core goes to tenant `t` now: no line payload waits, and of the tenants with work it is the first from the one whose
turn it is (R278). -/
def Dev.jobTakes (d : Dev) (t : Nat) : Bool :=
  !d.lineWaits && ((List.range 16).map (fun k => (d.path.cx.jobNext + k) % 16)).find? d.jobWants == some t

/-- CX_STAT.CORES_BUSY: between commands a core works for each job begun and not done, the lowest cores first (Table CPH–6;
which core takes a job is a DESIGN CHOICE, log 12). -/
def Dev.coresBusy (d : Dev) : Nat :=
  2 ^ ((List.range 16).filter (fun t => (d.job t).any (fun j => !j.fin))).length - 1

/-- The turn passes to the tenant after `t`. -/
def Dev.jobTurn (d : Dev) (t : Nat) : Dev := d.setCx { d.path.cx with jobNext := (t + 1) % 16 }

/-- What a job has written with `k` of its chunks processed: the CFB text up to there, or the code once all are. -/
def Dev.jobOut (d : Dev) (j : Job) (all : Bool) : List Byte :=
  let b := j.src.take j.len
  let key := d.keyOf j.ctx
  let alg := d.algOf j.ctx
  if j.op = 1 then (cfbMode alg key false (j.len / 16 + 1) (toBlock j.aux) b).take (j.chunks * 4096)
  else if j.op = 2 then (cfbMode alg key true (j.len / 16 + 1) (toBlock j.aux) b).take (j.chunks * 4096)
  else if j.op = 3 ∧ all = true then cmac alg key b
  else []

/-- Process the next chunk of a tenant's job under its context, or end it where the context is frozen (R278, R287,
R293). -/
def Dev.jobChunk (d : Dev) (t : Nat) (j : Job) : Dev :=
  if d.onT .cxKey j.ctx CX_KEY.FROZEN then d.setJob t (some { j with status := 7, fin := true, out := d.jobOut j false })
  else
    let part := min (j.len - j.chunks * 4096) 4096
    let j1 : Job := { j with chunks := j.chunks + 1 }
    let d1 := d.useKey j.ctx (blocks16 part)
    if j.len ≤ j1.chunks * 4096 then
      let bad := decide (j.op = 4 ∧ cmac (d.algOf j.ctx) (d.keyOf j.ctx) (j.src.take j.len) ≠ j.aux.take 16)
      d1.setJob t (some { j1 with fin := true, status := if bad then 6 else 0, out := d.jobOut j1 true })
    else d1.setJob t (some j1)

/-- A core serves tenant `t`: it begins the queue's next job, of the descriptor's OP, KEY and LEN, with the source bytes,
the bytes at AUX and their address, or goes on with the one in progress; then it returns to the scheduler (R278). -/
def Dev.runJob (t op key len addr : Nat) (src aux : List Byte) (dmaErr : Bool) (d : Dev) : Dev :=
  if !d.jobTakes t then d
  else
    let e := d.jobTurn t
    match d.job t with
    | some j => if j.op = op then e.jobChunk t j else d
    | none =>
      let c := d.rdT .cxJobWin t CX_JOB_WIN.BASE + key
      let j : Job := { op := op, status := 0, ctx := c, len := len, src := src, aux := aux, addr := addr, chunks := 0,
                       fin := false, out := [] }
      let stop (st : Nat) : Dev := e.setJob t (some { j with status := st, fin := true })
      if d.rdT .cxJobWin t CX_JOB_WIN.COUNT ≤ key then stop 2
      else if !d.onT .cxKey c CX_KEY.VALID || d.rdT .cxKey c CX_KEY.KIND != 3 then stop 3
      else if 65536 < len ∨ (len = 0 ∧ op < 3) then stop 4
      else if dmaErr then stop 5
      else e.jobChunk t j

/-- JOB_CFB_ENCRYPT. -/
def execJobCfbEncrypt (f key len addr : Nat) (src aux : List Byte) (dmaErr : Bool) (s : State) :
    Host.Outcome State Fault Refusal :=
  s.run (.jobCfbEncrypt f key len addr src aux dmaErr) (Dev.runJob f 1 key len addr src aux dmaErr)

/-- JOB_CFB_DECRYPT. -/
def execJobCfbDecrypt (f key len addr : Nat) (src aux : List Byte) (dmaErr : Bool) (s : State) :
    Host.Outcome State Fault Refusal :=
  s.run (.jobCfbDecrypt f key len addr src aux dmaErr) (Dev.runJob f 2 key len addr src aux dmaErr)

/-- JOB_CMAC_GENERATE. -/
def execJobCmacGenerate (f key len addr : Nat) (src aux : List Byte) (dmaErr : Bool) (s : State) :
    Host.Outcome State Fault Refusal :=
  s.run (.jobCmacGenerate f key len addr src aux dmaErr) (Dev.runJob f 3 key len addr src aux dmaErr)

/-- JOB_CMAC_VERIFY. -/
def execJobCmacVerify (f key len addr : Nat) (src aux : List Byte) (dmaErr : Bool) (s : State) :
    Host.Outcome State Fault Refusal :=
  s.run (.jobCmacVerify f key len addr src aux dmaErr) (Dev.runJob f 4 key len addr src aux dmaErr)

/-- Address of descriptor `i` of a tenant's queue (R293). -/
def Dev.jobDesc (d : Dev) (t i : Nat) : Nat :=
  d.rd (.cxt t) CX_JOBQ_BASE.LO + 2 ^ 32 * d.rd (.cxt t) CX_JOBQ_BASE.HI +
    32 * (i % 2 ^ d.rd (.cxt t) CX_JOBQ_CFG.SIZE_LOG2)

/-- Where a job writes: after the IV for the CFB modes, else at AUX (Table CPH–4). -/
def Job.dest (j : Job) : Nat := if j.op ≤ 2 then j.addr + 16 else j.addr

/-- A job that has nothing left to do completes (R293): its completion and its output are written, CI advances, JOB_DONE
or JOB_ERR is set.  With no job in progress, `badOp` says that the descriptor at CI holds an OP that is none of the four:
STATUS 1. -/
def Dev.jobComplete (t : Nat) (badOp : Bool) (d : Dev) : Dev :=
  let finish (d : Dev) (st dest : Nat) (out : List Byte) : Dev :=
    let ci := d.rd (.cxt t) CX_JOBQ_CI.CI
    let d1 := (d.setJob t none).emit (.jobDone t (d.jobDesc t ci) st (d.epoch t) dest out)
    let d2 := (d1.wr (.cxt t) CX_JOBQ_CI.CI ((ci + 1) % 8192)).cnt (.cxJobCnt t) st
    d2.raise (.cxt t) (if st = 0 then 0 else 1)
  match d.job t with
  | some j => if j.fin then finish d j.status j.dest j.out else d
  | none => if badOp && d.jobTakes t then finish (d.jobTurn t) 1 0 [] else d

/-- JOB_COMPLETE. -/
def execJobComplete (f : Nat) (badOp : Bool) (s : State) : Host.Outcome State Fault Refusal :=
  s.run (.jobComplete f badOp) (Dev.jobComplete f badOp)

/-- A write of CX_JOBQ_PI: refused when the ring would hold more than its size. -/
def Dev.wJobPi (t v : Nat) (d : Dev) : Dev :=
  let pi := CX_JOBQ_PI.PI.get v
  if 2 ^ d.rd (.cxt t) CX_JOBQ_CFG.SIZE_LOG2 < (pi + 8192 - d.rd (.cxt t) CX_JOBQ_CI.CI) % 8192 then
    d.logErr (.cxt t) 0x283
  else d.wr (.cxt t) CX_JOBQ_PI.PI pi

/-- JOBQ_PI_WRITE. -/
def execJobqPiWrite (b : By) (f v : Nat) (s : State) : Host.Outcome State Fault Refusal :=
  s.run (.jobqPiWrite b f v) (fun d => d.hostF b (.cxt f) CX_JOBQ_PI.PI v (Dev.wJobPi f v))

end Sys2Proof.Machine
end

