-- ==== Sys2Proof/Machine/Parser.lean ====
section
/-! DEFINITION. The header parser of the classifier: layers (Table CLS–1), the limits and contradictions that end a parse
(R221–R224) and the key (R225, Table CLS–2). -/

namespace Sys2Proof.Machine

/-- Big-endian value of `k` bytes at an offset; bytes beyond the list read 0. -/
def beAt (b : List Byte) (off k : Nat) : Nat := ((b.drop off).take k).foldl (fun v x => v * 256 + x.toNat) 0 *
  256 ^ (k - ((b.drop off).take k).length)

/-- The limits of a profile that the parser uses. -/
structure ParseCfg where
  depth : Nat
  layers : Nat
  trailOk : Bool
  tpid : Nat
  vxlan : Nat
  mplsUdp : Nat
  deriving DecidableEq, Repr

/-- The fields of the headers of one segment: before the first tunnel, or after a tunnel. -/
structure Seg where
  eth : Bool
  dmac : Nat
  smac : Nat
  tags : Nat
  /-- tags of every kind, MPLS labels among them -/
  allTags : Nat
  tag0 : Nat
  tag1 : Nat
  etype : Nat
  l3 : Nat
  l4 : Nat
  tos : Nat
  proto : Nat
  sip : Nat
  dip : Nat
  sport : Nat
  dport : Nat
  tcpflags : Nat
  ttl : Nat
  flowlbl : Nat
  mtop : Option Nat
  mbos : Option Nat
  ppp : Option (Nat × Nat)
  deriving DecidableEq, Repr

/-- A segment with no header parsed. -/
def Seg.init : Seg :=
  { eth := false, dmac := 0, smac := 0, tags := 0, allTags := 0, tag0 := 0, tag1 := 0, etype := 0, l3 := 0, l4 := 0, tos := 0,
    proto := 0, sip := 0, dip := 0, sport := 0, dport := 0, tcpflags := 0, ttl := 0, flowlbl := 0, mtop := none,
    mbos := none, ppp := none }

/-- A parse in progress: the enclosing end and whether a length field declared it, the counts of R221, the classes
(0 none yet, 1 parse incomplete, 2 malformed), the segments, the tunnel identifiers, and whether the tunnel just
entered takes its identifier from the label that follows. -/
structure Parse where
  endAt : Nat
  declared : Bool
  layers : Nat
  tags : Nat
  tunnels : Nat
  pppoe : Bool
  frag : Bool
  cls : Nat
  outer : Seg
  cur : Seg
  id0 : Nat
  id1 : Nat
  idLabel : Bool
  deriving DecidableEq, Repr

/-- What the parser meets next. -/
inductive Hdr
  | eth | typ (t : Nat) | mpls | pppoe | ip4 | ip6 | ext (nh : Nat) | l4 (p : Nat) | gre | vxlan | mplsUdp | stop
  deriving DecidableEq, Repr

/-- A parse that ends with a class. -/
def Parse.fail (p : Parse) (c : Nat) : Parse × Hdr × Nat := ({ p with cls := c }, .stop, 0)

/-- Follow a header of `len` bytes at `off` (R221, R222 item 1, R223): the limits first, then the enclosing length. -/
def Parse.follow (p : Parse) (c : ParseCfg) (off len : Nat) (tag tunnel : Bool) (k : Parse → Parse × Hdr × Nat) :
    Parse × Hdr × Nat :=
  if c.depth < off + len ∨ c.layers < p.layers + 1 ∨ (tag ∧ 8 < p.tags + 1) ∨ (tunnel ∧ 2 < p.tunnels + 1) then p.fail 1
  else if p.endAt < off + len then p.fail 2
  else k { p with layers := p.layers + 1, tags := p.tags + tag.toNat, tunnels := p.tunnels + tunnel.toNat }

/-- Whether bytes beyond a declared end are padding of the outermost frame up to 60 bytes. -/
def Parse.padded (p : Parse) (n : Nat) : Bool := !p.declared && n ≤ 60

/-- A length field declares that its content ends at `e` (R222 items 2 and 7). -/
def Parse.declare (p : Parse) (c : ParseCfg) (n e : Nat) (k : Parse → Parse × Hdr × Nat) : Parse × Hdr × Nat :=
  if p.endAt < e then p.fail 2
  else if e < p.endAt ∧ !c.trailOk ∧ !p.padded n then p.fail 2
  else k { p with endAt := e, declared := true }

/-- Enter a tunnel: the headers so far are the outer ones, or lie between two tunnels and are dropped. -/
def Parse.enter (p : Parse) (id : Nat) (label : Bool) : Parse :=
  { p with outer := if p.tunnels = 1 then p.cur else p.outer, cur := Seg.init,
           id0 := if p.tunnels = 1 then id else p.id0, id1 := if p.tunnels = 1 then p.id1 else id, idLabel := label }

/-- What follows an Ethernet type or a GRE protocol type inside a tunnel. -/
def hdrOfType (t : Nat) : Hdr :=
  if t = 0x8847 ∨ t = 0x8848 then .mpls else if t = 0x8864 then .pppoe else if t = 0x0800 then .ip4
  else if t = 0x86dd then .ip6 else .stop

/-- What follows GRE. -/
def hdrOfGre (t : Nat) : Hdr := if t = 0x6558 then .eth else if t = 0x8864 then .stop else hdrOfType t

/-- One header of the parse: the parse after it, what comes next and where. -/
def Parse.step (c : ParseCfg) (b : List Byte) (p : Parse) (h : Hdr) (off : Nat) : Parse × Hdr × Nat :=
  let n := b.length
  let u (o k : Nat) : Nat := beAt b o k
  match h with
  | .stop => (p, .stop, off)
  | .eth =>
    p.follow c off 14 false false (fun p =>
      ({ p with cur := { p.cur with eth := true, dmac := u off 6, smac := u (off + 6) 6 } }, .typ (u (off + 12) 2),
       off + 14))
  | .typ t =>
    if t = 0x8100 ∨ t = 0x88a8 ∨ (c.tpid ≠ 0 ∧ t = c.tpid) then
      p.follow c off 4 true false (fun p =>
        let s := p.cur
        let s1 := if s.tags = 0 then { s with tag0 := u off 2 } else if s.tags = 1 then { s with tag1 := u off 2 } else s
        ({ p with cur := { s1 with tags := s.tags + 1, allTags := s.allTags + 1 } }, .typ (u (off + 2) 2), off + 4))
    else
      let p1 := { p with cur := { p.cur with etype := t } }
      if t < 0x600 then
        let left := p.endAt - off
        if t ≠ left ∧ !(decide (t < left) && p.padded n) then p1.fail 2 else (p1, .stop, off)
      else (p1, hdrOfType t, off)
  | .mpls =>
    p.follow c off 4 true false (fun p =>
      let e := u off 4
      let bottom := hasBit e 8
      let s := p.cur
      -- only the first stack of a segment is stored
      let s0 := { s with allTags := s.allTags + 1 }
      let s1 := if s.mbos.isSome then s0
                else { s0 with mtop := some (s.mtop.getD e), mbos := if bottom then some e else none }
      let p1 := if p.idLabel then
                  (if p.tunnels = 1 then { p with id0 := e / 4096, idLabel := false }
                   else { p with id1 := e / 4096, idLabel := false })
                else p
      let next : Hdr :=
        if !bottom then .mpls
        else if p.endAt ≤ off + 4 then .stop
        else if u (off + 4) 1 / 16 = 4 then .ip4 else if u (off + 4) 1 / 16 = 6 then .ip6 else .stop
      ({ p1 with cur := s1 }, next, off + 4))
  | .pppoe =>
    if p.pppoe then (p, .stop, off)
    else
      p.follow c off 8 false false (fun p =>
        if u off 1 ≠ 0x11 then p.fail 2
        else
          p.declare c n (off + 6 + u (off + 4) 2) (fun p =>
            let pr := u (off + 6) 2
            ({ p with pppoe := true, cur := { p.cur with ppp := some (u (off + 2) 2, pr) } },
             (if pr = 0x0021 then Hdr.ip4 else if pr = 0x0057 then Hdr.ip6 else Hdr.stop), off + 8)))
  | .ip4 =>
    let ihl := u off 1 % 16
    p.follow c off (if ihl < 5 then 20 else ihl * 4) false false (fun p =>
      if u off 1 / 16 ≠ 4 ∨ ihl < 5 ∨ u (off + 2) 2 < ihl * 4 then p.fail 2
      else
        p.declare c n (off + u (off + 2) 2) (fun p =>
          let pr := u (off + 9) 1
          let s := { p.cur with l3 := 1, tos := u (off + 1) 1, proto := pr, ttl := u (off + 8) 1,
                                sip := u (off + 12) 4, dip := u (off + 16) 4 }
          if u (off + 6) 2 % 0x4000 ≠ 0 then ({ p with cur := s, frag := true }, .stop, off)
          else ({ p with cur := s }, .l4 pr, off + ihl * 4)))
  | .ip6 =>
    p.follow c off 40 false false (fun p =>
      p.declare c n (off + 40 + u (off + 4) 2) (fun p =>
        let s := { p.cur with l3 := 2, tos := u off 4 / 2 ^ 20 % 256, flowlbl := u off 4 % 2 ^ 20,
                              ttl := u (off + 7) 1, sip := u (off + 8) 16, dip := u (off + 24) 16 }
        ({ p with cur := s }, .ext (u (off + 6) 1), off + 40)))
  | .ext nh =>
    if nh = 44 then
      -- what follows is payload in every fragment but the first
      p.follow c off 8 false false (fun p =>
        ({ p with frag := true, cur := { p.cur with proto := u off 1 } }, .stop, off + 8))
    else if nh = 0 ∨ nh = 43 ∨ nh = 60 then
      let len := (u (off + 1) 1 + 1) * 8
      p.follow c off len false false (fun p => (p, .ext (u off 1), off + len))
    else ({ p with cur := { p.cur with proto := nh } }, .l4 nh, off)
  | .l4 pr =>
    if pr = 6 then
      let d := u (off + 12) 1 / 16
      p.follow c off (if d < 5 then 20 else d * 4) false false (fun p =>
        if d < 5 then p.fail 2
        else
          ({ p with cur := { p.cur with l4 := 1, sport := u off 2, dport := u (off + 2) 2,
                                        tcpflags := u (off + 13) 1 } }, .stop, off))
    else if pr = 17 then
      p.follow c off 8 false false (fun p =>
        if u (off + 4) 2 < 8 then p.fail 2
        else
          p.declare c n (off + u (off + 4) 2) (fun p =>
            let dp := u (off + 2) 2
            ({ p with cur := { p.cur with l4 := 2, sport := u off 2, dport := dp } },
             (if c.vxlan ≠ 0 ∧ dp = c.vxlan then Hdr.vxlan else if c.mplsUdp ≠ 0 ∧ dp = c.mplsUdp then Hdr.mplsUdp
              else Hdr.stop), off + 8)))
    else if pr = 132 then
      p.follow c off 12 false false (fun p =>
        ({ p with cur := { p.cur with l4 := 4, sport := u off 2, dport := u (off + 2) 2 } }, .stop, off))
    else if pr = 1 ∨ pr = 58 then
      p.follow c off 8 false false (fun p => ({ p with cur := { p.cur with l4 := 3 } }, .stop, off))
    else if pr = 47 then (p, .gre, off)
    else (p, .stop, off)
  | .vxlan =>
    p.follow c off 8 false true (fun p => (p.enter (u (off + 4) 3) false, .eth, off + 8))
  | .mplsUdp =>
    if 2 < p.tunnels + 1 then p.fail 1 else ({ p with tunnels := p.tunnels + 1 }.enter 0 true, .mpls, off)
  | .gre =>
    let fl := u off 1
    let t := u (off + 2) 2
    let len := 4 + 4 * (bit fl 7 + bit fl 5 + bit fl 4)
    p.follow c off len false true (fun p =>
      let id := if hasBit fl 5 then u (off + 4 + 4 * bit fl 7) 4 else 0
      (p.enter id (!hasBit fl 5 && (t == 0x8847 || t == 0x8848)), hdrOfGre t, off + len))

/-- Run the parse.  Every header is a layer but for a type, an MPLS-over-UDP tunnel and the end of an extension chain,
so that 64 steps are more than the twelve layers can take. -/
def Parse.run (c : ParseCfg) (b : List Byte) : Nat → Parse → Hdr → Nat → Parse
  | 0, p, _, _ => p
  | _ + 1, p, .stop, _ => p
  | k + 1, p, h, off =>
    let r := p.step c b h off
    Parse.run c b k r.1 r.2.1 r.2.2

/-- The parse of a frame (R221–R224). -/
def parseFrame (c : ParseCfg) (b : List Byte) : Parse :=
  Parse.run c b 64
    { endAt := b.length, declared := false, layers := 0, tags := 0, tunnels := 0, pppoe := false, frag := false,
      cls := 0, outer := Seg.init, cur := Seg.init, id0 := 0, id1 := 0, idLabel := false } .eth 0

/-- A value of `w` bytes at byte `pos` of the 192-byte key, whose bit 0 is the most significant bit of byte 0. -/
def keyAt (pos w v : Nat) : Nat := v % 256 ^ w * 256 ^ (192 - pos - w)

/-- Bits [7:6] L3 and [5:3] L4 of a type byte. -/
def Seg.typeByte (s : Seg) : Nat := s.l3 * 64 + s.l4 * 8

/-- The key of a fully parsed frame without its range vector (R225, Table CLS–2), as one number: a field of width w at
key bit o is `key / 2^(1536 - o - w) % 2^w`. -/
def Parse.key (p : Parse) (inPort : Nat) : Nat :=
  let o := if p.tunnels = 0 then p.cur else p.outer
  let i := if p.tunnels = 0 then Seg.init else p.cur
  let ppp := (o.ppp.orElse (fun _ => i.ppp)).getD (0, 0)
  let m := if o.mtop.isSome then o else i
  let pppoe := o.ppp.isSome || i.ppp.isSome
  keyAt 0 1 inPort + keyAt 1 1 (p.frag.toNat * 128 + p.tunnels * 32 + (o.allTags + i.allTags) * 2 + pppoe.toNat) +
  keyAt 2 1 o.typeByte + keyAt 3 1 (i.typeByte + i.eth.toNat * 4) +
  keyAt 4 6 o.dmac + keyAt 10 6 o.smac + keyAt 16 2 o.tag0 + keyAt 18 2 o.tag1 + keyAt 20 2 o.etype +
  keyAt 22 4 (m.mtop.getD 0) + keyAt 26 4 (m.mbos.getD 0) + keyAt 30 2 ppp.1 + keyAt 32 2 ppp.2 +
  keyAt 34 1 o.tos + keyAt 35 1 o.proto + keyAt 36 16 o.sip + keyAt 52 16 o.dip + keyAt 68 2 o.sport +
  keyAt 70 2 o.dport + keyAt 72 1 o.tcpflags + keyAt 73 1 o.ttl + keyAt 74 4 o.flowlbl +
  keyAt 78 4 p.id0 + keyAt 82 4 p.id1 +
  keyAt 86 6 i.dmac + keyAt 92 6 i.smac + keyAt 98 2 i.tag0 + keyAt 100 2 i.tag1 + keyAt 102 2 i.etype +
  keyAt 104 1 i.tos + keyAt 105 1 i.proto + keyAt 106 16 i.sip + keyAt 122 16 i.dip + keyAt 138 2 i.sport +
  keyAt 140 2 i.dport + keyAt 142 1 i.tcpflags

/-- A field of the key: `w` bits from key bit `o`. -/
def keyField (key o w : Nat) : Nat := key / 2 ^ (1536 - o - w) % 2 ^ w

end Sys2Proof.Machine
end

