-- ==== Sys2Proof/Machine/Uplink.lean ====
section
/-! DEFINITION. The uplink MACs: frames received and transmitted, timestamps and launched frames (R321–R325, R345–R350). -/

namespace Sys2Proof.Machine

/-! ## Receive (R349, R321, R467) -/

/-- Count the FEC codewords decoded with a frame (Table SLU–8): corrected, uncorrectable, symbols corrected. -/
def Dev.ulFec (d : Dev) (u corr unc syms : Nat) : Dev :=
  let d1 := ((d.cnt (.ulCnt u) 9 corr).cnt (.ulCnt u) 10 unc).cnt (.ulCnt u) 11 syms
  if unc = 0 then d1 else d1.raise (.ulp u) 1

/-- A frame with its FCS: the CRC-32 over it, least significant byte first (PRESUMED, log 89). -/
def withFcs (l : List Byte) : List Byte := l ++ leBytes 4 (crc32 l)

/-- Whether the last four bytes of a frame are its FCS. -/
def fcsFits (l : List Byte) : Bool := 4 ≤ l.length && withFcs (l.take (l.length - 4)) == l

/-- A frame arrives on a port with its FCS; `marked`: an uncorrectable codeword has marked it.  It is discarded and counted,
or passed to the classifier without the FCS. -/
def Dev.ulReceive (u : Nat) (bytes : List Byte) (marked : Bool) (corr unc syms : Nat) (d : Dev) : Dev :=
  if !d.portOn u then d
  else
    let d1 := d.ulFec u corr unc syms
    let body := bytes.take (bytes.length - 4)
    if !d.on (.ulp u) UL_PORT_STAT.LINK_UP then d1.cnt (.ulCnt u) 13
    else if marked || !fcsFits bytes then d1.cnt (.ulCnt u) 2
    else if bytes.length < 64 then d1.cnt (.ulCnt u) 3
    else if d.rd (.ulp u) UL_PORT_CFG.MAX_FRAME < bytes.length then d1.cnt (.ulCnt u) 4
    else if beAt body 12 2 = 0x8808 then d1.cnt (.ulCnt u) 5
    else if !d.takes (.cl 0) then d1.cnt (.ulCnt u) 14
    else
      let ts := if hasBit (d.rd (.tm 1) TM_RXTS_EN.EN) u then some (d.time.sec % 2 ^ 32, d.time.ns) else none
      let d2 := (((d1.cnt (.ulCnt u) 0).cnt (.ulCnt u) 1 body.length).pm 13 u).pm 14 u body.length
      { d2 with path := { d2.path with
        cl := d2.path.cl ++ [{ up := false, port := u, flow := 0, bytes := body, ts := ts }] } }

/-- UL_FRAME_RECEIVE. -/
def execUlFrameReceive (u : Nat) (bytes : List Byte) (marked : Bool) (corr unc syms : Nat) (s : State) :
    Host.Outcome State Fault Refusal :=
  s.run (.ulFrameReceive u bytes marked corr unc syms) (Dev.ulReceive u bytes marked corr unc syms)

/-! ## Transmit (R350, R322–R325) -/

/-- A list with the bytes from `off` replaced. -/
def splice (l : List Byte) (off : Nat) (v : List Byte) : List Byte := l.take off ++ v ++ l.drop (off + v.length)

/-- The sum of the 16-bit words of a list, in one's complement (an odd last byte is the high half). -/
def sum16 (l : List Byte) : Nat :=
  (List.range ((l.length + 1) / 2)).foldl (fun s i => s + (l.getD (2 * i) 0).toNat * 256 + (l.getD (2 * i + 1) 0).toNat) 0

/-- Fold a sum to 16 bits in one's complement. -/
def fold16 (s : Nat) : Nat := if s = 0 then 0 else (s - 1) % 65535 + 1

/-- The Ethernet type of a frame after its VLAN tags; `fuel` bounds them. -/
def etherType : Nat → List Byte → Nat → Nat
  | 0, b, o => beAt b o 2
  | k + 1, b, o => if beAt b o 2 = 0x8100 ∨ beAt b o 2 = 0x88a8 then etherType k b (o + 4) else beAt b o 2

/-- The UDP checksum of a frame whose timestamp bytes changed (R322): 0 over IPv4, adjusted incrementally over IPv6. -/
def udpFix (old new : List Byte) (udp : Nat) : List Byte :=
  if etherType 8 new 12 = 0x86dd then
    let c := beAt old (udp + 6) 2
    let so := sum16 (old.drop udp)
    let sn := sum16 (new.drop udp)
    let v := 65535 - fold16 (65535 - c + sn + (so / 65535 + 1) * 65535 - so)
    splice new (udp + 6) (beBytes 2 (if v = 0 then 65535 else v))
  else splice new (udp + 6) [0#8, 0#8]

/-- A time rounded to the nearest nanosecond, halves up, in the 10-byte form of R322: 6 bytes of seconds, 4 of
nanoseconds. -/
def tod10 (t : TimeVal) : List Byte :=
  let ns := t.ns + (if 2 ^ 31 ≤ t.frac then 1 else 0)
  if ns = 1000000000 then beBytes 6 (t.sec + 1) ++ beBytes 4 0 else beBytes 6 t.sec ++ beBytes 4 ns

/-- Line rate of a port in Gb/s. -/
def Dev.portGbps (d : Dev) (u : Nat) : Nat := if d.octetMode u = 0 then 100 else if d.octetMode u = 1 then 400 else 800

/-- Nanoseconds that a frame takes with preamble, FCS and inter-frame gap, rounded up. -/
def Dev.lineNs (d : Dev) (u len : Nat) : Nat :=
  let r := d.portGbps u
  ((max 60 len + 24) * 8 + r - 1) / r

/-- The departure time P of a MAC frame in nanoseconds. -/
def TxFrame.launchAt (f : TxFrame) : Option Nat := (f.req.bind TxReq.launch).map Prod.fst

/-- The frame that the MAC may start now, with the rest (R325): a launched frame whose P has come, within the 10 ns of
the model's clock; else the first other frame, when it and its gap end before every P that waits. -/
def Dev.macNext (d : Dev) (u : Nat) : Option (TxFrame × List TxFrame) :=
  let l := d.path.mac.get [] u
  let due (f : TxFrame) : Bool := match f.launchAt with | some p => p ≤ d.nowNs + 10 | none => false
  let takeF (p : TxFrame → Bool) : Option (TxFrame × List TxFrame) :=
    (l.find? p).map (fun f => (f, l.erase f))
  match takeF due with
  | some r => some r
  | none =>
    match takeF (fun f => f.launchAt.isNone) with
    | none => none
    | some (f, rest) =>
      let fin := d.nowNs + d.lineNs u f.bytes.length
      if rest.all (fun g => match g.launchAt with | some p => fin ≤ p | none => true) then some (f, rest) else none

/-- The departure time of a frame: P for a launched frame that leaves on time, module time otherwise. -/
def Dev.departure (d : Dev) (f : TxFrame) (late : Bool) : TimeVal :=
  match f.launchAt with
  | some p => if late then d.time else ⟨p / 1000000000, p % 1000000000, 0⟩
  | none => d.time

/-- The MAC transmits its next frame.  `held`: a launched frame found the line held by another launched frame until now;
`badData`: the buffer's data is uncorrectable, and the frame is dropped (R250). -/
def Dev.ulTransmit (u : Nat) (held badData : Bool) (d : Dev) : Dev :=
  if !d.portOn u || !d.on (.ulp u) UL_PORT_STAT.LINK_UP then d
  else
    match d.macNext u with
    | none => d
    | some (f, rest) =>
      let d1 := { d with path := { d.path with mac := d.path.mac.put [] u rest } }
      if badData then ((d1.tsqLost u f.req).dataError f.handle).release f.handle f.tag
      else
        let late := held || (match f.launchAt with | some p => p + 10 < d.nowNs | none => false)
        let t := d.departure f late
        let b0 := f.bytes ++ List.replicate (60 - f.bytes.length) 0#8
        let b := match f.req with
          | some r =>
            if r.tsMode = 2 then
              let b1 := splice b0 r.tsOfs (tod10 t)
              if r.udpOfs = 0 then b1 else udpFix b0 b1 r.udpOfs
            else b0
          | none => b0
        let d2 := ((d1.emit (.ulFrame u (withFcs b))).cnt (.ulCnt u) 6).cnt (.ulCnt u) 7 b.length
        let d3 := if f.launchAt.isSome then d2.cnt .tmCnt (u * 8 + (if late then 3 else 2)) else d2
        let d4 := match f.req with
          | some r =>
            if r.tsMode = 1 then
              d3.tsqPut u { id := r.tsId, dropped := false, sec := t.sec, ns := t.ns, frac := t.frac / 65536 }
            else d3
          | none => d3
        d4.release f.handle f.tag

/-- UL_FRAME_TRANSMIT. -/
def execUlFrameTransmit (u : Nat) (held badData : Bool) (s : State) : Host.Outcome State Fault Refusal :=
  s.run (.ulFrameTransmit u held badData) (Dev.ulTransmit u held badData)

end Sys2Proof.Machine
end

