-- ==== Sys2Proof/Machine/Time.lean ====
section
/-! DEFINITION. Module time: its advance, steps and the one-second tick, the servo, the measurement of XTAL_A, and the
reads that latch (R59, R310–R320, R323, R442). -/

namespace Sys2Proof.Machine

/-! ## Ticks and steps (R312, R315, R442) -/

/-- Whether a key of the table store belongs to a counter table whose shadow takes the tick: its domain runs. -/
def Dev.shadowed (d : Dev) (k : Nat) : Bool :=
  match Tbl.ofNum (k / 536870912) with
  | none => false
  | some t => t.isCounter && !d.dark t.page.domain && !d.domInReset t.page.domain

/-- The tick (R315): every shadow bank takes the raw values of its table, TM_TICK shows the second, TICK is set. -/
def Dev.tick (d : Dev) (byStep : Bool) : Dev :=
  let kept : Store Nat := d.shads.filter (fun e => !d.shadowed e.1)
  let live : Store Nat := d.tbls.filter (fun e => d.shadowed e.1)
  let d1 := { d with shads := live.foldl (fun (s : Store Nat) (e : Nat × Nat) => s.ins e.1 e.2) kept }
  let d2 := d1.wrs (.tm 0) [(TM_TICK.SEC, d.time.sec), (TM_STAT.TICK_STEP, byStep.toNat)]
  (d2.cnt .tmCnt 263).raise (.tm 0) 0

/-- LAUNCH_WAIT of every aggregate whose head has a launch time beyond module time: a backward step delays it (R326). -/
def Dev.relaunch (d : Dev) : Dev :=
  d.path.sc.q.foldl (fun (x : Dev) e =>
    match (e.2.frames.head?.bind Held.req).bind TxReq.launch with
    | some (_, l) => if x.nowNs < l then x.wrT .scQueue e.1 SC_QUEUE.LAUNCH_WAIT 1 else x
    | none => x) d

/-- An announcement built before a step names a wrong time; so it does after every further step until its frame starts
(R329). -/
def Dev.annStepped (d : Dev) : Dev :=
  d.tm.built.foldl (fun (x : Dev) e => ((x.wrT .tmAnn e.1 TM_ANN.STEPPED 1).raise (.tm 2) 1).cnt .tmCnt 262) d

/-- Step module time to a value (R312, R315, R318, R329). -/
def Dev.stepTo (d : Dev) (t : TimeVal) : Dev :=
  let crossed := d.time.sec ≠ t.sec
  let d1 := ({ d with time := t }.cnt .tmCnt 257).raise (.tm 0) 1
  let d2 := d1.setTm { d1.tm with sync := d1.tm.sync.map (fun w => { w with stale := true }) }
  let d3 := d2.annStepped.relaunch
  if crossed then d3.tick true else d3

/-- A time as one number in units of 2^-32 ns. -/
def TimeVal.toNat (t : TimeVal) : Nat := (t.sec * 1000000000 + t.ns) * 2 ^ 32 + t.frac

/-- A number of units of 2^-32 ns as a time, its seconds modulo 2^48. -/
def TimeVal.ofInt (v : Int) : TimeVal :=
  let n := (v % (2 ^ 48 * 1000000000 * 2 ^ 32 : Nat)).toNat
  ⟨n / 2 ^ 32 / 1000000000, n / 2 ^ 32 % 1000000000, n % 2 ^ 32⟩

/-- Step module time by a signed number of units of 2^-32 ns. -/
def Dev.stepBy (d : Dev) (v : Int) : Dev := d.stepTo (TimeVal.ofInt ((d.time.toNat : Int) + v))

/-- The frame timebase goes on by an amount in units of 2^-32 ns (R56). -/
def Dev.baseOn (d : Dev) (v : Int) : Dev := { d with clk := { d.clk with base := ((d.clk.base : Int) + v).toNat } }

/-- The TM_TOD_CMD that is pending is applied (R314): within 100 ns of its write, here before the next time passes. -/
def Dev.todApply (d : Dev) : Dev :=
  match d.tm.todCmd with
  | none => d
  | some (op, v) =>
    let d1 := (d.setTm { d.tm with todCmd := none }).wr (.tm 0) TM_TOD_CMD.STAT 0
    if op = 1 then d1.stepTo (TimeVal.ofInt v) else d1.stepBy v

/-- The rest of the current second in elapsed nanoseconds, then the wrap with its tick. -/
def Dev.wrapSecond (d : Dev) : Dev :=
  ({ d.baseOn ((1000000000 * 2 ^ 32 : Int) - (d.time.ns * 2 ^ 32 + d.time.frac : Nat)) with
     time := ⟨(d.time.sec + 1) % 2 ^ 48, 0, 0⟩, now := d.now + (1000000000 - d.time.ns) }).tick false

/-- ONE_SECOND_TICK. -/
def execOneSecondTick (s : State) : Host.Outcome State Fault Refusal :=
  s.run .oneSecondTick (fun d => if d.live (.tm 0) then d.todApply.wrapSecond else d)

/-- What one TM cycle of 2 ns adds, in 2^-32 ns (R311): y stands in 2^-24 ppb. -/
def Dev.inc (d : Dev) : Int := 2 ^ 33 - 512 * d.tm.y / 1000000000

/-- Module time counts over ten nanoseconds: five cycles of the TM domain. -/
def Dev.countTime (d : Dev) : Dev :=
  let t := TimeVal.ofInt ((d.time.toNat : Int) + 5 * d.inc)
  let d1 := { d.baseOn (5 * d.inc) with time := t, now := d.now + 10 }
  if t.sec = d.time.sec then d1 else d1.tick false

/-! ## Commands of module time (R314) -/

/-- The value in TM_TOD_SET0–2 as a number of units of 2^-32 ns; the seconds signed for a STEP. -/
def Dev.todSet (d : Dev) (signed : Bool) : Int :=
  let s := d.rd (.tm 0) TM_TOD_SET.SEC_HI * 2 ^ 32 + d.rd (.tm 0) TM_TOD_SET.SEC_LO
  let si : Int := if signed then sext 48 s else s
  (si * 1000000000 + d.rd (.tm 0) TM_TOD_SET.NS) * 2 ^ 32 + d.rd (.tm 0) TM_TOD_SET.FRAC * 65536

/-- A write of TM_TOD_CMD: SET and STEP are pending with the value of TM_TOD_SET0–2 as the write finds it; another OP, NS
above 999,999,999, or a write while one is pending is refused.  The pending one keeps its STAT (DESIGN CHOICE, log 37). -/
def Dev.wTodCmd (v : Nat) (d : Dev) : Dev :=
  let op := TM_TOD_CMD.OP.get v
  if d.rd (.tm 0) TM_TOD_CMD.STAT = 1 then d.logErr (.tm 0) 0x2C0
  else
    let d1 := d.wr (.tm 0) TM_TOD_CMD.OP op
    if (op ≠ 1 ∧ op ≠ 2) ∨ 999999999 < d.rd (.tm 0) TM_TOD_SET.NS then
      (d1.wr (.tm 0) TM_TOD_CMD.STAT 3).logErr (.tm 0) 0x2C0
    else (d1.wr (.tm 0) TM_TOD_CMD.STAT 1).setTm { d1.tm with todCmd := some (op, d.todSet (op == 2)) }

/-- TOD_SET. -/
def execTodSet (b : By) (v : Nat) (s : State) : Host.Outcome State Fault Refusal :=
  s.run (.todSet b v) (fun d =>
    d.hostF b (.tm 0) TM_TOD_CMD.OP (TM_TOD_CMD.OP.set v 1) (Dev.wTodCmd (TM_TOD_CMD.OP.set v 1)))

/-- TOD_STEP. -/
def execTodStep (b : By) (v : Nat) (s : State) : Host.Outcome State Fault Refusal :=
  s.run (.todStep b v) (fun d =>
    d.hostF b (.tm 0) TM_TOD_CMD.OP (TM_TOD_CMD.OP.set v 2) (Dev.wTodCmd (TM_TOD_CMD.OP.set v 2)))

/-- A read of TM_TOD0 that reached the page (R313): the low seconds, with the other two words latched for the reading
function. -/
def Dev.todLoad (f : Nat) (d : Dev) : Nat × Dev :=
  (d.time.sec % 2 ^ 32,
   (d.latch (.tm 0) 0x104 f (d.time.sec / 2 ^ 32 % 65536 * 65536 + d.time.frac / 65536)).latch (.tm 0) 0x108 f d.time.ns)

/-- A read of TM_TOD0. -/
def Dev.todRead (b : By) (d : Dev) : Dev := d.hostR b (.tm 0) 0x100 (Dev.todLoad b.func)

/-- TOD_READ. -/
def execTodRead (b : By) (s : State) : Host.Outcome State Fault Refusal := s.run (.todRead b) (Dev.todRead b)

/-- A read of TE_SFC_LO that reached the page (R59): the low bits, with the high ones latched for the reading function. -/
def Dev.sfcLoad (n f : Nat) (d : Dev) : Nat × Dev :=
  (d.sfc n % 2 ^ 32, d.latch (.te n 0) 0x114 f (d.sfc n / 2 ^ 32))

/-- A read of TE_SFC_LO. -/
def Dev.sfcRead (b : By) (n : Nat) (d : Dev) : Dev := d.hostR b (.te n 0) 0x110 (Dev.sfcLoad n b.func)

/-- SFC_LO_READ. -/
def execSfcLoRead (b : By) (n : Nat) (s : State) : Host.Outcome State Fault Refusal :=
  s.run (.sfcLoRead b n) (Dev.sfcRead b n)

/-- A read of TM_TSQ(u) that reached the page (R323): the head entry is popped, its time latched in TM_TSQ_TS0–2(u). -/
def Dev.tsqLoad (u : Nat) (d : Dev) : Nat × Dev :=
  match d.tm.tsq.get [] u with
  | [] => (0, d)
  | e :: t =>
    let ovf := d.tm.ovf.get false u
    let d1 := d.setTm { d.tm with tsq := d.tm.tsq.put [] u t, ovf := d.tm.ovf.put false u false }
    ((TM_TSQ.VALID u).put 1 + (TM_TSQ.DROPPED u).put e.dropped.toNat + (TM_TSQ.OVF u).put ovf.toNat +
       (TM_TSQ.LEFT u).put t.length + (TM_TSQ.ID u).put e.id,
     d1.wrs (.tm 1)
       [(TM_TSQ_TS.SEC_LO u, e.sec), (TM_TSQ_TS.SEC_HI u, e.sec / 2 ^ 32), (TM_TSQ_TS.FRAC u, e.frac),
        (TM_TSQ_TS.NS u, e.ns)])

/-- A read of TM_TSQ(u). -/
def Dev.tsqPop (b : By) (u : Nat) (d : Dev) : Dev := d.hostR b (.tm 1) (0x100 + 16 * u) (Dev.tsqLoad u)

/-- TSQ_POP. -/
def execTsqPop (b : By) (u : Nat) (s : State) : Host.Outcome State Fault Refusal := s.run (.tsqPop b u) (Dev.tsqPop b u)

/-! ## The servo (R316–R320) -/

/-- Clamp an integer to ± a bound. -/
def clampTo (b v : Int) : Int := if b < v then b else if v < -b then -b else v

/-- Show I and y (Table TIM–2), in 1/256 ppb, rounded toward minus infinity (DESIGN CHOICE, log 85). -/
def Dev.showServo (d : Dev) : Dev :=
  d.wrs (.tm 0) [(TM_SERVO_ADJ.Y, toBits 32 (d.tm.y / 65536)), (TM_SERVO_INT.I, toBits 32 (d.tm.i / 65536))]

/-- Set I and y. -/
def Dev.setServo (d : Dev) (i y : Int) : Dev := (d.setTm { d.tm with i := i, y := y }).showServo

/-- The proportional and integral step of a sample θ in 1/65,536 ns (R317). -/
def Dev.servoPi (d : Dev) (th : Int) : Dev :=
  let b : Int := d.rd (.tm 0) TM_SERVO_LIM.MAX_PPM * 1000 * 2 ^ 24
  let i0 := d.tm.i + d.rd (.tm 0) TM_SERVO_GAIN.KI * th
  let i := clampTo b i0
  let y0 := d.rd (.tm 0) TM_SERVO_GAIN.KP * th + i
  let y := clampTo b y0
  let d1 := d.setServo i y
  if i ≠ i0 ∨ y ≠ y0 then ((d1.wr (.tm 0) TM_STAT.CLAMPED 1).cnt .tmCnt 259).raise (.tm 0) 4
  else d1.wr (.tm 0) TM_STAT.CLAMPED 0

/-- The servo treats a sample θ in 1/65,536 ns (R317, R319).  THETA shows whole nanoseconds, rounded toward minus infinity
(DESIGN CHOICE, log 85). -/
def Dev.servo (d : Dev) (th : Int) : Dev :=
  let shown := th / 65536
  let lim (v : Int) : Int := if 2147483647 < v then 2147483647 else if v < -2147483648 then -2147483648 else v
  let d1 := (d.setTm { d.tm with sampleAt := d.now }).wrs (.tm 0)
    [(TM_STAT.FREERUN, 0), (TM_SERVO_LAST.THETA, toBits 32 (lim shown))]
  let d2 := d1.cnt .tmCnt 256
  let thr := d.rd (.tm 0) TM_STEP_THR.THR
  if thr ≠ 0 ∧ thr * 65536 ≤ th.natAbs then (d2.wr (.tm 0) TM_STAT.CLAMPED 0).stepBy (-(th * 65536))
  else d2.servoPi th

/-- A host write of TM_OFS_IN: one sample, or discarded while the servo takes none from the host (R316). -/
def Dev.wOfsIn (v : Nat) (d : Dev) : Dev :=
  if !d.on (.tm 0) TM_SERVO.EN || d.on (.tm 0) TM_SERVO.SRC then d.logErr (.tm 0) 0x2C1
  else d.servo (sext 32 (TM_OFS_IN.OFS.get v) * 65536)

/-- HOST_OFFSET_SAMPLE. -/
def execHostOffsetSample (b : By) (v : Nat) (s : State) : Host.Outcome State Fault Refusal :=
  s.run (.hostOffsetSample b v) (fun d => d.hostF b (.tm 0) TM_OFS_IN.OFS v (Dev.wOfsIn v))

/-- Whether the servo is offered a PTP message (R318): hardware pairs, its port, transport, version 2, domain and, with
MATCH_EN, its sender. -/
def Dev.ptpMatch (d : Dev) (u transport version domain clockId portNum : Nat) : Bool :=
  version == 2 && d.on (.tm 0) TM_SERVO.EN && d.on (.tm 0) TM_SERVO.SRC && d.rd (.tm 0) TM_SERVO.PORT == u &&
    d.rd (.tm 0) TM_SERVO.TRANSPORT == transport && d.rd (.tm 0) TM_SERVO.DOMAIN == domain &&
    d.portOn u && d.on (.ulp u) UL_PORT_STAT.LINK_UP &&
    (!d.on (.tm 0) TM_SERVO.MATCH_EN ||
      (d.rd (.tm 0) (TM_MASTER.CLOCK_ID 0) * 2 ^ 32 + d.rd (.tm 0) (TM_MASTER.CLOCK_ID 1) == clockId &&
        d.rd (.tm 0) TM_MASTER2.PORT_NUM == portNum))

/-- Mean path delay in 1/65,536 ns. -/
def Dev.mpd (d : Dev) : Int := d.rd (.tm 0) TM_SERVO_MPD.NS * 65536 + d.rd (.tm 0) TM_SERVO_MPD.FRAC * 256

/-- A PTP timestamp with its correctionField, in 1/65,536 ns. -/
def ptpTime (sec ns : Nat) (corr : Int) : Int := (sec * 1000000000 + ns : Nat) * 65536 + corr

/-- Discard a Sync that waits for its Follow_Up. -/
def Dev.syncDrop (d : Dev) : Dev :=
  if d.tm.sync.isSome then (d.setTm { d.tm with sync := none }).cnt .tmCnt 258 else d

/-- A Sync arrives (R318): its receive time is module time; a one-step Sync gives a sample at once. -/
def Dev.ptpSync (u transport version domain clockId portNum seq : Nat) (twoStep : Bool) (sec ns corr : Nat) (d : Dev) : Dev :=
  if !d.ptpMatch u transport version domain clockId portNum then d
  else
    let d1 := d.syncDrop
    let t2 : Int := (d.time.toNat / 65536 : Nat)
    if twoStep then d1.setTm { d1.tm with sync := some { seq := seq, t2 := t2, stale := false } }
    else (d1.cnt .tmCnt (u * 8 + 6)).servo (t2 - ptpTime sec ns (sext 64 corr) - d.mpd)

/-- PTP_SYNC_RECEIVE. -/
def execPtpSyncReceive (u transport version domain clockId portNum seq : Nat) (twoStep : Bool) (sec ns corr : Nat) (s : State) :
    Host.Outcome State Fault Refusal :=
  s.run (.ptpSyncReceive u transport version domain clockId portNum seq twoStep sec ns corr)
    (Dev.ptpSync u transport version domain clockId portNum seq twoStep sec ns corr)

/-- A Follow_Up arrives (R318): with the waiting Sync of its sequenceId it gives a sample, unless module time was stepped
since that Sync. -/
def Dev.ptpFollowUp (u transport version domain clockId portNum seq sec ns corr : Nat) (d : Dev) : Dev :=
  if !d.ptpMatch u transport version domain clockId portNum then d
  else
    match d.tm.sync with
    | none => d
    | some w =>
      if w.seq ≠ seq then d
      else if w.stale then d.syncDrop
      else ((d.setTm { d.tm with sync := none }).cnt .tmCnt (u * 8 + 6)).servo
        (w.t2 - ptpTime sec ns (sext 64 corr) - d.mpd)

/-- PTP_FOLLOW_UP_RECEIVE. -/
def execPtpFollowUpReceive (u transport version domain clockId portNum seq sec ns corr : Nat) (s : State) :
    Host.Outcome State Fault Refusal :=
  s.run (.ptpFollowUpReceive u transport version domain clockId portNum seq sec ns corr)
    (Dev.ptpFollowUp u transport version domain clockId portNum seq sec ns corr)

/-- TIMEOUT_MS have passed without a sample (R319): FREERUN, with I and y held. -/
def Dev.servoTimeout (d : Dev) : Dev :=
  if d.on (.tm 0) TM_STAT.FREERUN then d
  else ((d.wr (.tm 0) TM_STAT.FREERUN 1).raise (.tm 0) 3).report 5 0

/-- SERVO_TIMEOUT. -/
def execServoTimeout (s : State) : Host.Outcome State Fault Refusal := s.run .servoTimeout Dev.servoTimeout

/-- A one-second gate ends (R320): XTAL_A against the REFCLK-derived clock, in 1/256 ppb; frozen in holdover. -/
def Dev.xtalGate (v : Nat) (d : Dev) : Dev :=
  if d.rd (.tm 0) TM_STAT.REF ≠ 0 ∧ !d.on (.tm 0) TM_STAT.HOLDOVER then d.wr (.tm 0) TM_XTAL_PPB.XTAL v else d

/-- XTAL_GATE. -/
def execXtalGate (v : Nat) (s : State) : Host.Outcome State Fault Refusal := s.run (.xtalGate v) (Dev.xtalGate v)

end Sys2Proof.Machine
end

