-- ==== Sys2Proof/Machine/HostIf.lean ====
section
/-! DEFINITION. The host interface: rings, TX messages, host aggregates, PCIe events, performance counters, check-value
units and function-level resets (R294, R307, R424–R445). -/

namespace Sys2Proof.Machine

/-! ## Ring registers (R428–R430) -/

/-- Offer the held PLOAM messages again, oldest first, until one finds no descriptor. -/
def Dev.retryPloam : Nat → Dev → Dev
  | 0, d => d
  | k + 1, d =>
    match d.hif.heldPloam with
    | [] => d
    | m :: t =>
      match d.rxOffer 0 m with
      | (.written, e) => Dev.retryPloam k { e with hif := { e.hif with heldPloam := t } }
      | (.tooLong, e) => Dev.retryPloam k { e with hif := { e.hif with heldPloam := t } }
      | _ => d

/-- Take the first held OMCI message of a function out of the store. -/
def takeOmci (f : Nat) : List (Nat × RxMsg) → Option (RxMsg × List (Nat × RxMsg))
  | [] => none
  | e :: t => if e.1 = f then some (e.2, t) else (takeOmci f t).map (fun r => (r.1, e :: r.2))

/-- Offer the held OMCI messages of a function again. -/
def Dev.retryOmci (f : Nat) : Nat → Dev → Dev
  | 0, d => d
  | k + 1, d =>
    match takeOmci f d.hif.heldOmci with
    | none => d
    | some (m, t) =>
      match d.rxOffer f m with
      | (.written, e) => Dev.retryOmci f k { e with hif := { e.hif with heldOmci := t } }
      | (.tooLong, e) => Dev.retryOmci f k { e with hif := { e.hif with heldOmci := t } }
      | _ => d

/-- Deliver the received Aztil messages of link `k` that wait for a descriptor (R216, R435): one that is written owes
its acknowledgement until the host consumes it, one that is too long is acknowledged as dropped. -/
def Dev.retryAz (k : Nat) : Nat → Dev → Dev
  | 0, d => d
  | n + 1, d =>
    match (d.lnk k).heldRx with
    | [] => d
    | (id, m) :: t =>
      let slot := (d.rxRing 0 6).getD 8
      let at_ := slot * 8192 + d.rd (.hir 0) (HI_RING_IDX.PI slot)
      match d.rxOffer 0 m with
      | (.written, e) =>
        Dev.retryAz k n (e.setLnk k { e.lnk k with heldRx := t, awaiting := (e.lnk k).awaiting ++ [(at_, id)] })
      | (.tooLong, e) => Dev.retryAz k n ((e.setLnk k { e.lnk k with heldRx := t }).emit (.azAck k id true))
      | _ => d

/-- Deliver what waits for an RX descriptor of a function (Table HIF–8). -/
def Dev.rxRetry (d : Dev) (f : Nat) : Dev :=
  let d1 := Dev.retryOmci f d.hif.heldOmci.length d
  if f = 0 then
    let d2 := Dev.retryPloam d1.hif.heldPloam.length d1
    let d3 := Dev.retryAz 0 (d2.lnk 0).heldRx.length d2
    Dev.retryAz 1 (d3.lnk 1).heldRx.length d3
  else d1

/-- The host consumed the descriptors from `old` up to `ci` of T0's RX ring slot: the Aztil messages among them are
acknowledged (R216). -/
def Dev.azConsumed (d : Dev) (k slot old ci : Nat) : Dev :=
  let gone (e : Nat × Nat) : Bool :=
    e.1 / 8192 == slot && (e.1 % 8192 + 8192 - old) % 8192 < (ci + 8192 - old) % 8192
  let l := d.lnk k
  (l.awaiting.filter gone).foldl (fun (x : Dev) e => x.emit (.azAck k e.2 false))
    (d.setLnk k { l with awaiting := l.awaiting.filter (fun e => !gone e) })

/-- The host's write of a ring's index (R428): refused with 0x381 when it would leave more descriptors than the ring
has.  A TX producer index makes descriptors available; an RX consumer index frees descriptors, whose BUF_LENs are
`lens`, oldest first. -/
def Dev.wRingIdx (f s v : Nat) (lens : List Nat) (d : Dev) : Dev :=
  let p : Page := .hir f
  if s < 8 then
    let pi := (HI_RING_IDX.PI s).get v
    if d.ringSize f s < (pi + 8192 - d.rd p (HI_RING_IDX.CI s)) % 8192 then d.logErr p 0x381
    else d.wr p (HI_RING_IDX.PI s) pi
  else
    let ci := (HI_RING_IDX.CI s).get v
    let old := d.rd p (HI_RING_IDX.CI s)
    if d.ringSize f s < (d.rd p (HI_RING_IDX.PI s) + 8192 - ci) % 8192 then d.logErr p 0x381
    else
      let g := d.ring f s
      let b := lens.zipIdx.foldl (fun (st : Store Nat) (e : Nat × Nat) =>
        st.put 16384 ((old + e.2) % d.ringSize f s) e.1) g.bufLens
      let d1 := (d.wr p (HI_RING_IDX.CI s) ci).setRing f s { g with bufLens := b }
      let d2 := if f = 0 then (d1.azConsumed 0 s old ci).azConsumed 1 s old ci else d1
      d2.rxRetry f

/-- TX_RING_DOORBELL: a write of HI_RING_IDX of TX ring `r`. -/
def execTxRingDoorbell (b : By) (f r v : Nat) (s : State) : Host.Outcome State Fault Refusal :=
  s.run (.txRingDoorbell b f r v) (fun d => d.hostF b (.hir f) (HI_RING_IDX.PI r) v (Dev.wRingIdx f r v []))

/-- RX_RING_CONSUME: a write of HI_RING_IDX of RX ring `x`, with the BUF_LENs of the descriptors it frees. -/
def execRxRingConsume (b : By) (f x v : Nat) (lens : List Nat) (s : State) : Host.Outcome State Fault Refusal :=
  s.run (.rxRingConsume b f x v lens) (fun d =>
    d.hostF b (.hir f) (HI_RING_IDX.CI (8 + x)) v (Dev.wRingIdx f (8 + x) v lens))

/-- Whether a write of HI_RING_CFG is refused (R428). -/
def Dev.ringCfgBad (d : Dev) (f s v : Nat) : Bool :=
  let p : Page := .hir f
  let size := (HI_RING_CFG.SIZE_LOG2 s).get v
  let cls := (HI_RING_CFG.CLASSES s).get v
  size < 4 || 12 < size || 8 < (HI_RING_CFG.COAL_N_LOG2 s).get v || (s < 8 && cls != 0) ||
    (d.on p (HI_RING_CFG.EN s) &&
      (size != d.rd p (HI_RING_CFG.SIZE_LOG2 s) || cls != d.rd p (HI_RING_CFG.CLASSES s)))

/-- A write of HI_RING_CFG (R428, R430): refused whole with 0x380, or taken; EN = 1 clears ERR. -/
def Dev.wRingCfg (f s v : Nat) (d : Dev) : Dev :=
  let p : Page := .hir f
  if d.ringCfgBad f s v then d.logErr p 0x380
  else
    let en := (HI_RING_CFG.EN s).get v
    let d1 := d.wrs p
      [(HI_RING_CFG.EN s, en), (HI_RING_CFG.VECTOR s, (HI_RING_CFG.VECTOR s).get v),
       (HI_RING_CFG.CLASSES s, (HI_RING_CFG.CLASSES s).get v), (HI_RING_CFG.COAL_US s, (HI_RING_CFG.COAL_US s).get v),
       (HI_RING_CFG.COAL_N_LOG2 s, (HI_RING_CFG.COAL_N_LOG2 s).get v),
       (HI_RING_CFG.SIZE_LOG2 s, (HI_RING_CFG.SIZE_LOG2 s).get v)]
    (if en = 1 then d1.wr p (HI_RING_CFG.ERR s) 0 else d1).rxRetry f

/-- A write of HI_RING_BASE_LO or _HI: refused with 0x380 when it changes BASE of an enabled ring (R428). -/
def Dev.wRingBase (f s v : Nat) (fld : Fld) (d : Dev) : Dev :=
  if d.on (.hir f) (HI_RING_CFG.EN s) && d.rd (.hir f) fld != fld.get v then d.logErr (.hir f) 0x380
  else d.wr (.hir f) fld (fld.get v)

/-! ## TX messages (R433, R434, Table HIF–5) -/

/-- Take the next descriptor of a ring, of LEN `len`, for a message that `k` treats, given the descriptor's number. -/
def Dev.txWith (d : Dev) (f r len : Nat) (k : Nat → Dev → Dev) : Dev :=
  match d.txTake f r len with
  | some (i, e) => k i e
  | none => d

/-- Complete a descriptor with the function's own epoch. -/
def Dev.txEnd (d : Dev) (f r i st det : Nat) : Dev := d.txComplete f r i st det (d.epoch f)

/-- The timestamp and launch fields of a class 1 or 2 descriptor. -/
structure Stamp where
  tsMode : Nat
  tsId : Nat
  tsOfs : Nat
  udpOfs : Nat
  launch : Bool
  pSec : Nat
  pNs : Nat

/-- Whether the fields are refused (R322, R324): an offset beyond the frame, any field on the ring of a function other
than T0's, LAUNCH_EN outside class 2. -/
def Stamp.bad (x : Stamp) (f len : Nat) (agg : Bool) : Bool :=
  len < x.tsOfs + 10 || len < x.udpOfs + 8 ||
    (f != 0 && (x.tsMode != 0 || x.tsOfs != 0 || x.udpOfs != 0 || x.launch)) || (x.launch && !agg)

/-- The departure time P in nanoseconds since second 0: the instant within ± 2^31 s of module time whose low seconds
match (R324). -/
def Dev.departureOf (d : Dev) (sec ns : Nat) : Nat :=
  ((d.time.sec : Int) + sext 32 (sec + 2 ^ 32 - d.time.sec % 2 ^ 32)).toNat * 1000000000 + ns

/-- What the descriptor of a class 2 frame asks of it.  The spec gives TS_MODE = 3 no meaning: which of the three modes it
stands for is a free value (log 1). -/
def Dev.stampReq (d : Dev) (x : Stamp) (f : Nat) : TxReq :=
  let p := d.departureOf x.pSec x.pNs
  { func := f, tsMode := if x.tsMode = 3 then d.free % 3 else x.tsMode, tsId := x.tsId, tsOfs := x.tsOfs, udpOfs := x.udpOfs,
    launch := if x.launch then some (p, p - d.leadNs) else none }

/-- A frame of a TX ring goes to the buffer pools' input with RT the function's tenant (R245). -/
def Dev.txFrame (d : Dev) (f r i : Nat) (t : Target) (bytes : List Byte) (req : Option TxReq) : Dev :=
  let a : Admit := { rt := f, first := t, second := none, bytes := bytes, ts := none, source := 0, req := req,
                     tx := some (f, r, i) }
  d.setBp { d.path.bp with inq := d.path.bp.inq ++ [a] }

/-- A class 1 descriptor: a frame into a flow queue. -/
def Dev.txFlow (f r target : Nat) (bytes : List Byte) (x : Stamp) (d : Dev) : Dev :=
  d.txWith f r bytes.length (fun i d =>
    if 131072 ≤ target ∨ (f ≠ 0 ∧ d.rdT .clFlow target CL_FLOW.TENANT ≠ f) then d.txEnd f r i 2 0
    else if bytes.length < 60 ∨ 16384 < bytes.length then d.txEnd f r i 3 0
    else if x.bad f bytes.length false then d.txEnd f r i 8 0
    else d.txFrame f r i (.flow target) bytes none)

/-- TX_FLOW_FRAME. -/
def execTxFlowFrame (f r target : Nat) (bytes : List Byte) (tsMode tsId tsOfs udpOfs : Nat) (launch : Bool)
    (pSec pNs : Nat) (s : State) : Host.Outcome State Fault Refusal :=
  s.run (.txFlowFrame f r target bytes tsMode tsId tsOfs udpOfs launch pSec pNs)
    (Dev.txFlow f r target bytes ⟨tsMode, tsId, tsOfs, udpOfs, launch, pSec, pNs⟩)

/-- A class 2 descriptor: a frame into an aggregate. -/
def Dev.txAgg (f r target : Nat) (bytes : List Byte) (x : Stamp) (d : Dev) : Dev :=
  d.txWith f r bytes.length (fun i d =>
    if 16384 ≤ target ∨ (f ≠ 0 ∧ d.rdT .scAgg target SC_AGG.TENANT ≠ f) then d.txEnd f r i 2 0
    else if bytes.length < 60 ∨ 16384 < bytes.length then d.txEnd f r i 3 0
    else if x.bad f bytes.length true then d.txEnd f r i 8 0
    else (if x.tsMode = 3 then d.freed else d).txFrame f r i (.agg target) bytes (some (d.stampReq x f)))

/-- TX_AGG_FRAME. -/
def execTxAggFrame (f r target : Nat) (bytes : List Byte) (tsMode tsId tsOfs udpOfs : Nat) (launch : Bool)
    (pSec pNs : Nat) (s : State) : Host.Outcome State Fault Refusal :=
  s.run (.txAggFrame f r target bytes tsMode tsId tsOfs udpOfs launch pSec pNs)
    (Dev.txAgg f r target bytes ⟨tsMode, tsId, tsOfs, udpOfs, launch, pSec, pNs⟩)

/-- Host PLOAM messages that wait for the framer of tree `n`. -/
def Dev.hostPloams (d : Dev) (n : Nat) : Nat :=
  (d.fr (d.lead n)).hostQ.length + (d.te.subs.filter (fun e => e.1 == n)).length

/-- A class 3 descriptor: a PLOAM body for a tree; the ring stops while the tree's host queue is full (R66). -/
def Dev.txPloam (f r target len onu : Nat) (type : DsPloamType) (body : List Byte) (stamp : Bool) (d : Dev) : Dev :=
  if f = 0 ∧ target < 48 ∧ 64 ≤ d.hostPloams target then d
  else
    d.txWith f r len (fun i d =>
      if f ≠ 0 then d.txEnd f r i 1 0
      else if 48 ≤ target then d.txEnd f r i 2 0
      else if len ≠ 40 then d.txEnd f r i 3 0
      else if stamp then d.txEnd f r i 8 0
      else
        let m : Ploam := { ring := some (r, i), host := true, onu := onu, type := type, body := body }
        { d with te := { d.te with subs := d.te.subs ++ [(target, m)] } })

/-- TX_PLOAM. -/
def execTxPloam (f r target len onuId : Nat) (type : DsPloamType) (body : List Byte) (stamp : Bool) (s : State) :
    Host.Outcome State Fault Refusal :=
  s.run (.txPloam f r target len onuId type body stamp) (Dev.txPloam f r target len onuId type body stamp)

/-! ## Check values (R443, R444, Table HIF–11) -/

/-- The check register of unit `u`; all ones before the first START (log 17). -/
def Dev.cvReg (d : Dev) (u : Nat) : Nat := d.hif.cvReg.get 0xffffffff u

/-- Set the check register of unit `u`. -/
def Dev.setCvReg (d : Dev) (u v : Nat) : Dev :=
  { d with hif := { d.hif with cvReg := d.hif.cvReg.put 0xffffffff u v } }

/-- The algorithm unit `u` computes: CRC-32 while it serves the OMCI path (R444). -/
def Dev.cvAlg (d : Dev) (u : Nat) : Nat := if d.on (.cv u) CV_CTRL.PATH then 0 else d.rd (.cv u) CV_CTRL.ALG

/-- CV_RESULT of unit `u`. -/
def Dev.cvResult (d : Dev) (u : Nat) : Nat := cvOut (d.cvAlg u) (d.cvReg u)

/-- Feed bytes to unit `u` by a host write, refused with 0x3A0 on a path unit. -/
def Dev.cvData (u : Nat) (l : List Byte) (d : Dev) : Dev :=
  if d.on (.cv u) CV_CTRL.PATH then d.logErr (.cv u) 0x3A0
  else (d.setCvReg u (cvFeed (d.cvAlg u) (d.cvReg u) l)).sat (.cv u) CV_STAT.BYTES l.length

/-- CV_DATA8. -/
def execCvData8 (b : By) (cv v : Nat) (s : State) : Host.Outcome State Fault Refusal :=
  s.run (.cvData8 b cv v) (fun d => d.hostF b (.cv cv) CV_DATA8.D v (Dev.cvData cv (beBytes 1 v)))

/-- CV_DATA16. -/
def execCvData16 (b : By) (cv v : Nat) (s : State) : Host.Outcome State Fault Refusal :=
  s.run (.cvData16 b cv v) (fun d => d.hostF b (.cv cv) CV_DATA16.D v (Dev.cvData cv (beBytes 2 v)))

/-- CV_DATA32. -/
def execCvData32 (b : By) (cv v : Nat) (s : State) : Host.Outcome State Fault Refusal :=
  s.run (.cvData32 b cv v) (fun d => d.hostF b (.cv cv) CV_DATA32.D v (Dev.cvData cv (beBytes 4 v)))

/-- A write of CV_CTRL: PATH by T0, ALG and START by the owner, the latter refused with 0x3A0 on a path unit.  A word
with START = 1 that leaves ALG as it is restarts from CV_INIT as it stands; any other writes ALG too and sets CV_INIT
(DEDUCED, log 18). -/
def Dev.wCvCtrl (b : By) (u v : Nat) (d : Dev) : Dev :=
  let p : Page := .cv u
  let own := d.mayWrite b.func p CV_CTRL.ALG
  let path := d.mayWrite b.func p CV_CTRL.PATH
  let alg := CV_CTRL.ALG.get v
  let start := CV_CTRL.START.get v = 1
  if d.on p CV_CTRL.PATH ∧ own ∧ (start ∨ alg ≠ d.rd p CV_CTRL.ALG) then d.logErr p 0x3A0
  else
    let d1 := if path then d.wr p CV_CTRL.PATH (CV_CTRL.PATH.get v) else d
    if !own || d.on p CV_CTRL.PATH then d1
    else
      let d2 := if start ∧ alg = d1.rd p CV_CTRL.ALG then d1
                else d1.wrs p [(CV_CTRL.ALG, alg), (CV_INIT.INIT, cvInit alg)]
      if start then (d2.setCvReg u (d2.rd p CV_INIT.INIT % 2 ^ cvWidth alg)).wr p CV_STAT.BYTES 0 else d2

/-- CV_ALG_WRITE: a write of CV_CTRL with START = 0. -/
def execCvAlgWrite (b : By) (cv v : Nat) (s : State) : Host.Outcome State Fault Refusal :=
  s.run (.cvAlgWrite b cv v) (fun d =>
    d.hostF b (.cv cv) CV_CTRL.ALG (CV_CTRL.START.set v 0) (Dev.wCvCtrl b cv (CV_CTRL.START.set v 0)))

/-- CV_START: a write of CV_CTRL with START = 1. -/
def execCvStart (b : By) (cv v : Nat) (s : State) : Host.Outcome State Fault Refusal :=
  s.run (.cvStart b cv v) (fun d =>
    d.hostF b (.cv cv) CV_CTRL.START (CV_CTRL.START.set v 1) (Dev.wCvCtrl b cv (CV_CTRL.START.set v 1)))

/-- A write of CV_INIT: refused on a path unit. -/
def Dev.wCvInit (u v : Nat) (d : Dev) : Dev :=
  if d.on (.cv u) CV_CTRL.PATH then d.logErr (.cv u) 0x3A0 else d.wr (.cv u) CV_INIT.INIT v

/-- A read of CV_STAT that reached the page returns FAIL and BYTES and clears FAIL. -/
def Dev.cvStatLoad (u : Nat) (d : Dev) : Nat × Dev :=
  (d.rd (.cv u) CV_STAT.FAIL * 65536 + d.rd (.cv u) CV_STAT.BYTES, d.wr (.cv u) CV_STAT.FAIL 0)

/-- A read of CV_STAT. -/
def Dev.cvStatRead (b : By) (u : Nat) (d : Dev) : Dev := d.hostR b (.cv u) 0x118 (Dev.cvStatLoad u)

/-- CV_STAT_READ. -/
def execCvStatRead (b : By) (cv : Nat) (s : State) : Host.Outcome State Fault Refusal :=
  s.run (.cvStatRead b cv) (Dev.cvStatRead b cv)

/-- The unit that takes the next OMCI message: the path units in turn (R444); `none` with no path unit. -/
def Dev.pathUnit (d : Dev) : Option Nat :=
  ((List.range 8).map (fun k => (d.hif.cvNext + k) % 8)).find? (fun u => d.on (.cv u) CV_CTRL.PATH && d.live (.cv u))

/-- The trailer check of a message on path unit `u`: its CRC-32, which CV_RESULT then shows. -/
def Dev.trailer (d : Dev) (u : Nat) (l : List Byte) : Nat × Dev :=
  let r := cvFeed 0 0xffffffff l
  let d1 := d.setCvReg u r
  (cvOut 0 r, { d1 with hif := { d1.hif with cvNext := (u + 1) % 8 } })

/-! ## OMCI (R292, R444) -/

/-- The integrity code of an OMCI message of an ONU: four bytes under its OMCI context (log 4). -/
def Dev.omciMic (d : Dev) (g : Nat) (l : List Byte) : List Byte :=
  d.mic (some (d.rdT .cxOnuKeys g CX_ONU_KEYS.OMCI_IK)) 4 l

/-- An OMCI message to global ONU index `g` passes the cipher engine and path unit `u` and joins the frames of the
tree's framer, on the XGEM port of the ONU's own index (PRESUMED, log 4). -/
def Dev.omciSend (d : Dev) (g u : Nat) (l : List Byte) : Dev :=
  let body := l ++ d.omciMic g l
  let d1 := d.useMgmt (some (d.rdT .cxOnuKeys g CX_ONU_KEYS.OMCI_IK)) l.length
  let r := d1.trailer u body
  let b := r.2.label (g / 256) (g % 256)
  let m := b.2.lead (g / 256)
  let x : Xgem := { port := g % 256, keyIdx := 0, options := b.1, cipher := false, done := false,
                    payload := body ++ beBytes 4 r.1, rest := [], item := none }
  b.2.setFr m { b.2.fr m with ready := (b.2.fr m).ready ++ [x] }

/-- A class 4 descriptor: an OMCI message to an ONU. -/
def Dev.txOmci (f r target : Nat) (bytes : List Byte) (stamp : Bool) (d : Dev) : Dev :=
  d.txWith f r bytes.length (fun i d =>
    if f ≠ 0 ∧ !d.onT .tnTenant f TN_TENANT.OMCI_EN then d.txEnd f r i 1 0
    else if 12288 ≤ target ∨ (f ≠ 0 ∧ d.onuTenant target ≠ f) then d.txEnd f r i 2 0
    else if bytes.length < 1 ∨ 2048 < bytes.length then d.txEnd f r i 3 0
    else if stamp then d.txEnd f r i 8 0
    else if !d.onT .cxOnuKeys target CX_ONU_KEYS.OMCI_V then d.txEnd f r i 7 1
    else
      match d.pathUnit with
      | none => d.txEnd f r i 7 2
      | some u => (d.omciSend target u bytes).txEnd f r i 0 0)

/-- TX_OMCI. -/
def execTxOmci (f r target : Nat) (bytes : List Byte) (stamp : Bool) (s : State) : Host.Outcome State Fault Refusal :=
  s.run (.txOmci f r target bytes stamp) (Dev.txOmci f r target bytes stamp)

/-- An upstream OMCI message of global ONU index `g` (R292, R444, Table HIF–8): discarded without a path unit; its
trailer verified and stripped, its code checked and removed; delivered to the assigned tenant or to T0. -/
def Dev.omciReceive (d : Dev) (g : Nat) (l : List Byte) : Dev :=
  match d.pathUnit with
  | none => d.sat .hi0 HI_OMCI_DROP.COUNT
  | some u =>
    let body := l.take (l.length - 4)
    let r := d.trailer u body
    if l.length < 4 ∨ l.drop (l.length - 4) ≠ beBytes 4 r.1 then r.2.sat (.cv u) CV_STAT.FAIL
    else
      let m := body.take (body.length - 4)
      let d1 := if r.2.onT .cxOnuKeys g CX_ONU_KEYS.OMCI_V then
          r.2.useMgmt (some (r.2.rdT .cxOnuKeys g CX_ONU_KEYS.OMCI_IK)) m.length else r.2
      if body.length < 4 ∨ !d1.onT .cxOnuKeys g CX_ONU_KEYS.OMCI_V ∨ body.drop (body.length - 4) ≠ d1.omciMic g m then
        (d1.cnt .cxCnt (g / 256 * 8 + 6)).raise .cx0 3
      else
        let t := d1.onuTenant g
        let f := if d1.onT .tnTenant t TN_TENANT.OMCI_EN then t else 0
        d1.rxOmci f { cls := 4, reason := 0, source := g, ts := none, epoch := d1.epoch f, bytes := m }

/-! ## Aztil messages (R216) -/

/-- A class 5 descriptor: a host-to-host message on an Aztil link, held until it is acknowledged; a ring waits while 64
messages of the link are unacknowledged, and while the link's pages are disabled (R33). -/
def Dev.txAztil (f r target : Nat) (bytes : List Byte) (stamp : Bool) (d : Dev) : Dev :=
  if f = 0 ∧ target < 2 ∧ (64 ≤ (d.lnk target).unacked.length ∨
      (d.on (.pxl target) PX_PEER_CFG.EN ∧ !d.linkOn target)) then d
  else
    d.txWith f r bytes.length (fun i d =>
      if f ≠ 0 then d.txEnd f r i 1 0
      else if 2 ≤ target ∨ !d.on (.pxl target) PX_PEER_CFG.EN then d.txEnd f r i 2 0
      else if bytes.length < 1 ∨ 2046 < bytes.length then d.txEnd f r i 3 0
      else if stamp then d.txEnd f r i 8 0
      else
        let l := d.lnk target
        let d1 := d.setLnk target { l with unacked := l.unacked ++ [{ ring := r, idx := i, id := l.seqs.get 0 3 }] }
        (d1.cnt (.pxLinkCnt target) 8).cellsOut target 3 r (beBytes 2 (d.epoch 16) ++ bytes))

/-- TX_AZTIL_MESSAGE. -/
def execTxAztilMessage (f r target : Nat) (bytes : List Byte) (stamp : Bool) (s : State) :
    Host.Outcome State Fault Refusal :=
  s.run (.txAztilMessage f r target bytes stamp) (Dev.txAztil f r target bytes stamp)

/-! ## Host aggregates (R436) -/

/-- Serve function `f`'s host aggregate until a frame is written or none can be: a frame whose check fails goes to the
slack tub, one that is too long for its descriptor is dropped, one whose data is uncorrectable is dropped, and one whose
descriptor read fails goes with its descriptor (R250). -/
def Dev.aggServeN (f : Nat) (badData : Bool) : Nat → Bool → Dev → Dev
  | 0, _, d => d
  | k + 1, damaged, d =>
    let q := aggQ (16368 + f)
    match (d.queue q).frames, d.rxRing f 2 with
    | h :: _, some r =>
      if !d.itemReady (.queue q) || !d.rxFree f r then d
      else if damaged && !d.path.bp.retired.contains (handleIdx h.handle) then
        Dev.aggServeN f badData k false (d.deqDamaged q h)
      else if !d.deqOk q h then Dev.aggServeN f badData k false (d.deqFail q h)
      else
        let m : RxMsg := { cls := 2, reason := 0, source := 16368 + f, ts := (d.pkt h.handle).bind Pkt.ts,
                           epoch := d.epoch f, bytes := d.pktBytes h.handle }
        let d1 := (d.aggCount q h.len).takeHead q h.len
        if badData then (d1.dataError h.handle).release h.handle h.tag
        else
          let o := d1.rxOffer f m
          let e := o.2.release h.handle h.tag
          if o.1 = .written then e else if o.1 = .tooLong then Dev.aggServeN f badData k false e else d
    | _, _ => d

/-- Serve function `f`'s host aggregate. -/
def Dev.aggServe (f : Nat) (badData damaged : Bool) (d : Dev) : Dev :=
  if d.takes (.sc 0) && d.ringsLive f then Dev.aggServeN f badData d.drainOut.frameCount damaged d.drainOut else d

/-- HOST_AGG_DEQUEUE. -/
def execHostAggDequeue (f : Nat) (badData damaged : Bool) (s : State) : Host.Outcome State Fault Refusal :=
  s.run (.hostAggDequeue f badData damaged) (Dev.aggServe f badData damaged)

/-! ## Errors and PCIe events (R430, R431, R437, R445) -/

/-- Complete descriptor `i` of a TX ring with STATUS 4, taking it first when it had not been taken: the LEN then counted is
a free value (log 1), the event does not carry it. -/
def Dev.dmaComplete (d : Dev) (f r i : Nat) : Dev :=
  if (d.ring f r).taken.any (fun e => e.idx == i && e.fin.isNone) then d.txEnd f r i 4 0
  else d.freed.txWith f r (d.free % 65536) (fun j d => d.txEnd f r j 4 0)

/-- A DMA of a ring completes with an error (R430).  HI_ERR's direction is the DMA's; the offset it records is not
stated: a free value. -/
def Dev.dmaError (f slot i : Nat) (isRead canWrite : Bool) (d : Dev) : Dev :=
  let p : Page := .hir f
  if d.ringsLive f && d.on p (HI_RING_CFG.EN slot) then
    let d1 := if slot < 8 ∧ canWrite then d.dmaComplete f slot i else d
    let d2 := d1.wrs p [(HI_RING_CFG.ERR slot, 1), (HI_RING_CFG.EN slot, 0)]
    let d3 := if slot < 8 then d2.cnt (.hiRingCnt f) (slot * 4 + 3) else d2
    let d4 := (d3.freed).hiErr 8 f isRead d3.free
    (d4.raise p 0).report 53 0
  else d

/-- DMA_ERROR. -/
def execDmaError (f slot i : Nat) (isRead canWrite : Bool) (s : State) : Host.Outcome State Fault Refusal :=
  s.run (.dmaError f slot i isRead canWrite) (Dev.dmaError f slot i isRead canWrite)

/-- COAL_US have passed since the first completion not yet signalled (R431). -/
def Dev.coalesceEnd (f slot : Nat) (d : Dev) : Dev :=
  let g := d.ring f slot
  if g.unsig = 0 || !d.ringsLive f then d
  else (d.setRing f slot { g with unsig := 0 }).msixSend f (d.rd (.hir f) (HI_RING_CFG.VECTOR slot)) true

/-- RING_COALESCE_TIMEOUT. -/
def execRingCoalesceTimeout (f slot : Nat) (s : State) : Host.Outcome State Fault Refusal :=
  s.run (.ringCoalesceTimeout f slot) (Dev.coalesceEnd f slot)

/-- The PCIe link changes (R445): HI_LINK, LINK_CHG on a change of L0, and class 53 when the link goes
down (R416; DEDUCED, log 87). -/
def Dev.linkChange (up : Bool) (rate width : Nat) (d : Dev) : Dev :=
  let was := d.on .hi0 HI_LINK.L0
  let d1 := d.wrs .hi0 [(HI_LINK.L0, up.toNat), (HI_LINK.RATE, rate), (HI_LINK.WIDTH, width)]
  if was = up then d1 else if up then d1.raise .hi0 1 else (d1.raise .hi0 1).report 53 0

/-- PCIE_LINK_CHANGE. -/
def execPcieLinkChange (up : Bool) (rate width : Nat) (s : State) : Host.Outcome State Fault Refusal :=
  s.run (.pcieLinkChange up rate width) (Dev.linkChange up rate width)

/-- An uncorrectable PCIe error (R437, code 9); what HI_ERR shows beside the code is not stated: free values. -/
def Dev.pcieError (d : Dev) : Dev := (d.freed 3).hiErr 9 (d.free % 16) (d.free 1 % 2 == 1) (d.free 2)

/-- PCIE_UNCORRECTABLE_ERROR. -/
def execPcieUncorrectableError (s : State) : Host.Outcome State Fault Refusal := s.run .pcieUncorrectableError Dev.pcieError

/-- A read of HI_ERR_CNT that reached the page returns and clears the count. -/
def Dev.hiErrCntLoad (d : Dev) : Nat × Dev := (d.rd .hi0 HI_ERR_CNT.COUNT, d.wr .hi0 HI_ERR_CNT.COUNT 0)

/-- A read of HI_OMCI_DROP that reached the page returns and clears the count. -/
def Dev.hiOmciDropLoad (d : Dev) : Nat × Dev := (d.rd .hi0 HI_OMCI_DROP.COUNT, d.wr .hi0 HI_OMCI_DROP.COUNT 0)

/-- HI_ERR_CNT_READ. -/
def execHiErrCntRead (b : By) (s : State) : Host.Outcome State Fault Refusal :=
  s.run (.hiErrCntRead b) (fun d => d.hostR b .hi0 0x108 Dev.hiErrCntLoad)

/-- HI_OMCI_DROP_READ. -/
def execHiOmciDropRead (b : By) (s : State) : Host.Outcome State Fault Refusal :=
  s.run (.hiOmciDropRead b) (fun d => d.hostR b .hi0 0x110 Dev.hiOmciDropLoad)

/-! ## Performance counters (R440) -/

/-- A write of PM_SNAP_CMD: copy and clear group `g`, record module time. -/
def Dev.wPmSnap (g v : Nat) (d : Dev) : Dev :=
  let p : Page := .pmg g
  if PM_SNAP_CMD.SNAP.get v = 1 then
    let d1 := (List.range 32).foldl (fun (x : Dev) k =>
      x.wrs p [(PM_SNAPV.LO k, x.rd p (PM_CNT.LO k)), (PM_SNAPV.HI k, x.rd p (PM_CNT.HI k)), (PM_CNT.LO k, 0),
               (PM_CNT.HI k, 0)]) d
    d1.wrs p [(PM_SNAP_TIME.SEC_LO, d.time.sec), (PM_SNAP_TIME.SEC_HI, d.time.sec / 2 ^ 32),
              (PM_SNAP_TIME.FRAC, d.time.frac / 65536), (PM_SNAP_TIME.NS, d.time.ns)]
  else d

/-- PM_SNAP. -/
def execPmSnap (b : By) (g v : Nat) (s : State) : Host.Outcome State Fault Refusal :=
  s.run (.pmSnap b g v) (fun d =>
    d.hostF b (.pmg g) PM_SNAP_CMD.SNAP (PM_SNAP_CMD.SNAP.set v 1) (Dev.wPmSnap g (PM_SNAP_CMD.SNAP.set v 1)))

/-- A read of PM_CNT_LO(c) or PM_SNAPV_LO(c) of group `g` that reached the page: the low word, with the high one latched
for the reader. -/
def Dev.pmLoad (g c : Nat) (snap : Bool) (f : Nat) (d : Dev) : Nat × Dev :=
  (d.rd (.pmg g) (if snap then PM_SNAPV.LO c else PM_CNT.LO c),
   d.latch (.pmg g) ((if snap then 0x200 else 0x100) + 8 * c + 4) f
     (d.rd (.pmg g) (if snap then PM_SNAPV.HI c else PM_CNT.HI c)))

/-- A read of PM_CNT_LO(c) or PM_SNAPV_LO(c) of group `g`. -/
def Dev.pmRead (b : By) (g c : Nat) (snap : Bool) (d : Dev) : Dev :=
  d.hostR b (.pmg g) ((if snap then 0x200 else 0x100) + 8 * c) (Dev.pmLoad g c snap b.func)

/-- PM_CNT_LO_READ. -/
def execPmCntLoRead (b : By) (g c : Nat) (snap : Bool) (s : State) : Host.Outcome State Fault Refusal :=
  s.run (.pmCntLoRead b g c snap) (Dev.pmRead b g c snap)

/-! ## Function-level reset (R294, R307, R432, Table TNT–4) -/

/-- A function-level reset is received: FLR_BUSY, the rings and the job queue stop; jobs not started are dropped, the one
in progress ends without further writes, CI returns to 0 with the queue empty (log 19). -/
def Dev.flrStart (f : Nat) (d : Dev) : Dev :=
  if d.present f then
    ((d.wrT .tnTenant f TN_TENANT.FLR_BUSY 1).setJob f none).wrs (.cxt f) [(CX_JOBQ_CI.CI, 0), (CX_JOBQ_PI.PI, 0)]
  else d

/-- FUNCTION_LEVEL_RESET. -/
def execFunctionLevelReset (f : Nat) (s : State) : Host.Outcome State Fault Refusal :=
  s.run (.functionLevelReset f) (Dev.flrStart f)

/-- The ring registers of a function's HI page return to their reset values (R432). -/
def Dev.ringsReset (d : Dev) (f : Nat) : Dev :=
  let d1 := { d with
    regs := d.regs.keep (fun k => keyPage k != some (Page.hir f) || keyOff k < 0x100),
    hif := { d.hif with
      rings := d.hif.rings.keep (fun k => k / 16 != f),
      msix := d.hif.msix.keep (fun k => k / 64 != f),
      heldOmci := d.hif.heldOmci.filter (fun e => e.1 != f) } }
  let d2 := d1.setBp { d1.path.bp with
    inq := d1.path.bp.inq.map (fun (a : Admit) => match a.tx with
      | some (g, _, _) => if g = f then { a with tx := none } else a
      | none => a) }
  if f = 0 then
    let d3 := { d2 with
      hif := { d2.hif with heldPloam := [] },
      te := { d2.te with subs := d2.te.subs.map (fun e => (e.1, { e.2 with ring := none })),
                         fr := d2.te.fr.map (fun e =>
                           (e.1, { e.2 with hostQ := e.2.hostQ.map (fun (m : Ploam) => { m with ring := none }) })) } }
    [0, 1].foldl (fun (x : Dev) k => x.setLnk k { x.lnk k with unacked := [], awaiting := [] }) d3
  else d2

/-- A function-level reset completes: messages not consumed are discarded, the rings return to reset, the epoch and
FLR_COUNT advance, FLR_BUSY falls, FLR_DONE is raised. -/
def Dev.flrDone (f : Nat) (d : Dev) : Dev :=
  if d.onT .tnTenant f TN_TENANT.FLR_BUSY then
    let d1 := (d.ringsReset f).satT .tnTenant f TN_TENANT.FLR_COUNT
    let d2 := { d1 with pwr := { d1.pwr with epochs := bumpEpochs d1.pwr.epochs [f] } }
    (d2.wrT .tnTenant f TN_TENANT.FLR_BUSY 0).raise .tn 1
  else d

/-- FLR_DONE. -/
def execFlrDone (f : Nat) (s : State) : Host.Outcome State Fault Refusal := s.run (.flrDone f) (Dev.flrDone f)

end Sys2Proof.Machine
end

