-- ==== Sys2Proof/Machine/Framer.lean ====
section
/-! DEFINITION. The downstream framer between frame starts: its registers, its states, host PLOAM messages, the XGEM
frames it places, announcements and the TXDIS land (R53–R79, R89, R408, R409). -/

namespace Sys2Proof.Machine

/-! ## Framer states (R73) -/

/-- The frames of tree `n` that wait at the framer return to the scheduler's hold, in their order (R73); a frame that no
buffer holds stays. -/
def Dev.giveBack (d : Dev) (n : Nat) : Dev :=
  let f := d.fr n
  let back := f.ready.filterMap Xgem.item
  if back = [] then d
  else
    let d1 := d.setFr n { f with ready := f.ready.filter (fun x => x.item.isNone) }
    d1.setCx { d1.path.cx with ds := d1.path.cx.ds.put [] n (back ++ d1.path.cx.ds.get [] n) }

/-- The buffer behind a frame is released when all of the frame has been placed, or none of it will be. -/
def Dev.xgemFree (d : Dev) (x : Xgem) : Dev :=
  match x.item with
  | some c => d.release c.handle c.tag
  | none => d

/-- The framer stops at once (R73): key A goes with FSTATE; what it began is dropped, and no map is on the line. -/
def Dev.framerOffNow (d : Dev) (n : Nat) : Dev :=
  let d0 := d.giveBack n
  let d1 := match (d0.fr n).rem with
    | some x => d0.xgemFree x
    | none => d0
  (d1.setFr n { d1.fr n with handed := none, next := none, carried := ⟨[], false⟩, room := 0, rem := none,
                             oweRem := false, extra := false }).wrs (.te n 0)
    [(TE_TX_STAT.FSTATE, 0), (TE_TX_STAT.MAP_SUBST, 0)]

/-- The framer's move when FRAMER_EN or EN changes (Table DSF–4).  A field that has closed with a first fragment owes one
more frame for its remainder. -/
def Dev.framerKick (d : Dev) (n : Nat) : Dev :=
  let run := d.on (.te n 0) PAGE_CTRL.EN && d.on (.te n 0) TE_TX_CTRL.FRAMER_EN && d.live (.te n 0)
  match d.rd (.te n 0) TE_TX_STAT.FSTATE with
  | 0 => if run then (d.wr (.te n 0) TE_TX_STAT.FSTATE 1).laneWake n else d
  | 1 => if run then d else d.framerOffNow n
  | 2 =>
    if run then d
    else (d.setFr n { d.fr n with oweRem := (d.fr n).rem.isSome }).wr (.te n 0) TE_TX_STAT.FSTATE 3
  | _ => d

/-- A write of TE_TX_CTRL: PLOAM_MAX outside 1–8 refuses it with 0x106; else the fields are taken and the framer moves. -/
def Dev.wTxCtrl (n v : Nat) (d : Dev) : Dev :=
  let m := TE_TX_CTRL.PLOAM_MAX.get v
  if m < 1 ∨ 8 < m then d.logErr (.te n 0) 0x106
  else
    d.watch [n] (fun d =>
      (d.wrs (.te n 0) [(TE_TX_CTRL.PLOAM_MAX, m), (TE_TX_CTRL.TX_EN, TE_TX_CTRL.TX_EN.get v),
                        (TE_TX_CTRL.FRAMER_EN, TE_TX_CTRL.FRAMER_EN.get v)]).framerKick n)

/-- FRAMER_ENABLE: a write of TE_TX_CTRL with FRAMER_EN = 1. -/
def execFramerEnable (b : By) (n v : Nat) (s : State) : Host.Outcome State Fault Refusal :=
  s.run (.framerEnable b n v) (fun d =>
    d.hostF b (.te n 0) TE_TX_CTRL.FRAMER_EN (TE_TX_CTRL.FRAMER_EN.set v 1) (Dev.wTxCtrl n (TE_TX_CTRL.FRAMER_EN.set v 1)))

/-- FRAMER_DISABLE: a write of TE_TX_CTRL with FRAMER_EN = 0. -/
def execFramerDisable (b : By) (n v : Nat) (s : State) : Host.Outcome State Fault Refusal :=
  s.run (.framerDisable b n v) (fun d =>
    d.hostF b (.te n 0) TE_TX_CTRL.FRAMER_EN (TE_TX_CTRL.FRAMER_EN.set v 0) (Dev.wTxCtrl n (TE_TX_CTRL.FRAMER_EN.set v 0)))

/-! ## Line mode, phase, operation control (R54, R55, R57, R89) -/

/-- The receiver's entries of a line mode go (R89): the tree's profiles with the Hardy's copies (R158), and its recall. -/
def Dev.modeClear (d : Dev) (n : Nat) : Dev :=
  let d1 := (List.range 16).foldl (fun (x : Dev) p =>
    (x.wrT (.teBurstProfile n) p TE_BURST_PROFILE.VALID 0).wrT .hyProf (n * 16 + p) HY_PROF.VALID 0) d
  (List.range 256).foldl (fun (x : Dev) j => x.recallDrop n j 3) d1

/-- Every entry of a tree but an EMPTY or a DISABLED one goes to LOST with cause 11, at once (R114). -/
def Dev.modeLost (d : Dev) (n : Nat) : Dev :=
  (List.range 256).foldl (fun (x : Dev) j =>
    if transOk (x.onuSt n j) 6 11 then x.commitOne n (x.sfc n) (Trans.plain j 6 11 2) else x) d

/-- An accepted change of a port's line mode. -/
def Dev.setLineMode (d : Dev) (n mode : Nat) : Dev := ((d.wr (.te n 0) TE_MODE.LINE_MODE mode).modeClear n).modeLost n

/-- A write of TE_MODE (R55). -/
def Dev.wLineMode (n v : Nat) (d : Dev) : Dev :=
  if d.framerOff n && d.rxOff n && (d.groupOf n).isNone then d.setLineMode n (TE_MODE.LINE_MODE.get v)
  else d.logErr (.te n 0) 0x101

/-- LINE_MODE_WRITE. -/
def execLineModeWrite (b : By) (n v : Nat) (s : State) : Host.Outcome State Fault Refusal :=
  s.run (.lineModeWrite b n v) (fun d => d.hostF b (.te n 0) TE_MODE.LINE_MODE v (Dev.wLineMode n v))

/-- A write of TE_FRAME_PHASE (R57). -/
def Dev.wPhase (n v : Nat) (d : Dev) : Dev :=
  let x := TE_FRAME_PHASE.PHASE_NS.get v
  if d.framerOff n && decide (x < 125000) then
    (d.setPx n { d.px n with phase0 := none, trim := 0 }).wr (.te n 0) TE_FRAME_PHASE.PHASE_NS x
  else d.logErr (.te n 0) 0x102

/-- A write of TE_OC_HI commits both words from the next frame start (Table DSF–10). -/
def Dev.wOcHi (n v : Nat) (d : Dev) : Dev :=
  let d1 := d.wr (.te n 0) TE_OC_HI.OC_HI (TE_OC_HI.OC_HI.get v)
  d1.setFr n { d1.fr n with
    ocPend := some (d1.rd (.te n 0) TE_OC_LO.OC_LO + 2 ^ 32 * d1.rd (.te n 0) TE_OC_HI.OC_HI) }

/-- OC_HI_WRITE. -/
def execOcHiWrite (b : By) (n v : Nat) (s : State) : Host.Outcome State Fault Refusal :=
  s.run (.ocHiWrite b n v) (fun d => d.hostF b (.te n 0) TE_OC_HI.OC_HI v (Dev.wOcHi n v))

/-! ## The ToD stamp (R71) -/

/-- A write of TE_TOD_SF_LO or _HI, discarded while armed. -/
def Dev.wTodTarget (n v : Nat) (fld : Fld) (d : Dev) : Dev :=
  if d.on (.te n 0) TE_TOD_CTRL.ARM then d.logErr (.te n 0) 0x107 else d.wr (.te n 0) fld (fld.get v)

/-- The target index of the stamp. -/
def Dev.todTarget (d : Dev) (n : Nat) : Nat :=
  d.rd (.te n 0) TE_TOD_SF_LO.SF_LO + 2 ^ 32 * d.rd (.te n 0) TE_TOD_SF_HI.SF_HI

/-- A write of TE_TOD_CTRL: discarded while armed; it clears DONE and STALE, and arms when the target lies in the future. -/
def Dev.wTodCtrl (n v : Nat) (d : Dev) : Dev :=
  if d.on (.te n 0) TE_TOD_CTRL.ARM then d.logErr (.te n 0) 0x107
  else
    let arm := TE_TOD_CTRL.ARM.get v = 1
    let stale := arm ∧ d.todTarget n ≤ d.sfc n + 1
    d.wrs (.te n 0) [(TE_TOD_CTRL.DONE, 0), (TE_TOD_CTRL.STALE, if stale then 1 else 0),
                     (TE_TOD_CTRL.ARM, if arm ∧ !stale then 1 else 0)]

/-- TOD_ARM: a write of TE_TOD_CTRL with ARM = 1. -/
def execTodArm (b : By) (n v : Nat) (s : State) : Host.Outcome State Fault Refusal :=
  s.run (.todArm b n v) (fun d =>
    d.hostF b (.te n 0) TE_TOD_CTRL.ARM (TE_TOD_CTRL.ARM.set v 1) (Dev.wTodCtrl n (TE_TOD_CTRL.ARM.set v 1)))

/-- A built announcement reaches the framer (R72): kept for the frame of its send index, or late. -/
def Dev.annArrive (n : Nat) (d : Dev) : Dev :=
  match d.te.anns.find? (fun e => e.1 == n) with
  | none => d
  | some e =>
    let d1 := { d with te := { d.te with anns := d.te.anns.erase e } }
    if e.2.sendSfc ≤ d.sfc n ∧ d.sending n then (d1.cnt (.teDsCnt n) 10).raise (.te n 0) 4
    else d1.setFr n { d1.fr n with ann := (d1.fr n).ann ++ [e.2] }

/-- TOD_ANNOUNCEMENT. -/
def execTodAnnouncement (n : Nat) (s : State) : Host.Outcome State Fault Refusal :=
  s.run (.todAnnouncement n) (Dev.annArrive n)

/-! ## Host PLOAM messages (R63, R64) -/

/-- Types that only the sequencer sends, and TWDM types (Table DSF–3). -/
def ploamBarred : DsPloamType → Bool
  | .burstProfile => true | .assignOnuId => true | .rangingTime => true
  | .channelProfile => true | .tuningControl => true | .adjustTxWavelength => true | .calibrationRequest => true
  | .deactivateOnuId => false | .disableSerialNumber => false | .other _ => false

/-- Reject a host PLOAM message of tree `n` (R64): reason 3 the type, 4 the ONU-ID. -/
def Dev.ploamReject (d : Dev) (n : Nat) (m : Ploam) (reason : Nat) : Dev :=
  let d1 := match m.ring with | some (r, i) => d.txEnd 0 r i 6 reason | none => d
  ((d1.logErr (.te n 0) (0x100 + reason)).cnt (.teDsCnt n) 7).raise (.te n 0) 2

/-- The first host PLOAM message for tree `n` reaches the framer that carries the tree's messages (R64, R66, R182). -/
def Dev.ploamSubmit (n : Nat) (d : Dev) : Dev :=
  match d.te.subs.find? (fun e => e.1 == n) with
  | none => d
  | some e =>
    let d1 := { d with te := { d.te with subs := d.te.subs.erase e } }
    let m := e.2
    if ploamBarred m.type then d1.ploamReject n m 3
    else if m.onu ≠ bcastOnu ∧ (256 ≤ m.onu ∨ d.onuSt (d.groupPort n) m.onu = 0) then d1.ploamReject n m 4
    else
      let k := d1.lead n
      d1.setFr k { d1.fr k with hostQ := (d1.fr k).hostQ ++ [m] }

/-- HOST_PLOAM_SUBMIT. -/
def execHostPloamSubmit (n : Nat) (s : State) : Host.Outcome State Fault Refusal :=
  s.run (.hostPloamSubmit n) (Dev.ploamSubmit n)

/-! ## The payload field (R67–R70, R73, R409) -/

/-- Idle XGEM bytes fill `k` bytes of the field (R69). -/
def Dev.idleFill (d : Dev) (n k : Nat) : Dev :=
  if k = 0 then d
  else
    let d1 := (d.emit (.dsIdle n k)).cnt (.teDsCnt n) 4 k
    d1.setFr n { d1.fr n with room := (d1.fr n).room - k }

/-- A header of the line: its body, and the 13-bit HEC over it in the lowest bits (R54, R67). -/
def withHec (width body : Nat) : Nat := body * 8192 + Config.headerCheck width body % 8192

/-- The 8-byte header of an XGEM frame (R67): unpadded payload length, key index, port-ID, options, LF, HEC. -/
def xgemHeader (x : Xgem) (lf : Bool) (len : Nat) : Nat :=
  withHec 51 (len % 2 ^ 14 * 2 ^ 37 + x.keyIdx % 4 * 2 ^ 35 + x.port % 2 ^ 16 * 2 ^ 19 + x.options % 2 ^ 18 * 2 + lf.toNat)

/-- One XGEM frame, or the part of one, goes on the line. -/
def Dev.xgemOut (d : Dev) (n : Nat) (x : Xgem) (lf : Bool) (payload : List Byte) : Dev :=
  let d1 := d.emit (.dsXgem n x.port x.keyIdx x.options lf (xgemHeader x lf payload.length) payload)
  let d2 := (d1.cnt (.teDsCnt n) 11 payload.length).pm 2 n payload.length
  d2.setFr n { d2.fr n with room := (d2.fr n).room - xgemBytes payload.length }

/-- The clear-frame check fails (R409): an encrypted flow's frame without a key index or without the engine's mark. -/
def Xgem.wouldGoClear (x : Xgem) : Bool := x.cipher && !(x.done && (x.keyIdx == 1 || x.keyIdx == 2))

/-- Place the next ready XGEM frame in the field (R67, R68): whole; or a first fragment where at least 16 bytes remain;
or it waits behind an idle frame.  In STOPPING no fragment is begun: a frame that does not fit returns to the scheduler's
hold (R73). -/
def Dev.place (n : Nat) (d : Dev) : Dev :=
  let f := d.fr n
  match f.ready with
  | [] => d
  | x :: t =>
    let d1 := d.setFr n { f with ready := t }
    let need := xgemBytes (x.payload.length + x.rest.length)
    if x.wouldGoClear then ((d1.idleFill n (min need f.room)).report 29 n).xgemFree x
    else if need ≤ f.room ∧ x.rest = [] then ((d1.xgemOut n x true x.payload).cnt (.teDsCnt n) 2).xgemFree x
    else if d.rd (.te n 0) TE_TX_STAT.FSTATE = 3 then (d.giveBack n).idleFill n (d.fr n).room
    else if 16 ≤ f.room then
      let m := (f.room - 8) / 4 * 4
      let rem : Xgem := { x with payload := x.payload.drop m }
      let d2 := ((d1.xgemOut n x false (x.payload.take m)).cnt (.teDsCnt n) 2).cnt (.teDsCnt n) 3
      d2.setFr n { d2.fr n with rem := some rem, room := 0 }
    else d.idleFill n f.room

/-- Whether the field takes frames: not the frame that STOPPING owes, which idles after its remainder (R73), nor on an
unbonded tree while its framer is asked to quiesce; fragments of a group that were assigned to the frame stay in it (R70,
R283). -/
def Dev.fieldOpen (d : Dev) (n : Nat) : Bool :=
  d.sending n && !(d.fr n).extra && (!d.on (.te n 0) PAGE_CTRL.QUIESCE_REQ || (d.groupOf n).isSome)

/-- The framer fills the field of the frame on the line. -/
def Dev.dsXgem (n : Nat) (d : Dev) : Dev := if d.fieldOpen n && (d.fr n).room != 0 then Dev.place n d else d

/-- DS_XGEM_FRAME. -/
def execDsXgemFrame (n : Nat) (s : State) : Host.Outcome State Fault Refusal := s.run (.dsXgemFrame n) (Dev.dsXgem n)

/-! ## The TXDIS land (R76) -/

/-- A sample of the TXDIS land of tree `n`. -/
def Dev.txdisSample (n : Nat) (level : Bool) (d : Dev) : Dev :=
  if d.live (.te n 0) then
    let d1 := d.wr (.te n 0) TE_TX_STAT.TXDIS_PIN level.toNat
    if level = d.txdis n then d1.setFr n { d1.fr n with disRun := 0 }
    else
      let run := (d1.fr n).disRun + 1
      let d2 := d1.setFr n { d1.fr n with disRun := min run 2 }
      if 2 ≤ run then ((d2.raise (.te n 0) 6).logErr (.te n 0) 0x105).report 35 n else d2
  else d

/-- TXDIS_SAMPLE. -/
def execTxdisSample (n : Nat) (level : Bool) (s : State) : Host.Outcome State Fault Refusal :=
  s.run (.txdisSample n level) (Dev.txdisSample n level)

end Sys2Proof.Machine
end

