-- ==== Sys2Proof/Machine/RangeOps.lean ====
section
/-! DEFINITION. Shared operations of ranging and bonding skew: the units of the line, skew entries, the drift filter,
Ranging_Time (R104, R105, R118–R121, R185–R187). -/

namespace Sys2Proof.Machine

/-! ## Units (Table BRX–1) -/

/-- A quotient to the nearest whole, halves away from zero. -/
def roundDiv (v : Int) (k : Nat) : Int :=
  if 0 ≤ v then (2 * v + k) / (2 * (k : Int)) else -((2 * (-v) + k) / (2 * (k : Int)))

/-- Picoseconds of `k` blocks at `c` blocks per frame. -/
def blockPs (c k : Nat) : Int := roundDiv ((k * 125000000 : Nat) : Int) c

/-- Picoseconds of an amount in 1/64 UI at `c` blocks per frame: one UI is 125 µs ÷ (128 × c). -/
def uiPs (c : Nat) (x : Int) : Int := roundDiv (x * 125000000) (c * 128 * 64)

/-- Whole UI of an amount in 1/64 UI, halves away from zero. -/
def wholeUi (x : Int) : Int := roundDiv x 64

/-- The equalisation target TEQD in UI of a tree. -/
def Dev.teqdUi (d : Dev) (n : Nat) : Nat := nsToUi (d.blocks n) (d.rd (.te n 2) TE_RANGE_CFG.TEQD_NS)

/-- The half-width of the arrival window in 1/64 UI: a byte is 8 UI. -/
def marginUi (bytes : Nat) : Nat := bytes * 8 * 64

/-- Whether two spans of blocks touch. -/
def spansMeet (a b a' b' : Int) : Bool := a < b' && a' < b

/-! ## Skew entries (R185–R187) -/

/-- Index of a BD_SKEW entry. -/
def skewIdx (g s j : Nat) : Nat := g * 1024 + s * 256 + j

/-- The skew of ONU `j` on member slot `s` of group slot `g`, in UI relative to the acting lead, whose own is 0. -/
def Dev.skew (d : Dev) (g s j : Nat) : Int :=
  if s = d.rdT .bdGroup g BD_GROUP.ACTING_LEAD then 0 else sext 24 (d.rdT .bdSkew (skewIdx g s j) BD_SKEW.SKEW)

/-- Whether the skew is measured; the acting lead's always is (R187). -/
def Dev.skewValid (d : Dev) (g s j : Nat) : Bool :=
  s == d.rdT .bdGroup g BD_GROUP.ACTING_LEAD || d.onT .bdSkew (skewIdx g s j) BD_SKEW.VALID

/-- Whether ONU `j` may have grants on the member: its skew is measured and tolerated, or it is the acting lead (R183). -/
def Dev.skewUsable (d : Dev) (g s j : Nat) : Bool :=
  s == d.rdT .bdGroup g BD_GROUP.ACTING_LEAD ||
    (d.onT .bdSkew (skewIdx g s j) BD_SKEW.VALID && !d.onT .bdSkew (skewIdx g s j) BD_SKEW.EXCL)

/-- SKEW_MAX_US in UI of the group's upstream rate. -/
def Dev.skewMax (d : Dev) (g : Nat) : Nat :=
  nsToUi (d.blocks (2 * g)) (1000 * d.rdT .bdGroup g BD_GROUP.SKEW_MAX_US)

/-- Write a skew: beyond SKEW_MAX_US it excludes the ONU from the member; `excl` says that it is excluded in any case. -/
def Dev.setSkew (d : Dev) (g s j : Nat) (v : Int) (excl : Bool) : Dev :=
  let i := skewIdx g s j
  let far := decide (d.skewMax g < v.natAbs)
  let d1 := d.wrTs .bdSkew i [(BD_SKEW.EXCL, (far || excl).toNat), (BD_SKEW.SKEW, toBits 24 v)]
  if far then
    let d2 := d1.raise .bd 2
    if d.onT .bdSkew i BD_SKEW.EXCL then d2 else d2.cnt .bdCnt (g * 16 + 11)
  else d1

/-- Rebase every skew entry of a group at a change of its acting lead (R187): exclusions stand, and the entry of the lead
that was becomes one of a measured member. -/
def Dev.rebase (d : Dev) (g new : Nat) : Dev :=
  (List.range 256).foldl (fun (x : Dev) j =>
    (List.range (d.grpSize g)).foldl (fun (y : Dev) s =>
      let i := skewIdx g s j
      if s = new then y.wrTs .bdSkew i [(BD_SKEW.VALID, 0), (BD_SKEW.EXCL, 0), (BD_SKEW.SKEW, 0)]
      else
        (y.wrT .bdSkew i BD_SKEW.VALID (d.skewValid g s j).toNat).setSkew g s j (d.skew g s j - d.skew g new j)
          (d.onT .bdSkew i BD_SKEW.EXCL)) x) d

/-! ## Deciding (R114) -/

/-- Decide a transition of the tree of port `n`; it is committed at once while no handover instant occurs. -/
def Dev.planNow (d : Dev) (n : Nat) (t : Trans) : Dev :=
  let g := d.groupPort n
  (d.plan g t).commitNow g

/-! ## Ranging_Time (R105, R118, R120) -/

/-- An equalisation delay in UI as Ranging_Time carries it: in the unit of the recommendation, to the nearest, halves up
(R105). -/
def Dev.eqdUnits (d : Dev) (n ui : Nat) : Nat :=
  let u := Config.eqdUnit (d.rd (.te n 0) TE_MODE.LINE_MODE)
  (2 * ui * u.1 + u.2) / (2 * u.2)

/-- Send Ranging_Time with the EQD of an ONU. -/
def Dev.rangingTime (d : Dev) (n j : Nat) : Dev :=
  d.ploam n j .rangingTime (beBytes 4 (d.eqdUnits n (d.rdT (.teOnu n) j TE_ONU.EQD)))

/-- The ranging of an ONU, while it is being ranged or a correction of it waits. -/
def Dev.rng (d : Dev) (n j : Nat) : Option Ranging := ((d.sq n).rng.find? (fun e => e.1 == j)).map Prod.snd

/-- Set the ranging of an ONU. -/
def Dev.setRng (d : Dev) (n j : Nat) (r : Ranging) : Dev :=
  d.setSq n { d.sq n with rng := (d.sq n).rng.ins j r }

/-- A ranging failure: the ONU goes to LOST (Table RNG–2). -/
def Dev.rangeFail (d : Dev) (n j : Nat) : Dev :=
  (d.cnt (.teRngCnt n) 5).planNow n (Trans.plain j 6 6 4)

/-- The measurement step (R118): RTD and EqD of a ranging burst that arrived `err` whole UI after D, then Ranging_Time;
an EqD below 0 is beyond reach (R105). -/
def Dev.measure (d : Dev) (n j : Nat) (r : Ranging) (err : Int) : Dev :=
  let eqd := r.used - err
  let d1 := d.wrT (.teOnu n) j TE_ONU.RTD (toBits 32 ((d.teqdUi n : Int) - eqd))
  if eqd < 0 then d1.rangeFail n j
  else
    let d2 := d1.wrT (.teOnu n) j TE_ONU.EQD eqd.toNat
    (d2.setRng n j { r with confirm := false, wait := true, sends := 1, seqs := [] }).rangingTime n j

/-! ## Continuous ranging (R119, R120, R186) -/

/-- The superframe count of the first map handed over after this instant, plus 1. -/
def Dev.nextMap (d : Dev) (n : Nat) : Nat :=
  let m := d.lead n
  d.sfc m + 2 + (if (d.fr m).handed.isSome || (d.fr m).next.isSome then 1 else 0)

/-- What filtered drift F of an OPERATING ONU leads to on the acting lead (R120). -/
def Dev.driftAct (d : Dev) (n j : Nat) (f : Int) : Dev :=
  let hard := d.rd (.te n 2) TE_DRIFT_CFG.HARD_UI * 64
  let soft := d.rd (.te n 2) TE_DRIFT_CFG.SOFT_UI * 64
  let eqd : Int := (d.rdT (.teOnu n) j TE_ONU.EQD : Int) - wholeUi f
  if hard < f.natAbs then d.planNow n (Trans.plain j 4 7 4)
  else if soft < f.natAbs then
    if eqd < 0 then d.planNow n (Trans.plain j 4 7 4)
    else
      let d1 := (d.wrT (.teOnu n) j TE_ONU.EQD eqd.toNat).satT (.teOnu n) j TE_ONU.CORR_CNT
      let d2 := (d1.cnt (.teRngCnt n) 6).driftClear n j
      (d2.setRng n j { confirm := false, fails := 0, wait := true, sends := 1, seqs := [], used := eqd }).rangingTime n j
  else d

/-- What filtered drift of a member other than the acting lead leads to (R186). -/
def Dev.driftSkew (d : Dev) (g m j : Nat) (f : Int) : Dev :=
  if d.rd (.te m 2) TE_DRIFT_CFG.SOFT_UI * 64 < f.natAbs then
    let s := m - 2 * g
    let q := d.sq (2 * g)
    let d1 := (d.setSq (2 * g) { q with drift := q.drift.del (s * 256 + j) }).cnt .bdCnt (g * 16 + 10)
    d1.setSkew g s j (d.skew g s j + wholeUi f) (d.onT .bdSkew (skewIdx g s j) BD_SKEW.EXCL)
  else d

/-- Whether an accepted burst of an OPERATING ONU granted at superframe count `sfc` gives a drift sample: none while a
correction waits for its acknowledgement, and then only from maps handed over after it (R120). -/
def Dev.samples (d : Dev) (n j sfc : Nat) : Bool :=
  (d.rng n j).isNone && (d.sq n).resume.get 0 j ≤ sfc + 1

/-- A drift sample of ONU `j` from port `m`: the filter, and on a tree that is not standby what follows from it, which the
hold of R126 keeps for later (R119–R121). -/
def Dev.driftSample (d : Dev) (m j sfc : Nat) (x : Int) : Dev :=
  let n := d.groupPort m
  let lead := m == d.lead n
  if d.onuSt n j ≠ 3 || (lead && !d.samples n j sfc) then d
  else
    let k := (m - n) * 256 + j
    let q := d.sq n
    let l := (x :: q.drift.get [] k).take 16
    let d1 := d.setSq n { q with drift := q.drift.put [] k l }
    let f : Int := Int.tdiv (l.foldl (· + ·) 0) 16
    let full := l.length == 16
    let d2 := if lead then
        let d2 := d1.wrT (.teOnu n) j TE_ONU.DRIFT_N l.length
        if full then d2.wrT (.teOnu n) j TE_ONU.DRIFT_F (toBits 16 f) else d2
      else d1
    if !full || d2.standby n then d2
    else
      match d2.groupOf m, lead with
      | some g, false => d2.driftSkew g m j f
      | _, _ => d2.driftAct n j f

end Sys2Proof.Machine
end

