-- ==== Sys2Proof/Machine/BwOps.lean ====
section
/-! DEFINITION. The bandwidth engine's shared operations: reports, needs, the allocation steps with ceilings and shares,
bursts, parts over the members of a group, and their layout (R131–R146, R183). -/

namespace Sys2Proof.Machine

/-! ## Reports (R139, R140) -/

/-- A delivered report of allocation `a` of the tree of group port `n`, from a burst granted at count `m`: an occupancy
in the unit of the tree's mode, or no measurement (R98, R134, R139).  One that comes after the cut serves the following
frame; conventional mode sees it from the next opening of a cycle on (R142, R149). -/
def Dev.reportIn (d : Dev) (n a m q : Nat) : Dev :=
  if !d.onT .bwAlloc a BW_ALLOC.VALID then d.cnt (.bwTreeCnt n) 12
  else
    let d1 := d.wrT .bwAlloc a BW_ALLOC.REPORT_AGE 0
    if q = 0xffffff then d1
    else
      let v := if d.rd (.te n 0) TE_MODE.LINE_MODE = 0 then (q + 3) / 4 else q
      let d2 := d1.wrT .bwAlloc a BW_ALLOC.LAST_Q v
      let b := d2.bw n
      let r : BwReport := ⟨a, v, m⟩
      let b1 := { b with lastM := b.lastM.put 0 a (m + 1) }
      let b2 := if d.now < b.openAt + 1500 then { b1 with convQ := b1.convQ.put 0 a v, convM := b1.convM.put 0 a (m + 1) }
        else { b1 with stash := b1.stash ++ [r] }
      if b.cut then (d2.setBw n { b2 with late := b2.late ++ [r] }).cnt (.bwTreeCnt n) 6
      else d2.setBw n { b2 with reported := b2.reported ++ [r] }

/-- Confirmed payload of allocation `a` in maps after count `m1 - 1` up to `top`, of the last 16 (R140, R141). -/
def BwTree.payloadIn (b : BwTree) (a m1 top : Nat) : Nat :=
  b.hist.foldl (fun s e => if m1 ≤ e.1 ∧ e.1 ≤ top then s + e.2.get 0 a else s) 0

/-- Outstanding grant G_out of an allocation whose last report's map was `m1 - 1` (R140). -/
def BwTree.outstanding (b : BwTree) (a m1 : Nat) : Nat :=
  b.hist.foldl (fun s e => if m1 ≤ e.1 then s + e.2.get 0 a else s) 0

/-! ## Claims -/

/-- A valid allocation of a tree with what it may have and, by step, what it has. -/
structure Claim where
  a : Nat
  onu : Nat
  ty : Nat
  tenant : Nat
  wire : Nat
  weight : Nat
  minG : Nat
  fixed : Nat
  assured : Nat
  maxB : Nat
  per : Nat
  dbru : Bool
  need : Nat
  s2 : Nat
  s3 : Nat
  s4 : Nat
  s5 : Nat
  deriving DecidableEq, Repr

/-- Payload of a claim outside its periodic grants. -/
def Claim.pay (c : Claim) : Nat := c.s2 + c.s3 + c.s4 + c.s5

/-- What remains of a claim's demand in a weighted step (Table BW–4). -/
def Claim.rest (step : Nat) (c : Claim) : Nat :=
  if step = 4 then (if c.ty = 3 then min c.need c.maxB - c.s3 else 0)
  else (if c.ty = 4 then min c.need c.maxB else 0)

/-- The engine's view of its configuration: as of the bellows start (R18). -/
def Dev.bwView (d : Dev) (n : Nat) : Dev := { d with regs := (d.bw n).snapR, tbls := (d.bw n).snapT }

/-- Valid allocations of a tree whose ONU is OPERATING (R117, R131), in index order, with no need yet. -/
def Dev.claims (v : Dev) (n : Nat) : List Claim :=
  ((v.listedT .bwAlloc BW_ALLOC.VALID).filter (fun e =>
    e.2 == 1 && v.rdT .bwAlloc e.1 BW_ALLOC.TREE == n && v.onuSt n (v.rdT .bwAlloc e.1 BW_ALLOC.ONU) == 3)).map
  (fun e =>
    let r := fun f => v.rdT .bwAlloc e.1 f
    { a := e.1, onu := r BW_ALLOC.ONU, ty := r BW_ALLOC.TYPE, tenant := r BW_ALLOC.TENANT, wire := r BW_ALLOC.WIRE_ID,
      weight := r BW_ALLOC.WEIGHT, minG := r BW_ALLOC.MIN_GRANT, fixed := r BW_ALLOC.FIXED_BLK,
      assured := r BW_ALLOC.ASSURED_BLK, maxB := r BW_ALLOC.MAX_BLK, per := r BW_ALLOC.PER_COUNT,
      dbru := r BW_ALLOC.DBRU == 1, need := 0, s2 := 0, s3 := 0, s4 := 0, s5 := 0 })

/-! ## Ceilings (R143) -/

/-- What serving has come to: the claims, payload charged by tenant, withholdings and reductions, departures under
MIN_GRANT. -/
structure Build where
  cl : List Claim
  sums : Store Nat
  clips : Nat
  mins : Nat

/-- What a tenant may still have on a tree; 0xFFFF is no ceiling. -/
def Dev.ceilLeft (v : Dev) (n : Nat) (b : Build) (t want : Nat) : Nat :=
  let c := v.rdT .bwCeil (t * 48 + n) BW_CEIL.CEIL_BLK
  if c = 0xffff then want else c - b.sums.get 0 t

/-- Charge a grant of payload `want` to a tenant: whole or not at all, or cut to the ceiling's remainder. -/
def Dev.ceilCharge (v : Dev) (n t want : Nat) (whole : Bool) (b : Build) : Nat × Build :=
  let left := v.ceilLeft n b t want
  let got := if want ≤ left then want else if whole then 0 else left
  (got, { b with sums := b.sums.put 0 t (b.sums.get 0 t + got), clips := if got < want then b.clips + 1 else b.clips })

/-- Serve one step over every claim in index order: `amt` is what the claim is to have, `set` records it. -/
def Dev.serve (v : Dev) (n : Nat) (whole : Bool) (amt : Claim → Nat) (set : Claim → Nat → Claim) (b : Build) : Build :=
  b.cl.foldl (fun acc c =>
    let r := if amt c = 0 then (0, acc) else v.ceilCharge n c.tenant (amt c) whole acc
    { r.2 with cl := r.2.cl ++ [set c r.1] }) { b with cl := [] }

/-! ## Capacity and shares (R144) -/

/-- Profile index of an ONU's bursts on port `m` (R138). -/
def Dev.profIdx (v : Dev) (b : BwTree) (m n j : Nat) : Nat :=
  if b.recalled.contains (m * 256 + j) then v.rd (.bwt n) BW_TREE_CFG.PROF_SHORT_IDX
  else v.rd (.bwt n) BW_TREE_CFG.PROF_LONG_IDX

/-- The TE_BURST_PROFILE entry of a profile index of an ONU. -/
def Dev.profOf (d : Dev) (n j idx : Nat) : Nat := d.rdT (.teOnu n) j TE_ONU.PROF_MAP / 16 ^ idx % 16

/-- Overhead blocks of an ONU's bursts on port `m` with a profile index. -/
def Dev.overhead (v : Dev) (m n j idx : Nat) : Nat :=
  v.rdT (.teBurstProfile m) (v.profOf n j idx) TE_BURST_PROFILE.OH_BLOCKS

/-- The ONUs named by a list of claims, in order of appearance, each once. -/
def claimOnus (l : List Claim) : List Nat :=
  l.foldl (fun o c => if o.contains c.onu then o else o ++ [c.onu]) []

/-- Blocks of an ONU's burst as served so far, with its overhead. -/
def Dev.burstBlocks (v : Dev) (b : BwTree) (m n : Nat) (cl : List Claim) (j : Nat) : Nat :=
  let own := cl.filter (fun c => c.onu == j && c.pay != 0)
  v.overhead m n j (v.profIdx b m n j) + 1 + (if b.ploamDue.contains j then 3 else 0) +
    own.foldl (fun s c => s + c.pay + c.dbru.toNat) 0

/-- A share in the making: allocation, weight, remaining demand, share so far. -/
structure Share where
  a : Nat
  w : Nat
  rem : Nat
  got : Nat

/-- Single left-over blocks go one each, in index order, to the claimants still short. -/
def handOut : Nat → List Share → List Share
  | 0, l => l
  | _, [] => []
  | k + 1, x :: t => if x.got < x.rem then { x with got := x.got + 1 } :: handOut k t else x :: handOut (k + 1) t

/-- Share a capacity by weight among the claimants still short, again and again while a round gives something. -/
def shareOut : Nat → Nat → List Share → List Share
  | 0, cap, l => handOut cap l
  | k + 1, cap, l =>
    let ws := l.foldl (fun s x => if x.got < x.rem then s + x.w else s) 0
    if cap = 0 ∨ ws = 0 then l
    else
      let give := fun (x : Share) => if x.got < x.rem then min (cap * x.w / ws) (x.rem - x.got) else 0
      let total := l.foldl (fun s x => s + give x) 0
      if total = 0 then handOut cap l
      else shareOut k (cap - total) (l.map (fun x => { x with got := x.got + give x }))

/-- Share among the claimants of a weighted step; one whose share falls below its MIN_GRANT leaves and the sharing is worked
out anew.  A pass is one working-out of the sharing, to its last left-over block (DEDUCED, log 74).  Gives the shares by
allocation and the number that left. -/
def shareStep (capOf : List Claim → Nat) (step : Nat) : Nat → List Claim → List Share × Nat
  | 0, _ => ([], 0)
  | k + 1, l =>
    let sh := shareOut (2 * l.length + 4) (capOf l) (l.map (fun c => ⟨c.a, c.weight, c.rest step, 0⟩))
    let out := (l.zip sh).filter (fun e => e.2.got != 0 && decide (e.2.got < e.1.minG))
    if out.isEmpty then (sh, 0)
    else
      let r := shareStep capOf step k (l.filter (fun c => !out.any (fun e => e.1.a == c.a)))
      (r.1, r.2 + out.length)

/-- Capacity left for a weighted step among claimants `cs` (R144): the ports' blocks less what the quiet windows and the
pinned grants take (`taken`, in `pins` footprints), the bursts served so far, the gaps between bursts, and the overhead
and framing of each ONU that would be new. -/
def Dev.capacity (v : Dev) (b : BwTree) (m n blocks taken pins : Nat) (served cs : List Claim) : Nat :=
  let old := claimOnus (served.filter (fun c => c.pay != 0))
  let new := (claimOnus cs).filter (fun j => !old.contains j)
  let used := old.foldl (fun s j => s + v.burstBlocks b m n served j) 0
  let fresh := new.foldl (fun s j => s + v.overhead m n j (v.profIdx b m n j) + 1) 0
  blocks - taken - used - fresh - v.rd .hy0 HY_GAP_MIN.GAP * (pins + old.length + new.length - 1)

/-- A weighted step (4 or 5). -/
def Dev.weighted (v : Dev) (bw : BwTree) (m n blocks taken pins step : Nat) (b : Build) : Build :=
  let cs := b.cl.filter (fun c => c.rest step != 0)
  let r := shareStep (fun l => v.capacity bw m n blocks taken pins b.cl l) step (cs.length + 1) cs
  let amt := fun (c : Claim) => match r.1.find? (fun x => x.a == c.a) with | some x => x.got | none => 0
  let b1 := v.serve n false amt (fun c k => if step = 4 then { c with s4 := k } else { c with s5 := k }) b
  { b1 with mins := b1.mins + r.2 }

/-! ## Bursts and parts (R135, R183) -/

/-- A grant of a burst in the making: payload by step. -/
structure Part where
  a : Nat
  wire : Nat
  tenant : Nat
  dbru : Bool
  p2 : Nat
  p3 : Nat
  p4 : Nat
  p5 : Nat

/-- Payload of a part. -/
def Part.pay (p : Part) : Nat := p.p2 + p.p3 + p.p4 + p.p5

/-- A burst in the making: a PLOAMu grant of its own has no part. -/
structure Burst where
  onu : Nat
  idx : Nat
  oh : Nat
  ploamu : Bool
  parts : List Part

/-- The k-th of `parts` portions of an amount: the remainder goes one block each from the first. -/
def portion (x parts k : Nat) : Nat := x / parts + (if k < x % parts then 1 else 0)

/-- Usable members of ONU `j` for its grants, in slot order; the port itself on an unbonded tree (R183).  A group with no
member in service has none, as it sends only empty maps (R190). -/
def Dev.usable (v : Dev) (n j : Nat) : List Nat :=
  match v.groupOf n with
  | none => [n]
  | some g => (v.members g).filter (fun m => (m == v.lead n && v.inService m) ||
      (v.memberState g (m - n) == 0 && v.skewUsable g (m - n) j))

/-- The member that carries the k-th of several consecutive shares of ONU `j`: position j mod U and on. -/
def Dev.partPort (v : Dev) (n j k : Nat) : Nat :=
  let u := v.usable n j
  u.getD ((j + k) % u.length) n

/-- Number of parts of an ONU's non-pinned payload. -/
def Dev.partsOf (v : Dev) (n j pay : Nat) : Nat :=
  match v.groupOf n with
  | none => 1
  | some g => min (v.usable n j).length (max 1 (pay / v.rdT .bdGroup g BD_GROUP.SPLIT_MIN))

/-- The k-th part of a claim. -/
def Claim.part (c : Claim) (parts k : Nat) : Part :=
  let q := portion c.pay parts k
  let q4 := if c.ty = 3 then min q (portion c.s4 parts k) else 0
  { a := c.a, wire := c.wire, tenant := c.tenant, dbru := c.dbru && k == 0,
    p2 := if c.ty = 1 then q else 0, p3 := if c.ty = 2 ∨ c.ty = 3 then q - q4 else 0, p4 := q4,
    p5 := if c.ty = 4 then q else 0 }

/-- The burst of ONU `j` on port `m` from the claims served: `none` where it has no part there. -/
def Dev.burstOn (v : Dev) (bw : BwTree) (m n : Nat) (cl : List Claim) (j : Nat) : Option Burst :=
  let own := cl.filter (fun c => c.onu == j && c.pay != 0)
  let parts := v.partsOf n j (own.foldl (fun s c => s + c.pay) 0)
  let mine := ((List.range parts).filter (fun k => v.partPort n j k == m)).flatMap (fun k =>
    (own.map (fun c => c.part parts k)).filter (fun p => p.pay != 0))
  let idx := v.profIdx bw m n j
  let due := bw.ploamDue.contains j
  if mine ≠ [] then
    some { onu := j, idx := idx, oh := v.overhead m n j idx, ploamu := due && v.partPort n j 0 == m, parts := mine }
  else if due ∧ own = [] ∧ m = v.lead n ∧ v.inService m = true then
    some { onu := j, idx := idx, oh := v.overhead m n j idx, ploamu := true, parts := [] }
  else none

/-- Blocks of a burst's grants: framing, DBRu, PLOAMu and payload (R135). -/
def Burst.size (b : Burst) : Nat :=
  1 + (if b.ploamu then 3 else 0) + b.parts.foldl (fun s p => s + p.pay + p.dbru.toNat) 0

/-! ## Layout (R145) -/

/-- The first position from `x` at which `len` blocks keep `gap` from every obstacle (first block, one past the last). -/
def firstFit (gap len : Int) : Nat → List (Int × Int) → Int → Int
  | 0, _, x => x
  | k + 1, obs, x =>
    match obs.find? (fun o => x < o.2 + gap && o.1 < x + len + gap) with
    | some o => firstFit gap len k obs (o.2 + gap)
    | none => x

/-- Place bursts in order: each footprint at the first fit from the previous burst's end and the gap. -/
def placeAll (gap : Nat) (obs : List (Int × Int)) : Nat → List Burst → List (Burst × Nat)
  | _, [] => []
  | x, b :: t =>
    let len := b.oh + b.size
    let p := (firstFit gap len (obs.length + 1) obs x).toNat
    (b, p) :: placeAll gap obs (p + len + gap) t

/-- One past the last block of a layout. -/
def layoutEnd (l : List (Burst × Nat)) : Nat := l.foldl (fun _ e => e.2 + e.1.oh + e.1.size) 0

/-- Take up to `e` blocks of one step from the last part of a burst that has some; `none` where none has. -/
def cutParts (step e : Nat) : List Part → Option (List Part)
  | [] => none
  | p :: t =>
    match cutParts step e t with
    | some t' => some (p :: t')
    | none =>
      let q := if step = 5 then p.p5 else if step = 4 then p.p4 else if step = 3 then p.p3 else p.p2
      if q = 0 then none
      else
        let r := q - min q e
        let p' := if step = 5 then { p with p5 := r } else if step = 4 then { p with p4 := r }
          else if step = 3 then { p with p3 := r } else { p with p2 := r }
        some (if p'.pay = 0 then t else p' :: t)

/-- Reduce the last burst that has payload of a step; a burst left with no part is gone, but for a PLOAMu that is due,
which stays as a grant of its own (R137). -/
def cutBursts (step e : Nat) : List Burst → Option (List Burst)
  | [] => none
  | b :: t =>
    match cutBursts step e t with
    | some t' => some (b :: t')
    | none =>
      match cutParts step e b.parts with
      | none => none
      | some ps => some (if ps.isEmpty && !b.ploamu then t else { b with parts := ps } :: t)

/-- The bursts of one port reduced until their layout fits in `c` blocks: step 5 first, then 4, 3 and 2, from the last
burst backwards; what still does not fit is a PLOAMu grant of its own, taken from the end. -/
def fitBursts (gap c : Nat) (obs : List (Int × Int)) : Nat → List Burst → List Burst
  | 0, l => l
  | k + 1, l =>
    let last := layoutEnd (placeAll gap obs 0 l)
    if last ≤ c then l
    else
      match [5, 4, 3, 2].findSome? (fun s => cutBursts s (last - c) l) with
      | some l' => fitBursts gap c obs k l'
      | none => fitBursts gap c obs k l.dropLast

/-- Total of what a list of bursts could lose: an upper bound on the rounds of `fitBursts`. -/
def burstFuel (l : List Burst) : Nat := l.foldl (fun s b => s + 1 + b.parts.foldl (fun s p => s + p.pay) 0) 1

/-- The grants of a placed burst (R80, R135). -/
def burstGrants (e : Burst × Nat) : List Grant :=
  let b := e.1
  let s := e.2 + b.oh
  let extra := 1 + (if b.ploamu then 3 else 0)
  if b.parts.isEmpty then
    [{ wireId := b.onu, start := s, size := extra, prof := b.idx, dbru := false, ploamu := true, seq := false,
       alloc := none, onu := b.onu, tenant := 0, kind := 1 }]
  else
    (b.parts.foldl (fun (acc : List Grant × Nat × Bool) p =>
      let size := p.pay + p.dbru.toNat + (if acc.2.2 then extra else 0)
      let g : Grant := { wireId := p.wire, start := acc.2.1, size := size, prof := b.idx, dbru := p.dbru,
                         ploamu := acc.2.2 && b.ploamu, seq := false, alloc := some p.a, onu := b.onu,
                         tenant := p.tenant, kind := 0 }
      (acc.1 ++ [g], acc.2.1 + size, false)) ([], s, true)).1

/-- Put a grant at its place by start time. -/
def insertGrant (g : Grant) : List Grant → List Grant
  | [] => [g]
  | x :: t => if g.start < x.start then g :: x :: t else x :: insertGrant g t

/-- Grants in start-time order; equal starts keep their order. -/
def sortGrants (l : List Grant) : List Grant := l.foldl (fun acc g => insertGrant g acc) []

/-- Payload blocks of a grant of an allocation: its size less what R135 adds. -/
def grantPay (first : Bool) (g : Grant) : Nat :=
  g.size - (if first then 1 else 0) - (if g.dbru then 1 else 0) - (if g.ploamu then 3 else 0)

/-- A map with, for each grant, whether it is the first of its burst (R80). -/
def withFirst (l : List Grant) : List (Grant × Bool) :=
  (l.foldl (fun (acc : List (Grant × Bool) × Option Grant) g =>
    let first := match acc.2 with
      | some p => !(p.onu == g.onu && p.start + p.size == g.start && p.kind != 3 && g.kind != 3)
      | none => true
    (acc.1 ++ [(g, first)], some g)) ([], none)).1

end Sys2Proof.Machine
end

