-- ==== Sys2Proof/Machine/RxOps.lean ====
section
/-! DEFINITION. The burst receiver's shared operations: arming, the outcomes of a burst, recall, loss of bursts, skew
probes, acquisition, rogue evidence, upstream messages (R80–R103, R119, R122, R185, R211). -/

namespace Sys2Proof.Machine

/-! ## Arming (R80–R86, R90, R92) -/

/-- How many of 64 bits differ (R93). -/
def bitDiff (a b : Nat) : Nat := ((List.range 64).filter (fun i => a.testBit i != b.testBit i)).length

/-- One bit of the CRC-8 of R98: polynomial 0x07. -/
def crc8Bit (c : Nat) : Nat := if 128 ≤ c then Nat.xor ((c * 2) % 256) 7 else c * 2

/-- CRC-8 over bytes with initial value 0 (R98). -/
def crc8 (l : List Byte) : Nat := l.foldl (fun c b => (List.range 8).foldl (fun x _ => crc8Bit x) (Nat.xor c b.toNat)) 0

/-- Picoseconds of `k` bytes at `c` blocks per frame. -/
def bytePs (c k : Nat) : Int := roundDiv ((k * 125000000 : Nat) : Int) (16 * c)

/-- The receiver's registers as bursts are armed with them. -/
def Dev.rxCfgNow (d : Dev) (n : Nat) : RxCfg :=
  let p : Page := .te n 1
  { margin := d.rd p TE_RX_CFG.WIN_MARGIN, tol := d.rd p TE_RX_CFG.DELIM_TOL, age := d.rd p TE_RX_CFG.RECALL_AGE,
    brstMin := d.rd p TE_RX_BRST.BRST_MIN, brstWidth := d.rd p TE_RX_BRST.BRST_WIDTH,
    quiet := d.on p PAGE_CTRL.QUIESCE_REQ, idleMin := d.rd p TE_RX_LISTEN.IDLE_MIN,
    thr := d.rd p TE_RX_LISTEN.ENERGY_THR, minNs := d.rd p TE_RX_LISTEN.ENERGY_MIN }

/-- Recall of ONU `j` on port `m` is valid for a map of count `sfc` under an age limit (R90). -/
def Dev.recallOk (d : Dev) (m j sfc age : Nat) : Bool :=
  d.onT (.teEqRecall m) j TE_EQ_RECALL.VALID &&
    decide ((sfc % 2 ^ 32 + 2 ^ 32 - d.rdT (.teEqRecall m) j TE_EQ_RECALL.LAST_SFC) % 2 ^ 32 ≤ age)

/-- The bursts of a map (R80): grants of one ONU that follow one another.  A serial-number grant is no burst of one ONU. -/
def bursts (l : List Grant) : List (List Grant) :=
  (l.filter (fun g => g.kind != 3)).foldr (fun g acc =>
    match acc with
    | (h :: t) :: r => if g.onu == h.onu && g.start + g.size == h.start then (g :: h :: t) :: r else [g] :: (h :: t) :: r
    | r => [g] :: r) []

/-! ## The frame phases of a protected tree (R203, R211, R212) -/

/-- Whether a standby has not yet acquired the path: its windows are widened and only headers that name the grantee
count (R211). -/
def Dev.acquiring (d : Dev) (m : Nat) : Bool :=
  d.isProtected m && d.pxState m == 3 && !d.onT .pxRole (d.groupPort m) PX_ROLE.ACQ

/-- Downstream UI per frame of the line mode. -/
def Dev.frameUi (d : Dev) (m : Nat) : Nat := if d.rd (.te m 0) TE_MODE.LINE_MODE = 0 then 155520 * 8 else 777600 * 8

/-- Downstream UI in 1/64 units of an amount in picoseconds. -/
def Dev.trimUi (d : Dev) (m : Nat) (ps : Int) : Int := roundDiv (ps * (d.frameUi m * 64 : Nat)) 125000000

/-- The frame phase of a tree in picoseconds: PHASE_NS and the transmit delay trim. -/
def Dev.phasePs (d : Dev) (n : Nat) : Int :=
  (d.rd (.te n 0) TE_FRAME_PHASE.PHASE_NS : Int) * 1000 +
    roundDiv ((d.px n).trim * 125000000) (d.frameUi n * 64)

/-- The arrival offset of a tree in picoseconds. -/
def Dev.arrOfs (d : Dev) (n : Nat) : Int := sext 32 (d.rdT .pxRole n PX_ROLE.ARR_OFS)

/-- The frame phase that the tree has where the arrival offset is 0.  Each realignment moves a module's phase by less
PATH_DIFF and its arrival offset by twice PATH_DIFF (R212), so half the offset leads back to it. -/
def Dev.phaseBase (d : Dev) (n : Nat) : Int := (d.px n).phase0.getD (d.phasePs n + d.arrOfs n / 2)

/-- The active's frame phase on the shared timebase: both modules are configured alike (R210), and the active's arrival
offset says how far it has moved since (DEDUCED, log 83). -/
def Dev.activePhase (d : Dev) (n : Nat) : Int := d.phaseBase n - (d.px n).peerArr / 2

/-- What stands for ARR_OFS in D: the tree's own on a protected tree (R212); until the path is acquired the active's, with
the active's frame start in place of the own one (R211). -/
def Dev.arrivalShift (d : Dev) (m n : Nat) : Int :=
  if d.acquiring m then d.activePhase n - d.phasePs n + (d.px n).peerArr
  else if d.isProtected n then d.arrOfs n else 0

/-- Expected arrival D less T of a burst of ONU `j` on port `m` that starts at block `s`, in picoseconds: R81, with the
arrival offset of a protected tree (R211, R212) and, but for a probe, the member's skew (R186). -/
def Dev.arrivalPs (d : Dev) (m j s : Nat) (probe : Bool) : Int :=
  let n := d.groupPort m
  let c := d.blocks m
  let off : Int := d.arrivalShift m n
  let sk : Int := match d.groupOf m with
    | some g => if probe then 0 else uiPs c (64 * d.skew g (m - 2 * g) j)
    | none => 0
  (d.rd (.te n 2) TE_RANGE_CFG.TEQD_NS : Int) * 1000 + blockPs c s + off + sk

/-- The slot of a burst (R82), with the profile that the ONU's map gives its index and whether recall is loaded (R92). -/
def Dev.mkSlot (d : Dev) (m sfc : Nat) (cfg : RxCfg) (gs : List Grant) : Slot :=
  let g := gs.headD { wireId := 0, start := 0, size := 0, prof := 0, dbru := false, ploamu := false, seq := false,
                      alloc := none, onu := 0, tenant := 0, kind := 0 }
  let p := d.profOf (d.groupPort m) g.onu g.prof
  let f := fun x => d.rdT (.teBurstProfile m) p x
  { onu := g.onu, grants := gs, d := d.arrivalPs m g.onu g.start (g.kind == 4), prof := p,
    guard := f TE_BURST_PROFILE.GUARD, preamble := 8 * f TE_BURST_PROFILE.PREAMBLE_REP,
    fec := f TE_BURST_PROFILE.FEC_EN == 1 || d.rd (.te m 0) TE_MODE.LINE_MODE != 0, sfc := sfc,
    recalled := d.on (.te m 1) TE_RX_CTRL.RECALL_EN && d.recallOk m g.onu sfc cfg.age,
    recallCopy := d.entry (.teEqRecall m) g.onu, cfg := cfg, st := .armed,
    locked := false, lastUncorr := false, foreign := false, foreignIds := [], corrected := false, delimErr := 0,
    arrErr := 0, taken := false, ended := [] }

/-- Arm one burst of the carried map, or count it under quiesce (R82, R85, R92). -/
def Dev.armBurst (d : Dev) (m sfc : Nat) (cfg : RxCfg) (gs : List Grant) : Dev :=
  if cfg.quiet then d.cnt (.teUsCnt m) 19
  else
    let s := d.mkSlot m sfc cfg gs
    let d1 := (d.setRx m { d.rx m with next := (d.rx m).next ++ [s] }).cnt (.teUsCnt m) 0
    if d1.onT (.teBurstProfile m) s.prof TE_BURST_PROFILE.RECALL_REQ && !s.recalled then
      (d1.cnt (.teUsCnt m) 15).raise (.te m 1) 3
    else d1

/-- Arm the bursts of a map of count `sfc` on port `m` while its receiver runs. -/
def Dev.armMap (d : Dev) (m sfc : Nat) (cfg : RxCfg) (l : List Grant) : Dev :=
  if d.rxOn m then (bursts l).foldl (fun (x : Dev) gs => x.armBurst m sfc cfg gs) d else d

/-- The receiver's banks move on with the frame: what has not closed is of the current frame, the bursts closed in the
frame before can decode no longer. -/
def Dev.rxAdvance (d : Dev) (m : Nat) : Dev :=
  let r := d.rx m
  d.setRx m { r with cur := r.cur ++ r.next, next := [], old := r.done, done := [] }

/-! ## Slots by their place -/

/-- Armed slots of a port: those of the current frame, then those of the next. -/
def Dev.slots (d : Dev) (m : Nat) : List Slot := (d.rx m).cur ++ (d.rx m).next

/-- Change the armed slot at a place. -/
def Dev.setSlot (d : Dev) (m k : Nat) (s : Slot) : Dev :=
  let r := d.rx m
  if k < r.cur.length then d.setRx m { r with cur := r.cur.set k s }
  else d.setRx m { r with next := r.next.set (k - r.cur.length) s }

/-- Run `f` on the armed slot at a place when it is in one of the states. -/
def Dev.withSlot (d : Dev) (m k : Nat) (sts : List BurstState) (f : Slot → Dev → Dev) : Dev :=
  match (d.slots m)[k]? with
  | some s => if sts.contains s.st && d.live (.te m 1) then f s d else d
  | none => d

/-- What the taps start from: the slot's copy of the recall entry, or the tree's defaults (R91, R92). -/
def Slot.taps (s : Slot) : Option Nat := if s.recalled then some s.recallCopy else none

/-- The slot at a place has closed: the recall of the burst armed after it goes to the shadow tap bank (Table BRX–5). -/
def Dev.slotDone (d : Dev) (m k : Nat) (s : Slot) : Dev :=
  let r := d.rx m
  let r1 := if k < r.cur.length then { r with cur := r.cur.eraseIdx k }
    else { r with next := r.next.eraseIdx (k - r.cur.length) }
  let sh := match (r1.cur ++ r1.next).find? (fun x => x.st == .armed) with
    | some x => x.taps
    | none => r1.shadow
  d.setRx m { r1 with done := r1.done ++ [{ s with st := .closed }], shadow := sh }

/-- Change the slot at a place among the bursts whose codewords may decode. -/
def Dev.setDecoding (d : Dev) (m k : Nat) (s : Slot) : Dev :=
  let r := d.rx m
  let a := r.cur.length + r.next.length
  if k < a then d.setSlot m k s
  else if k < a + r.done.length then d.setRx m { r with done := r.done.set (k - a) s }
  else d.setRx m { r with old := r.old.set (k - a - r.done.length) s }

/-! ## The line time of a burst (Table BRX–5, R99, R100) -/

/-- Expected guard start of a burst less the margin, in picoseconds after its frame's T. -/
def Dev.guardPs (d : Dev) (m : Nat) (s : Slot) : Int :=
  s.d - bytePs (d.blocks m) (8 + s.preamble + s.guard + s.cfg.margin)

/-- Start of a burst's LOCK state. -/
def Dev.lockPs (d : Dev) (m : Nat) (s : Slot) : Int := s.d - bytePs (d.blocks m) (8 + s.preamble + s.cfg.margin)

/-- WIN_MARGIN bytes after a burst's last expected byte. -/
def Dev.endPs (d : Dev) (m : Nat) (s : Slot) : Int :=
  s.d + blockPs (d.blocks m) (s.grants.foldl (fun k g => k + g.size) 0) + bytePs (d.blocks m) s.cfg.margin

/-- How long after a burst's end the next armed burst's LOCK state begins, in half nanoseconds; `none` where none is
armed. -/
def Dev.brstRoom (d : Dev) (m : Nat) (s : Slot) : Option Nat :=
  let starts := (d.slots m).filterMap (fun x =>
    if (x.sfc, x.d) = (s.sfc, s.d) then none
    else
      let t := d.lockPs m x + ((x.sfc : Int) - s.sfc) * 125000000
      if s.d < t + bytePs (d.blocks m) (8 + x.preamble + x.cfg.margin) then some t else none)
  (starts.foldl (fun (b : Option Int) t => some (match b with | some u => min u t | none => t)) none).map
    (fun t => ((t - d.endPs m s) / 500).toNat)

/-- Put a span at its place in an ascending list. -/
def insertSpan (a : Int × Int) : List (Int × Int) → List (Int × Int)
  | [] => [a]
  | x :: t => if a.1 < x.1 then a :: x :: t else x :: insertSpan a t

/-- What ascending busy spans leave free between two instants. -/
def freeSpans (hi : Int) : Int → List (Int × Int) → List (Int × Int)
  | lo, [] => [(lo, hi)]
  | lo, x :: t => (lo, x.1) :: freeSpans hi (max lo x.2) t

/-- The registers with which the map on the line was armed (R84). -/
def Dev.rxCfgAt (d : Dev) (m : Nat) : RxCfg := (d.rx m).cfg.getD (d.rxCfgNow m)

/-- Whether a signal counts as energy (R101). -/
def Dev.isEnergy (d : Dev) (m amp dur : Nat) : Bool :=
  decide ((d.rxCfgAt m).thr < amp ∧ (d.rxCfgAt m).minNs ≤ dur)

/-- The idle spans of the upstream frame that is arriving on port `m`, in picoseconds after its T: of at least IDLE_MIN
blocks, within the frame (R100; DEDUCED, log 66). -/
def Dev.idleSpans (d : Dev) (m : Nat) : List (Int × Int) :=
  let lo : Int := (d.rd (.te (d.groupPort m) 2) TE_RANGE_CFG.TEQD_NS : Int) * 1000
  let l := ((d.rx m).cur ++ (d.rx m).done).filter (fun s => s.sfc + 1 == d.sfc m)
  let busy := l.foldl (fun (acc : List (Int × Int)) s => insertSpan (d.guardPs m s, d.endPs m s) acc) []
  (freeSpans (lo + 125000000) lo busy).filter (fun x =>
    decide (blockPs (d.blocks m) (d.rxCfgAt m).idleMin ≤ x.2 - x.1))

/-- Whether a slot is for a ranging grant (2) or a skew probe (4). -/
def Slot.kind (s : Slot) : Nat := match s.grants.head? with | some g => g.kind | none => 0

/-! ## Skew probes (R185, R189) -/

/-- A probe of ONU `j` on port `m` has ended.  When the member is PROBING and no probe is left, it goes UP if one was
accepted and DOWN with cause 6 otherwise (Table BND–2). -/
def Dev.probeEnd (d : Dev) (m j : Nat) (ok : Bool) : Dev :=
  match d.groupOf m with
  | none => d
  | some g =>
    let s := m - 2 * g
    let b := d.mem g s
    let b1 := { b with flying := b.flying.erase j, okProbes := if ok then b.okProbes + 1 else b.okProbes }
    let b2 := if d.memberState g s == 2 && b1.flying.isEmpty && b1.probes.isEmpty then
        { b1 with trans := b1.trans.orElse (fun _ => some (if b1.okProbes = 0 then (1, 6) else (0, 0))) } else b1
    let d1 := d.setMem g s b2
    if ok then d1 else d1.cnt .bdCnt (g * 16 + 9)

/-- The result of an accepted probe: the skew, nearest whole UI. -/
def Dev.probeGood (d : Dev) (m j : Nat) (err : Int) : Dev :=
  match d.groupOf m with
  | none => d
  | some g =>
    let d1 := d.wrT .bdSkew (skewIdx g (m - 2 * g) j) BD_SKEW.VALID 1
    (d1.setSkew g (m - 2 * g) j (wholeUi err) false).probeEnd m j true

/-! ## Acquisition of a standby (R211, R212) -/

/-- Bring a standby tree to a frame phase, in picoseconds (R212): the rest below a nanosecond goes to the trim; the framers
restart with the new PHASE_NS and with `sfc` for their next frame where one of the two differs. -/
def Dev.realign (d : Dev) (n : Nat) (phase : Int) (sfc : Nat) : Dev :=
  let ns := roundDiv phase 1000
  let ph := (ns % 125000).toNat
  let d1 := d.setPx n { d.px n with trim := d.trimUi n (phase - ns * 1000), phase0 := some (d.phaseBase n) }
  let same := d.rd (.te n 0) TE_FRAME_PHASE.PHASE_NS == ph && (d.sfc (d.lead n) + 1) % 2 ^ 51 == sfc
  if same then d1
  else
    ((d.mates n).foldl (fun (x : Dev) m =>
      let y := x.wrs (.te m 0) [(TE_FRAME_PHASE.PHASE_NS, ph), (TE_SFC_INIT_LO.INIT_LO, sfc),
                                (TE_SFC_INIT_HI.INIT_HI, sfc / 2 ^ 32)]
      if y.sending m then (y.framerOffNow m).framerKick m else y) d1).cnt .pxCnt (n * 16 + 10)

/-- The expected arrivals of the bursts armed on a tree are taken anew: its phase and its arrival offset have moved. -/
def Dev.rearm (d : Dev) (n : Nat) : Dev :=
  (d.mates n).foldl (fun (x : Dev) m =>
    let r := x.rx m
    let f := fun (s : Slot) =>
      { s with d := x.arrivalPs m s.onu ((s.grants.head?.map Grant.start).getD 0) (s.kind == 4) }
    x.setRx m { r with cur := r.cur.map f, next := r.next.map f }) d

/-- This module is the tree's home. -/
def Dev.isHome (d : Dev) (n : Nat) : Bool := d.onT .pxRole n PX_ROLE.HOME

/-- Acquisition is done and the resync complete (Table PRT–6): STANDBY, or WTR at home, whose wait starts. -/
def Dev.pxReady (d : Dev) (n : Nat) : Dev :=
  if d.pxState n = 3 ∧ d.onT .pxRole n PX_ROLE.ACQ ∧ (d.px n).synced then
    if d.isHome n then (d.setPx n { d.px n with wtrAt := d.now, reverting := false }).pxGo n 5 else d.pxGo n 4
  else d

/-- Whether R211 refuses a mean path difference with the arrival offset that follows from it. -/
def Dev.pathBad (d : Dev) (n : Nat) (pd : Int) : Bool :=
  let bound := (37000 + 9800 * d.rd (.te n 2) TE_RANGE_CFG.MAX_KM) * 1000 + 2 * ((d.px n).peerArr + 2 * pd).natAbs
  decide (7000000 < pd.natAbs) || decide (d.rd (.te n 2) TE_RANGE_CFG.TEQD_NS * 1000 < bound)

/-- Acquisition fails (R211): it starts again 1,024 frames later. -/
def Dev.acqFail (d : Dev) (n : Nat) : Dev :=
  ((d.setPx n { d.px n with acqN := 0, acqSum := 0, acqFrames := 0, acqWait := 1024 }).cnt .pxCnt (n * 16 + 11)).raise .px0 6

/-- Acquisition with the mean path difference `pd` (R211, R212). -/
def Dev.acqDone (d : Dev) (n : Nat) (pd : Int) : Dev :=
  let p := d.px n
  if d.pathBad n pd then (d.wrT .pxRole n PX_ROLE.PATH_DIFF (toBits 32 pd)).acqFail n
  else
    let d1 := d.setPx n { p with acqN := 0, acqSum := 0, acqFrames := 0, errSum := 0, errN := 0 }
    let d2 := d1.realign n (d.activePhase n - pd) ((p.lastSfc.getD 0 + 1) % 2 ^ 51)
    let d3 := d2.wrTs .pxRole n [(PX_ROLE.PATH_DIFF, toBits 32 pd), (PX_ROLE.ARR_OFS, toBits 32 (p.peerArr + 2 * pd)),
                                 (PX_ROLE.ACQ, 1)]
    (d3.rearm n).pxReady n

/-- An accepted burst of a standby tree: a sample for acquisition, or an arrival error of the frame (R211, R212). -/
def Dev.acqSample (d : Dev) (m : Nat) (err : Int) : Dev :=
  let n := d.groupPort m
  let p := d.px n
  let x := uiPs (d.blocks m) err
  if !d.standby m then d
  else if d.acquiring m then
    if 0 < p.acqWait then d
    else if p.acqN + 1 < 16 then d.setPx n { p with acqN := p.acqN + 1, acqSum := p.acqSum + x }
    else d.acqDone n (Int.tdiv (p.acqSum + x) 16)
  else if d.onT .pxRole n PX_ROLE.ACQ then d.setPx n { p with errSum := p.errSum + x, errN := p.errN + 1 }
  else d

/-! ## Outcomes (R91, R95, Table BRX–13) -/

/-- The host and the sequencer see a burst's end: TE_RX_LAST, and the member's frame for cause 3 of Table BND–3. -/
def Dev.rxLast (d : Dev) (m : Nat) (s : Slot) (outcome : Nat) : Dev :=
  let d1 := d.wrs (.te m 1) [(TE_RX_LAST.OUTCOME, outcome), (TE_RX_LAST.ONU, s.onu),
    (TE_RX_LAST.DELIM_ERR, s.delimErr), (TE_RX_LAST.PROFILE, s.prof)]
  match d1.groupOf m with
  | some g =>
    let b := d1.mem g (m - 2 * g)
    d1.setMem g (m - 2 * g) { b with armed := true, accepted := b.accepted || outcome ≤ 2 }
  | none => d1

/-- What a burst's converged equaliser state is (Table BRX–4). -/
structure EqState where
  ffe : Nat
  dfe : Nat
  dc : Nat
  freq : Nat
  gain : Nat
  thresh : Nat
  phase : Nat

/-- The recall entry of an accepted burst (R91). -/
def Dev.recallKeep (d : Dev) (m : Nat) (s : Slot) (e : EqState) : Dev :=
  let hits := if d.onT (.teEqRecall m) s.onu TE_EQ_RECALL.VALID then
      min (d.rdT (.teEqRecall m) s.onu TE_EQ_RECALL.HITS + 1) 65535 else 1
  d.wrTs (.teEqRecall m) s.onu
    [(TE_EQ_RECALL.LAST_SFC, s.sfc), (TE_EQ_RECALL.FFE, e.ffe), (TE_EQ_RECALL.DFE, e.dfe), (TE_EQ_RECALL.DC_OFS, e.dc),
     (TE_EQ_RECALL.FREQ_OFS, e.freq), (TE_EQ_RECALL.GAIN, e.gain), (TE_EQ_RECALL.THRESH, e.thresh),
     (TE_EQ_RECALL.CDR_PHASE, e.phase), (TE_EQ_RECALL.HITS, hits), (TE_EQ_RECALL.SOURCE, 0), (TE_EQ_RECALL.VALID, 1)]

/-- An accepted burst closes: counters, recall, loss count, then by kind the probe's result, or a drift sample and the
standby's sample. -/
def Dev.closeGood (d : Dev) (m k : Nat) (s : Slot) (e : EqState) : Dev :=
  let n := d.groupPort m
  let d1 := (((d.slotDone m k s).rxLast m s (if s.corrected then 2 else 1)).cnt (.teUsCnt m) 1).pm 3 m
  let d2 := (d1.recallKeep m s e).wrT (.teOnu n) s.onu TE_ONU.LOB_CNT 0
  if s.kind = 4 then d2.probeGood m s.onu s.arrErr
  else (d2.driftSample m s.onu s.sfc s.arrErr).acqSample m s.arrErr

/-- A granted burst of an ONU closed without acceptance: LOB_BURSTS in a row lose it (Table RNG–2), and a ranging grant
is one of RANGE_TRIES. -/
def Dev.burstLost (d : Dev) (m : Nat) (s : Slot) : Dev :=
  let n := d.groupPort m
  let j := s.onu
  let d1 := d.satT (.teOnu n) j TE_ONU.LOB_CNT
  let st := d1.onuSt n j
  let act := !d1.standby n
  let d2 := if act && decide (2 ≤ st ∧ st ≤ 4) &&
      decide (d1.rd (.te n 2) TE_DRIFT_CFG.LOB_BURSTS ≤ d1.rdT (.teOnu n) j TE_ONU.LOB_CNT) then
      d1.planNow n (Trans.plain j 6 10 4) else d1
  match (if s.kind = 2 && act then d2.rng n j else none) with
  | none => d2
  | some r =>
    let d3 := d2.setRng n j { r with fails := r.fails + 1 }
    if st = 2 ∧ d.rd (.te n 2) TE_DRIFT_CFG.RANGE_TRIES ≤ r.fails + 1 then d3.rangeFail n j else d3

/-- A burst closes without acceptance, with an outcome of Table BRX–12 (3 to 6). -/
def Dev.closeBad (d : Dev) (m k : Nat) (s : Slot) (outcome : Nat) : Dev :=
  let d1 := ((d.slotDone m k s).rxLast m s outcome).cnt (.teUsCnt m) outcome
  let d2 := d1.addT (.teOnuLine m) s.onu (if outcome = 3 then TE_ONU_LINE.LOST else TE_ONU_LINE.BURST_ERR)
  let d3 := d2.recallDrop m s.onu 1
  if s.kind = 4 then d3.probeEnd m s.onu false else d3.burstLost m s

/-- The outcome of a burst that closes from SEARCH (R95). -/
def Slot.outcome (s : Slot) : Nat :=
  if !s.locked then 3 else if s.foreign then 6 else if s.lastUncorr then 5 else 4

/-! ## Rogue evidence (R122) -/

/-- Whether a header's ONU-ID names an ONU that evidence is attributed to. -/
def Dev.attributable (d : Dev) (n id : Nat) : Bool := id < 256 && decide (2 ≤ d.onuSt n id ∧ d.onuSt n id ≤ 4)

/-- One item of rogue evidence on the tree of port `m`, with the ONU-ID of a correctable header if one was found. -/
def Dev.rogue (d : Dev) (m : Nat) (id : Option Nat) : Dev :=
  let n := d.groupPort m
  match id.filter (d.attributable n) with
  | some j => ((d.cnt (.teRngCnt n) 9).satT (.teOnu n) j TE_ONU.ROGUE_CNT).reportOnu 37 n j
  | none => (d.cnt (.teRngCnt n) 10).report 38 n

/-! ## Upstream messages (R63, R97, R98, R292) -/

/-- Check the integrity code of an upstream PLOAM message of an ONU: one that does not fit is counted and flagged. -/
def Dev.usPloamOk (d : Dev) (n onu : Nat) (bytes : List Byte) (mic : Nat) : Bool × Dev :=
  let c := d.ploamCtx n onu
  let d1 := d.useMgmt c bytes.length
  if d1.ploamMic c bytes = mic then (true, d1) else (false, (d1.cnt .cxCnt (n * 8 + 5)).raise .cx0 3)

/-- The sequence number of a message: the byte after ONU-ID and type (R64). -/
def ploamSeqOf (bytes : List Byte) : Nat := (bytes.getD 3 0).toNat

/-- Whether an upstream message goes to the host (Table DSF–3): Serial_Number_ONU and the acknowledgement of a message of
the sequencer, matched by its sequence number, do not. -/
def Dev.usToHost (d : Dev) (n onu : Nat) (type : UsPloamType) (bytes : List Byte) : Bool :=
  match type with
  | .serialNumberOnu => false
  | .registration => true
  | .acknowledge => !(d.sq n).own.get false (onu * 256 + ploamSeqOf bytes)
  | .other => true

/-- The acknowledgement of a message is no longer awaited (R137). -/
def Dev.ackTaken (d : Dev) (n onu seq : Nat) : Dev :=
  d.setSq n { d.sq n with awaits := (d.sq n).awaits.filter (· != onu * 256 + seq) }

/-- An upstream PLOAM message: checked; one for the host is delivered on T0's ring, its source tree and ONU-ID. -/
def Dev.usPloam (d : Dev) (n onu : Nat) (type : UsPloamType) (bytes : List Byte) (mic : Nat) : Dev :=
  let r := d.usPloamOk n onu bytes mic
  let d1 := if r.1 && type == .acknowledge then r.2.ackTaken n onu (ploamSeqOf bytes) else r.2
  if r.1 && d1.usToHost n onu type bytes && !d1.standby n then
    d1.rxPloam { cls := 3, reason := 0, source := n * 65536 + onu, ts := none, epoch := d1.epoch 0, bytes := bytes }
  else d1

/-- An upstream XGEM frame of the tree of port `n`, received on port `m`, goes to the cipher engine's input; it is dropped
while its path takes no work.  So is a packet longer than any buffer, put together from fragments, as none reaches the
pools (R238; how it ends is a DESIGN CHOICE, log 81). -/
def Dev.usToCipher (d : Dev) (m n : Nat) (x : UsXgem) : Dev :=
  if d.takes (.cl 0) && (x.keyIdx = 0 || d.enabled .cx0) && decide (x.payload.length ≤ 16384) then
    d.setCx { d.path.cx with us := d.path.cx.us.put [] n (d.path.cx.us.get [] n ++ [x]) }
  else d.cnt (.teUsCnt m) 20

/-- A recovered XGEM frame (R97): discarded on a standby; on a group a fragment for the bonding unit; otherwise to the
cipher engine. -/
def Dev.usXgem (d : Dev) (m : Nat) (s : Slot) (gr : Grant) (port keyIdx options pos : Nat) (payload : List Byte) : Dev :=
  let n := d.groupPort m
  if d.standby n then d
  else
    let d1 := d.cnt (.teUsCnt m) 13
    match d.groupOf m with
    | some g =>
      let f : BdFrag := { alloc := gr.alloc.getD 0, sfc := s.sfc, seq := options % 65536, first := hasBit options 17,
                          last := hasBit options 16, port := port, keyIdx := keyIdx, onu := s.onu, member := m - 2 * g,
                          payload := payload, at_ := d.now }
      d1.setBd g { d1.bd g with inq := (d1.bd g).inq ++ [f] }
    | none =>
      d1.usToCipher m n { onu := s.onu, port := port, keyIdx := keyIdx, sfc := s.sfc, pos := pos, seq := 0, allocId := 0,
                          payload := payload }

/-- Recovery of the allocation at a place of the burst ends (R97). -/
def Slot.endAt (s : Slot) (g : Nat) : Slot := { s with ended := g :: s.ended }

/-- A DBRu of an allocation that asks for one (R98): one whose CRC-8 fits is delivered. -/
def Dev.usReport (d : Dev) (m : Nat) (s : Slot) (gr : Grant) (q crc : Nat) : Dev :=
  let n := d.groupPort m
  if crc8 (beBytes 3 q) ≠ crc then (d.cnt (.teUsCnt m) 11).raise (.te m 1) 4
  else if d.standby n then d
  else
    let d1 := d.cnt (.teUsCnt m) 10
    match gr.alloc with
    | some a => d1.reportIn n a s.sfc q
    | none => d1

/-- What one item of a decoded codeword leads to.  An uncorrectable codeword yields nothing but the count of the reports
it held, and ends the recovery of every allocation it reaches into; so does a failed XGEM header, counted once (R97). -/
def Dev.usItem (m : Nat) (bad : Bool) (acc : Slot × Dev) (i : UsItem) : Slot × Dev :=
  let s := acc.1
  let d := acc.2
  let n := d.groupPort m
  match i with
  | .report g q crc =>
    match s.grants[g]? with
    | none => acc
    | some gr =>
      if s.ended.contains g then acc
      else if bad then (s.endAt g, if gr.dbru then d.cnt (.teUsCnt m) 12 else d)
      else (s, if gr.dbru then d.usReport m s gr q crc else d)
  | .xgem g port keyIdx options pos payload =>
    match s.grants[g]? with
    | none => acc
    | some gr =>
      if s.ended.contains g then acc
      else if bad then (s.endAt g, d)
      else (s, d.usXgem m s gr port keyIdx options pos payload)
  | .headerFail g =>
    if s.ended.contains g then acc else (s.endAt g, if bad then d else d.cnt (.teUsCnt m) 14)
  | .ploam type onu bytes mic => (s, if bad then d else d.usPloam n onu type bytes mic)
  | .omci bytes => (s, if bad || d.standby n then d else d.omciReceive (n * 256 + s.onu) bytes)

end Sys2Proof.Machine
end

