-- ==== Sys2Proof/Machine/HyOps.lean ====
section
/-! DEFINITION. The Hardy's shared operations: its log, the rules of Table HY–1, the whole-map check, the safe and the
fallback map (R157–R174). -/

namespace Sys2Proof.Machine

/-- The superframe count of the frame that the cycle of port `m` serves: frame N+1. -/
def Dev.nextSfc (d : Dev) (m : Nat) : Nat :=
  if d.sending m then d.sfc m + 1
  else d.rd (.te m 0) TE_SFC_INIT_LO.INIT_LO + 2 ^ 32 * d.rd (.te m 0) TE_SFC_INIT_HI.INIT_HI

/-! ## The violation log (R172, Table HY–5) -/

/-- What a record says of a grant; nothing for a cause of the whole map. -/
structure Viol where
  code : Nat
  wire : Nat
  onu : Nat
  start : Nat
  size : Nat
  other : Nat

/-- A record without a grant. -/
def Viol.plain (code : Nat) : Viol := { code := code, wire := 0, onu := 0, start := 0, size := 0, other := 0 }

/-- Write a record; a full log stops, or overwrites its oldest record.  The log is full, and LOG_FULL set, with its 256th
record (DEDUCED, log 76). -/
def Dev.viol (d : Dev) (m : Nat) (v : Viol) : Dev :=
  let n := d.rd .hy0 HY_STAT.LOG_COUNT
  let put (x : Dev) (i : Nat) : Dev := x.wrTs .hyViolLog i
    [(HY_VIOL_LOG.SFC, d.nextSfc m), (HY_VIOL_LOG.TREE, m), (HY_VIOL_LOG.CODE, v.code), (HY_VIOL_LOG.WIRE_ID, v.wire),
     (HY_VIOL_LOG.ONU, v.onu), (HY_VIOL_LOG.START, v.start), (HY_VIOL_LOG.SIZE, v.size), (HY_VIOL_LOG.OTHER_END, v.other)]
  if n < 256 then
    let d1 := (put d n).wr .hy0 HY_STAT.LOG_COUNT (n + 1)
    if n + 1 = 256 ∧ !d.on .hy0 HY_LOG_CTRL.WRAP then (d1.wr .hy0 HY_STAT.LOG_FULL 1).raise .hy0 3 else d1
  else if d.on .hy0 HY_LOG_CTRL.WRAP then
    let d1 := put d d.eng.violAt
    { d1 with eng := { d1.eng with violAt := (d1.eng.violAt + 1) % 256 } }
  else if d.on .hy0 HY_STAT.LOG_FULL then d
  else (d.wr .hy0 HY_STAT.LOG_FULL 1).raise .hy0 3

/-! ## The rules (R160, R161, Table HY–1) -/

/-- The Hardy's view: its shadow tables and HY_GAP_MIN as of the snapshot (R158). -/
def Dev.hyView (d : Dev) (m : Nat) : Dev := { d with regs := (d.hy m).snapR, tbls := (d.hy m).snapT }

/-- The valid HY_ALLOC entry of a tree with an Alloc-ID. -/
def Dev.hyAlloc (v : Dev) (n wire : Nat) : Option Nat :=
  ((v.listedT .hyAlloc HY_ALLOC.WIRE_ID).find? (fun e =>
    e.2 == wire && v.onT .hyAlloc e.1 HY_ALLOC.VALID && v.rdT .hyAlloc e.1 HY_ALLOC.TREE == n)).map Prod.fst

/-- The ONU that a grant's Alloc-ID names to the Hardy: the entry's, or the default Alloc-ID itself. -/
def Dev.hyOnuOf (v : Dev) (n : Nat) (g : Grant) : Option Nat :=
  if 1024 ≤ g.wireId then (v.hyAlloc n g.wireId).map (fun i => v.rdT .hyAlloc i HY_ALLOC.ONU)
  else if g.wireId < 256 then some g.wireId
  else none

/-- Whether a grant is the reserved one of a quiet window. -/
def Quiet.reserves (q : Quiet) (g : Grant) : Bool :=
  match q.grant with
  | some r => r.wireId == g.wireId && r.start == g.start && r.size == g.size
  | none => false

/-- The burst profile of a serial-number grant: the one that the reservation of its window names; `other` where no window
reserves it (R110, R160). -/
def discProf (quiet : List Quiet) (g : Grant) (other : Nat) : Nat :=
  match quiet.find? (fun q => q.reserves g) with
  | some q => q.prof
  | none => other

/-- Overhead blocks of a grant's burst on port `m` (R160): a serial-number grant has the discovery profile's. -/
def Dev.hyOver (v : Dev) (m n : Nat) (quiet : List Quiet) (g : Grant) : Nat :=
  if g.wireId = bcastOnu then
    v.rdT .hyProf (m * 16 + discProf quiet g (v.rd (.te n 2) TE_DISC_CFG.DISC_PROFILE)) HY_PROF.OH_BLOCKS
  else
    match v.hyOnuOf n g with
    | some j => v.rdT .hyProf (m * 16 + v.rdT .hyOnu (n * 256 + j) HY_ONU.PROF_MAP / 16 ^ g.prof % 16) HY_PROF.OH_BLOCKS
    | none => 0

/-- Whether a grant continues the burst of the grant before it. -/
def HyTree.follows (h : HyTree) (g : Grant) : Bool := h.burstEnd == some g.start && h.burstOnu == g.onu && g.kind != 3

/-- Rule 4: the grantee's state forbids the grant. -/
def Dev.hyStateBad (v : Dev) (n : Nat) (h : HyTree) (g : Grant) : Bool :=
  let st := fun j => v.rdT .hyOnu (n * 256 + j) HY_ONU.STATE
  if 1024 ≤ g.wireId then
    match v.hyOnuOf n g with
    | some j => st j != 3
    | none => false
  else if g.wireId = bcastOnu then !h.quiet.any (fun q => q.reserves g)
  else if g.wireId < 256 ∧ g.size = 4 then
    !(st g.wireId == 3 || (st g.wireId == 2 && h.quiet.any (fun q => q.reserves g)))
  else false

/-- Rule 5: the Alloc-ID is no entry of the tree, or its ONU is not the burst's. -/
def Dev.hyOwnerBad (v : Dev) (n : Nat) (g : Grant) : Bool :=
  if 1024 ≤ g.wireId then v.hyOnuOf n g != some g.onu else false

/-- Tenant and payload of a grant for rule 7; `none` for one that belongs to no tenant. -/
def Dev.hyCharge (v : Dev) (n : Nat) (first : Bool) (g : Grant) : Option (Nat × Nat) :=
  if 1024 ≤ g.wireId then
    (v.hyAlloc n g.wireId).map (fun i => (v.rdT .hyAlloc i HY_ALLOC.TENANT, grantPay first g))
  else none

/-- The first rule of Table HY–1 that a grant fails, 0 when it passes, or 8 for the rest of a cut burst.  `c` is the
blocks per frame; rule 7 is left out of the pre-check (R165). -/
def Dev.hyRule (v : Dev) (m n c : Nat) (pre : Bool) (h : HyTree) (g : Grant) : Nat :=
  let first := !h.follows g
  let oh := if first then v.hyOver m n h.quiet g else 0
  let gap := v.rd .hy0 HY_GAP_MIN.GAP
  let touch := fun (q : Quiet) => spansMeet ((g.start : Int) - oh) ((g.start + g.size : Nat) : Int) q.first q.last
  if !first && h.burstCut then 8
  else if g.start < oh ∨ c < g.start + g.size then 1
  else if first && decide (g.start - oh < h.e) then 2
  else if first && decide (0 < h.kept.length) && decide (g.start - oh < h.e + gap) then 3
  else if v.hyStateBad n h g then 4
  else if v.hyOwnerBad n g then 5
  else if h.quiet.any (fun q => touch q && !q.reserves g) then 6
  else if pre then 0
  else
    match v.hyCharge n first g with
    | none => 0
    | some (t, p) =>
      let ceil := v.rdT .hyCeil (t * 48 + n) HY_CEIL.CEIL_BLK
      if ceil ≠ 0xffff ∧ ceil < h.sums.get 0 t + p then 7 else 0

/-- What the check keeps in hand after a grant got `code`. -/
def Dev.hyTake (v : Dev) (m n : Nat) (h : HyTree) (g : Grant) (code : Nat) : HyTree :=
  let first := !h.follows g
  let oh := if first then v.hyOver m n h.quiet g else 0
  let h1 := { h with burstEnd := some (g.start + g.size), burstOnu := g.onu }
  if code ≠ 0 then { h1 with burstCut := true, removed := h.removed + 1 }
  else
    let sums := match v.hyCharge n first g with
      | some (t, p) => h.sums.put 0 t (h.sums.get 0 t + p)
      | none => h.sums
    { h1 with burstCut := false, e := g.start + g.size, kept := h.kept ++ [g], sums := sums,
              foot := h.foot + oh + g.size +
                (if first && decide (0 < h.kept.length) then v.rd .hy0 HY_GAP_MIN.GAP else 0) }

/-- The check of a map by itself, from nothing kept: what of it passes (R163, R165). -/
def Dev.hyFilter (v : Dev) (m n c : Nat) (pre : Bool) (h : HyTree) (l : List Grant) : HyTree :=
  l.foldl (fun a g => v.hyTake m n a g (v.hyRule m n c pre a g))
    { h with e := 0, kept := [], foot := 0, burstEnd := none, burstCut := false, removed := 0 }

/-- Grants under check, one by one, with what a removal leaves behind: its record, its counts, its interrupt and its
event (R160, R172, R174). -/
def Dev.hyGrant (d : Dev) (m : Nat) (g : Grant) : Dev :=
  let n := d.groupPort m
  let h : HyTree := { d.hy m with sums := (d.hy n).sums }
  let v := d.hyView m
  let code := v.hyRule m n (d.blocks m) false h g
  let h1 := v.hyTake m n h g code
  let d1 := d.setHy m { h1 with sums := (d.hy m).sums }
  let d2 := (d1.setHy n { d1.hy n with sums := h1.sums }).cnt .hyCnt (m * 16 + 6)
  if code = 0 then d2
  else
    let rec_ : Viol := { code := code, wire := g.wireId, onu := g.onu, start := g.start, size := g.size,
                         other := if code = 2 ∨ code = 3 then h.e else 0 }
    ((((d2.viol m rec_).cnt .hyCnt (m * 16 + 7)).cnt .hyCnt (m * 16 + 7 + code)).raise .hy0 0).report 33 m code

/-! ## The whole map (R162) -/

/-- The key that stands for the checker's own state among the damaged places of a tree (R170): no key of a table. -/
def hyOwnKey : Nat := 2 ^ 60

/-- A structural cause: logged, the first one kept; the map as a whole is one event, reported as it is judged
(`Dev.hyChoose`; R167). -/
def Dev.hyBad (d : Dev) (m code : Nat) : Dev :=
  let h := d.hy m
  (d.setHy m { h with bad := if h.bad = 0 then code else h.bad }).viol m (Viol.plain code)

/-- After the last grant: the kept footprints with their gaps must fit (code 20). -/
def Dev.hyWhole (d : Dev) (m : Nat) : Dev :=
  if d.blocks m < (d.hy m).foot then d.hyBad m 20 else d

/-! ## Safe map (R168) -/

/-- Grants that begin where the one before ends belong to its burst, and so to its ONU (R80, R160). -/
def sameBurst : Option Grant → List Grant → List Grant
  | _, [] => []
  | none, g :: t => g :: sameBurst (some g) t
  | some p, g :: t =>
    let x := if p.start + p.size = g.start then { g with onu := p.onu } else g
    x :: sameBurst (some x) t

/-- The entries of a tree's HY_SAFE_MAP in ascending start, as grants. -/
def Dev.safeEntries (d : Dev) (m : Nat) : List Grant :=
  let n := d.groupPort m
  sameBurst none <| sortGrants (((List.range 64).map (fun i => m * 64 + i)).filterMap (fun i =>
    let r := fun f => d.rdT .hySafeMap i f
    if r HY_SAFE_MAP.SIZE = 0 then none
    else
      let g : Grant :=
        { wireId := r HY_SAFE_MAP.WIRE_ID, start := r HY_SAFE_MAP.START, size := r HY_SAFE_MAP.SIZE,
          prof := r HY_SAFE_MAP.PROF_IDX, dbru := r HY_SAFE_MAP.DBRU == 1, ploamu := r HY_SAFE_MAP.PLOAMU == 1,
          seq := false, alloc := none, onu := 0, tenant := 0, kind := 0 }
      some { g with onu := (d.hyOnuOf n g).getD (g.wireId % 1024), alloc := d.hyAlloc n g.wireId,
                    tenant := match d.hyAlloc n g.wireId with
                      | some k => d.rdT .hyAlloc k HY_ALLOC.TENANT
                      | none => 0 }))

/-- Bit `n` of HY_SAFE_LOCK. -/
def Dev.safeLocked (d : Dev) (m : Nat) : Bool :=
  d.on .hy0 (HY_SAFE_LOCK.BIT m)

/-- The Hardy's snapshot for port `m` (R158, R168): its tables, HY_GAP_MIN, the quiet windows, and the safe map while it
is not locked; the check begins anew. -/
def Dev.hySnap (d : Dev) (m : Nat) (quiet : List Quiet) : Dev :=
  let h := d.hy m
  d.setHy m
    { h with snapR := d.regs.keep (fun k => match keyPage k with | some .hy0 => true | some (.te _ 2) => true | _ => false),
             snapT := d.tbls.keep (fun k => match Tbl.ofNum (k / 536870912) with
               | some .hyAlloc => true | some .hyOnu => true | some .hyProf => true | some .hyCeil => true
               | some .bdGroup => true | _ => false),
             snapped := true, quiet := quiet, stream := [], arrived := 0, lastStart := 0, done := false, e := 0,
             kept := [], sums := [], foot := 0, burstEnd := none, burstOnu := 0, burstCut := false, removed := 0,
             bad := 0, fallback := [], safeMap := if d.safeLocked m then h.safeMap else d.safeEntries m }

/-! ## The run-ahead trace (R152) -/

/-- Write a trace record of tree `m` for the frame of count `sfc`. -/
def Dev.trace (d : Dev) (m sfc kind : Nat) (g : Grant) (size old : Nat) : Dev :=
  if !(d.bw m).tracing || !d.on .bw0 BW_RUNAHEAD.TRACE_EN || d.on .bw0 BW_STAT.TRACE_FULL then d
  else
    let n := d.rd .bw0 BW_STAT.TRACE_COUNT
    let i := if n < 4096 then n else d.eng.traceAt
    let at_ := (d.bw (d.groupPort m)).openAt + 126500 - d.now
    let d1 := d.wrTs .bwTrace i
      [(BW_TRACE.SFC, sfc), (BW_TRACE.KIND, kind), (BW_TRACE.ALLOC, g.alloc.getD 0), (BW_TRACE.ONU, g.onu),
       (BW_TRACE.SEQ, g.seq.toNat), (BW_TRACE.START, g.start), (BW_TRACE.SIZE, size), (BW_TRACE.SIZE_OLD, old),
       (BW_TRACE.TIME_NS, if (d.bw (d.groupPort m)).running then min at_ 65535 else 0)]
    if n < 4096 then
      let d2 := d1.wr .bw0 BW_STAT.TRACE_COUNT (n + 1)
      if n + 1 = 4096 ∧ !d.on .bw0 BW_RUNAHEAD.TRACE_WRAP then (d2.wr .bw0 BW_STAT.TRACE_FULL 1).raise .bw0 0 else d2
    else { d1 with eng := { d1.eng with traceAt := (d1.eng.traceAt + 1) % 4096 } }

end Sys2Proof.Machine
end

