-- ==== Sys2Proof/Machine/Bandwidth.lean ====
section
/-! DEFINITION. The bandwidth engine's cycle up to the handover: its opening, the bellows start, the speculative map, the
confirmation cut, the grants' way through the Hardy, and the commands of its registers (R16–R22, R131–R174, R183). -/

namespace Sys2Proof.Machine

/-! ## The cycle -/

/-- The engine runs cycles for the tree of group port `n`: not on a standby (R151), nor while BW is held in reset or
disabled, nor while the tree has no frames ahead. -/
def Dev.cycleOn (d : Dev) (n : Nat) : Bool :=
  n == d.groupPort n && d.enabled .bw0 && !d.standby n && d.rd (.te (d.lead n) 0) TE_TX_STAT.FSTATE != 0

/-- Reports that conventional mode may use from now on (R22, R149). -/
def BwTree.unstash (b : BwTree) : BwTree :=
  b.stash.foldl (fun (x : BwTree) r =>
    { x with convQ := x.convQ.put 0 r.alloc r.q, convM := x.convM.put 0 r.alloc (r.m + 1) }) { b with stash := [] }

/-- A cycle opens (Table ARC–5); its times count from here also where the engine serves the tree only from its bellows
start on (R155).  While the framer aligns there is no map before this one: nothing is left of the windows
and maps of the frames sent before (R110, R163). -/
def Dev.cycleOpen (n : Nat) (d : Dev) : Dev :=
  if !d.cycleOn n then d.setBw n { d.bw n with openAt := d.now }
  else
    let b := (d.bw n).unstash
    let d1 := d.setBw n { b with openAt := d.now, running := false, cut := false, reported := b.reported ++ b.late,
                                 late := [] }
    if d.sending (d.lead n) then d1
    else
      let d2 := (d.mates n).foldl (fun (x : Dev) m => x.setHy m { x.hy m with prev := none }) d1
      d2.setSq n { d2.sq n with quiet := [] }

/-- CYCLE_OPEN. -/
def execCycleOpen (n : Nat) (s : State) : Host.Outcome State Fault Refusal := s.run (.cycleOpen n) (Dev.cycleOpen n)

/-! ## Sequencer grants (R110, R118, R137, R185) -/

/-- Overhead blocks of a pinned grant on port `m`: a serial-number grant's are those of the profile that its window names
(R110, R160). -/
def Dev.pinOver (v : Dev) (m n : Nat) (quiet : List Quiet) (g : Grant) : Nat :=
  if g.kind = 3 then v.rdT (.teBurstProfile m) (discProf quiet g (v.rd (.te n 2) TE_DISC_CFG.DISC_PROFILE))
    TE_BURST_PROFILE.OH_BLOCKS
  else v.overhead m n g.onu g.prof

/-- What a new sequencer grant on port `m` must keep clear of: quiet windows and the footprints of their grants. -/
def Dev.seqObstacles (d v : Dev) (m n : Nat) : List (Int × Int) :=
  let c : Int := d.blocks m
  ((d.sq n).quiet.filter (fun z => z.port == m)).flatMap (fun z =>
    (z.first, z.last) :: (match z.grant with
      | some g => [(z.frame * c + g.start - v.pinOver m n [z] g, z.frame * c + (g.start + g.size : Nat))]
      | none => []))

/-- The earliest start from `x` at which neither the window (`lo` to `hi` from the start) nor the footprint of a 4-block
grant meets an obstacle. -/
def seqFit (lo hi oh gap : Int) : Nat → List (Int × Int) → Int → Int
  | 0, _, x => x
  | k + 1, obs, x =>
    match obs.find? (fun o => spansMeet (x + lo) (x + hi) o.1 o.2 || spansMeet (x - oh - gap) (x + 4 + gap) o.1 o.2) with
    | none => x
    | some o => seqFit lo hi oh gap k obs (max (o.2 - lo) (o.2 + oh + gap))

/-- A 4-block sequencer grant on the default Alloc-ID of ONU `j`, with PLOAMu, on PROF_LONG_IDX. -/
def Dev.seqGrant (v : Dev) (n j start kind : Nat) : Grant :=
  { wireId := j, start := start, size := 4, prof := v.rd (.bwt n) BW_TREE_CFG.PROF_LONG_IDX, dbru := false,
    ploamu := true, seq := true, alloc := none, onu := j, tenant := 0, kind := kind }

/-- Reserve a quiet window on port `m` for a grant at start `s` of the frame `k` maps on. -/
def Dev.reserve (d : Dev) (m n k : Nat) (s lo hi : Int) (g : Grant) : Dev :=
  let base : Int := ((k * d.blocks m : Nat) : Int)
  let q := d.sq n
  d.setSq n { q with quiet := q.quiet ++
    [{ port := m, first := base + s + lo, last := base + s + hi, frame := k, grant := some g, prof := 0 }] }

/-- The ranging grant of a frame for ONU `j` (R118): at the earliest start whose window begins at or after block 0; where
the ONU arrives more than a frame early, at the frame's end, in the first frame whose window lies in time that no map has
described yet (DEDUCED). -/
def Dev.planRanging (d v : Dev) (n j : Nat) (r : Ranging) : Dev :=
  let m := d.lead n
  let c := d.blocks m
  let off : Int := r.used + sext 32 (d.rdT (.teOnu n) j TE_ONU.RTD) - d.teqdUi n
  let us2 : Int := nsToUi c 2000
  let lo := (off - us2) / 128
  let hi := -(-(off + 512 + us2) / 128)
  let oh : Int := v.overhead m n j (v.rd (.bwt n) BW_TREE_CFG.PROF_LONG_IDX)
  let gap : Int := v.rd .hy0 HY_GAP_MIN.GAP
  let obs := d.seqObstacles v m n
  let s0 := max (max 0 (-lo)) oh
  if s0 + 4 ≤ c then
    let s := seqFit lo hi oh gap (2 * obs.length + 1) obs s0
    if s + 4 ≤ c then d.reserve m n 0 s lo hi (v.seqGrant n j s.toNat 2) else d
  else
    let k := (-((lo + (c - 4)) / c)).toNat
    let s : Int := c - 4
    let x : Int := (k * c : Nat) + s
    if (d.sq n).quiet.any (fun z => z.port == m && z.frame == k && (match z.grant with
          | some g => g.kind == 2 && g.onu == j | none => false)) ||
        seqFit lo hi oh gap 1 obs x ≠ x then d
    else d.reserve m n k s lo hi (v.seqGrant n j s.toNat 2)

/-- The probes of a frame on member port `m` (R185), up to PROBES of those still to issue. -/
def Dev.planProbes (d v : Dev) (n m g : Nat) : Dev :=
  let c := d.blocks m
  let w : Int := nsToBlocks c (1000 * v.rdT .bdGroup g BD_GROUP.SKEW_MAX_US + 2000)
  let mem := d.mem g (m - n)
  let live := mem.probes.filter (fun j => v.onuSt n j == 3)
  let d0 := d.setMem g (m - n) { mem with probes := live }
  (live.take (v.rdT .bdGroup g BD_GROUP.PROBES)).foldl (fun (x : Dev) j =>
    let oh : Int := v.overhead m n j (v.rd (.bwt n) BW_TREE_CFG.PROF_LONG_IDX)
    let obs := x.seqObstacles v m n
    let s := seqFit (-w) (4 + w) oh (v.rd .hy0 HY_GAP_MIN.GAP) (2 * obs.length + 1) obs (max w oh)
    if s + 4 ≤ c then
      let y := x.reserve m n 0 s (-w) (4 + w) (v.seqGrant n j s.toNat 4)
      let b := y.mem g (m - n)
      y.setMem g (m - n) { b with probes := b.probes.erase j, flying := b.flying ++ [j] }
    else x) d0

/-- The sequencer's grants of a frame: ranging ONUs in ascending index, then the probes of each member.  An ONU gets no
ranging grant while the acknowledgement of its Ranging_Time is awaited: R118 sets grants for the measurement and for the
confirmation that follows the acknowledgement (DEDUCED, log 75).  A group with no member in service gets none (R190). -/
def Dev.planSeq (d v : Dev) (n : Nat) : Dev :=
  if !d.seqActs n || !d.inService (d.lead n) then d
  else
    let tries := d.rd (.te n 2) TE_DRIFT_CFG.RANGE_TRIES
    let d1 := (d.onusIn n 2).foldl (fun (x : Dev) j =>
      match x.rng n j with
      | some r => if !r.wait && decide (r.fails < tries) then x.planRanging v n j r else x
      | none => x) d
    match d.groupOf n with
    | none => d1
    | some g => ((d.members g).filter d.inService).foldl (fun (x : Dev) m => x.planProbes v n m g) d1

/-- The windows of port `m` for this frame; each keeps its grant only where this map carries it. -/
def Dev.frameQuiet (d : Dev) (m n : Nat) : List Quiet :=
  ((d.sq n).quiet.filter (fun z => z.port == m)).map (fun z => if z.frame = 0 then z else { z with grant := none })

/-- Windows seen from the next frame: one frame on, gone once they have passed. -/
def Dev.shiftQuiet (d : Dev) (n : Nat) : Dev :=
  let c : Int := d.blocks n
  let q := d.sq n
  d.setSq n { q with quiet := (q.quiet.map (fun z =>
    { z with first := z.first - c, last := z.last - c, frame := z.frame - 1,
             grant := if z.frame = 0 then none else z.grant })).filter (fun z => decide (0 < z.last)) }

/-! ## The bellows start (R18, R131–R146, R158) -/

/-- The configuration that a cycle uses. -/
def Dev.bwSnap (d : Dev) : Store Nat × Store Nat :=
  (d.regs.keep (fun k => match keyPage k with
    | some .bw0 => true | some (.bwt _) => true | some .hy0 => true | some (.te _ _) => true | _ => false),
   d.tbls.keep (fun k => match Tbl.ofNum (k / 536870912) with
    | some .bwAlloc => true | some .bwCeil => true | some .bdGroup => true | some .bdSkew => true
    | some (.teOnu _) => true | some (.teBurstProfile _) => true | _ => false))

/-- ONUs whose recall is valid for the map, by port (R138). -/
def Dev.recalls (d : Dev) (n : Nat) : List Nat :=
  (d.mates n).flatMap (fun m =>
    ((d.onusIn n 3).filter (fun j => d.recallOk m j (d.nextSfc m) (d.rd (.te m 1) TE_RX_CFG.RECALL_AGE))).map
      (fun j => m * 256 + j))

/-- OPERATING ONUs due for PLOAMu: by the period, or as the sequencer or the framer awaits an acknowledgement (R137). -/
def Dev.ploamDues (d v : Dev) (n : Nat) : List Nat :=
  (d.onusIn n 3).filter (fun j =>
    decide (v.rd .bw0 BW_CYCLE_CFG.PLOAMU_PERIOD ≤ (d.bw n).ploamu.get 0 j) ||
      (match d.rng n j with | some r => r.wait | none => false) ||
      (d.sq n).awaits.any (fun k => k / 256 == j))

/-- The blocks that data bursts of port `m` keep clear of: quiet windows and pinned footprints. -/
def Dev.obstacles (d v : Dev) (m n : Nat) : List (Int × Int) :=
  (d.bw m).quiet.map (fun z => (z.first, z.last)) ++
    (d.bw m).pinned.map (fun g => ((g.start : Int) - v.pinOver m n (d.bw m).quiet g, ((g.start + g.size : Nat) : Int)))

/-- One periodic grant: charged whole, on its member, at the first position from `x` at which its footprint fits. -/
def Dev.placePeriodic (v : Dev) (n : Nat) (e : Claim × Nat) (acc : Dev × Build) : Dev × Build :=
  let c := e.1
  let d := acc.1
  let m := v.partPort n c.onu e.2
  let b := d.bw n
  let idx := v.profIdx b m n c.onu
  let oh := v.overhead m n c.onu idx
  let size := c.fixed + 1 + c.dbru.toNat
  let obs := d.obstacles v m n
  let p := (firstFit (v.rd .hy0 HY_GAP_MIN.GAP) (oh + size : Nat) (obs.length + 1) obs
    ((e.2 * d.blocks m / c.per : Nat) : Int)).toNat
  let r := v.ceilCharge n c.tenant c.fixed true acc.2
  if (v.usable n c.onu).isEmpty then acc
  else if r.1 = 0 then (d, r.2)
  else if d.blocks m < p + oh + size then acc
  else
    let g : Grant := { wireId := c.wire, start := p + oh, size := size, prof := idx, dbru := c.dbru, ploamu := false,
                       seq := false, alloc := some c.a, onu := c.onu, tenant := c.tenant, kind := 5 }
    let t := d.bw m
    (d.setBw m { t with pinned := t.pinned ++ [g] }, r.2)

/-- The need of an allocation from reports before this cycle's cut (R142, R151). -/
def Dev.specNeed (d : Dev) (b : BwTree) (c : Claim) : Nat :=
  if b.fresh.contains c.a then (if c.ty = 2 ∨ c.ty = 3 then c.assured else 0)
  else if b.runahead then
    (d.rdT .bwAlloc c.a BW_ALLOC.LAST_Q - b.outstanding c.a (b.lastM.get 0 c.a)) +
      (d.rdT .bwAlloc c.a BW_ALLOC.LAMBDA + 255) / 256
  else b.convQ.get 0 c.a - b.outstanding c.a (b.convM.get 0 c.a)

/-- Steps 2 to 5 of Table BW–4 over claims with their needs, with what the periodic grants have charged. -/
def Dev.serveAll (d v : Dev) (n : Nat) (cl : List Claim) : Build :=
  let b := d.bw n
  let up := (v.mates n).filter (fun m => match v.groupOf n with
    | some g => v.memberState g (m - n) == 0
    | none => true)
  let inside (o : Int × Int) (m : Nat) : Nat := (min o.2 (d.blocks m) - max o.1 0).toNat
  let taken := up.foldl (fun s m => s + (d.obstacles v m n).foldl (fun t o => t + inside o m) 0) 0
  let pins := up.foldl (fun s m => s + (d.bw m).pinned.length) 0
  let blocks := up.foldl (fun s m => s + d.blocks m) 0
  let sums := (v.mates n).foldl (fun (s : Store Nat) m =>
    ((d.bw m).pinned.filter (fun g => g.alloc.isSome)).foldl (fun (s : Store Nat) g =>
      s.put 0 g.tenant (s.get 0 g.tenant + grantPay true g)) s) []
  let b0 : Build := { cl := cl, sums := sums, clips := b.pinClips, mins := 0 }
  let b1 := v.serve n true (fun c => if c.ty = 1 then c.fixed else 0) (fun c k => { c with s2 := k }) b0
  let b2 := v.serve n false (fun c => if c.ty = 2 ∨ c.ty = 3 then min c.need c.assured else 0)
    (fun c k => { c with s3 := k }) b1
  let b3 := v.weighted b (v.lead n) n blocks taken pins 4 b2
  v.weighted b (v.lead n) n blocks taken pins 5 b3

/-- A port's layout: its grants in start-time order, whether it had to be reduced, and its overhead blocks. -/
structure Layout where
  grants : List Grant
  short : Bool
  ohSum : Nat

/-- Lay out port `m`: the pinned grants and the bursts of `order` (R145, R146). -/
def Dev.layout (d v : Dev) (m n : Nat) (cl : List Claim) (order : List Nat) : Layout :=
  let b := d.bw n
  let gap := v.rd .hy0 HY_GAP_MIN.GAP
  let obs := d.obstacles v m n
  let bs := order.filterMap (v.burstOn b m n cl)
  let short := decide (d.blocks m < layoutEnd (placeAll gap obs 0 bs))
  let fit := fitBursts gap (d.blocks m) obs (burstFuel bs) bs
  let pins := (d.bw m).pinned
  { grants := sortGrants (pins ++ (placeAll gap obs 0 fit).flatMap burstGrants), short := short,
    ohSum := fit.foldl (fun s x => s + x.oh) 0 + pins.foldl (fun s g => s + v.pinOver m n (d.bw m).quiet g) 0 }

/-- The ONUs that may have a burst, ascending. -/
def burstOnus (b : BwTree) (cl : List Claim) : List Nat :=
  (claimOnus (cl.filter (fun c => c.pay != 0)) ++ b.ploamDue).foldl (fun l j => insertNat j l) []

/-- Data grants are on for the tree in this cycle (R150). -/
def Dev.dataOn (v : Dev) (n : Nat) : Bool := v.on (.bwt n) BW_TREE_CFG.EN

/-- The bellows start: snapshots, sequencer grants, periodic grants, and in run-ahead mode the speculative map. -/
def Dev.bellows (n : Nat) (d : Dev) : Dev :=
  let sn := d.bwSnap
  let b := d.bw n
  let v0 : Dev := { d with regs := sn.1, tbls := sn.2 }
  let run := d.on .bw0 BW_RUNAHEAD.EN && decide (b.takeover = 0)
  let d1 := (d.mates n).foldl (fun (x : Dev) m =>
    x.setBw m { x.bw m with spec := [], conf := [], specDone := false, pinned := [], pinClips := 0,
                            tracing := d.on .bw0 BW_RUNAHEAD.TRACE_EN && d.rd .bw0 BW_RUNAHEAD.TRACE_TREE == m }) d
  let d2 := d1.setBw n { d1.bw n with snapR := sn.1, snapT := sn.2, running := true, cut := false, runahead := run,
                                      recalled := d.recalls n, ploamDue := if v0.dataOn n then d.ploamDues v0 n else [] }
  let d3 := d2.planSeq v0 n
  let d4 := (d.mates n).foldl (fun (x : Dev) m =>
    let z := x.frameQuiet m n
    (x.setBw m { x.bw m with quiet := z, pinned := z.filterMap Quiet.grant }).hySnap m z) d3
  let d5 := match (d4.sq n).win with
    | some w =>
      if (d4.bw (d.lead n)).pinned.any (fun g => g.kind == 3) then
        d4.setSq n { d4.sq n with win := some { w with sfc := d.nextSfc (d.lead n) } }
      else d4
    | none => d4
  let d6 := d5.shiftQuiet n
  let v := d6.bwView n
  if !v.dataOn n then d6
  else
    let cl := v.claims n
    let per := (cl.filter (fun c => c.ty == 5)).flatMap (fun c => (List.range c.per).map (fun k => (c, k)))
    let r := per.foldl (fun acc e => v.placePeriodic n e acc) (d6, { cl := [], sums := [], clips := 0, mins := 0 })
    let d7 := r.1.setBw n { r.1.bw n with pinClips := r.2.clips }
    let b7 := d7.bw n
    let need := cl.map (fun c => { c with need := d7.specNeed b7 c })
    let d8 := d7.setBw n { b7 with need := need.foldl (fun (s : Store Nat) c => s.put 0 c.a c.need) [] }
    if !run then d8
    else
      let out := (d8.serveAll v n need).cl
      (d.mates n).foldl (fun (x : Dev) m =>
        x.setBw m { x.bw m with spec := (x.layout v m n out (burstOnus (x.bw n) out)).grants }) d8

/-- The place of an error: 1 HY_ALLOC, 2 HY_ONU.PROF_MAP, 3 HY_ONU.STATE, 4 HY_PROF, 5 HY_CEIL of the tree, 6 the checker's
own state for it. -/
def shadowKey (n kind i : Nat) : Nat :=
  match kind with
  | 1 => Tbl.hyAlloc.key i HY_ALLOC.VALID
  | 2 => Tbl.hyOnu.key (n * 256 + i % 256) HY_ONU.PROF_MAP
  | 3 => Tbl.hyOnu.key (n * 256 + i % 256) HY_ONU.STATE
  | 4 => Tbl.hyProf.key (n * 16 + i % 16) HY_PROF.VALID
  | 5 => Tbl.hyCeil.key (i % 16 * 48 + n) HY_CEIL.CEIL_BLK
  | _ => hyOwnKey

/-- The address of a damaged place as DETAIL carries it (log 77). -/
def hyDetail (key : Nat) : Nat :=
  if key = hyOwnKey then 2 ^ 32 - 1 else key / 536870912 * 2 ^ 18 + key / 512 % 2 ^ 18

/-- A damaged shadow entry silences the tree whose snapshot reads it (R170, R306). -/
def Dev.hyDamage (d : Dev) (n key : Nat) : Dev :=
  let h := d.hy n
  if h.damaged.contains key then d
  else (((d.setHy n { h with damaged := h.damaged ++ [key] }).viol n (Viol.plain 26)).raise .hy0 4).report 34 n (hyDetail key)

/-- The member port whose own check an error concerns: that of the entry's group, by the place of the profile (`i / 16`). -/
def Dev.hyPort (d : Dev) (n kind i : Nat) : Nat :=
  if kind = 4 ∨ kind = 6 then (d.mates n).getD (i / 16 % (d.mates n).length) n else n

/-- The Hardy's read of its shadow entries at a snapshot: an uncorrectable entry found now (`kind` not 0), which is a memory
error too (R306), and HY_ALLOC entries found before, which every tree's snapshot reads. -/
def Dev.hyRead (d : Dev) (n kind i : Nat) : Dev :=
  let m := d.hyPort n kind i
  let d1 :=
    if kind = 1 then { d with eng := { d.eng with damagedAlloc := insertNat (shadowKey n 1 i) d.eng.damagedAlloc } }
    else if kind = 0 then d
    else d.hyDamage m (shadowKey m kind i)
  let d2 := if kind = 0 then d1 else d1.report 15 0 (hyDetail (shadowKey m kind i))
  d2.eng.damagedAlloc.foldl (fun (x : Dev) k => x.hyDamage n k) d2

/-- BELLOWS_START: `kind` and `a` name a shadow entry whose read is uncorrectable. -/
def execBellowsStart (n kind a : Nat) (s : State) : Host.Outcome State Fault Refusal :=
  s.run (.bellowsStart n kind a) (fun d => if d.cycleOn n then (Dev.bellows n d).hyRead n kind a else d)

/-! ## The speculative map (R83, R147, R165) -/

/-- The pre-check and the pre-arm of port `m`. -/
def Dev.preArm (d : Dev) (m n : Nat) : Dev :=
  let l := (d.bw m).spec
  let sfc := d.nextSfc m
  let d1 := l.foldl (fun (x : Dev) g => x.trace m sfc 1 g g.size 0) d
  if !d.live .hy0 || !(d.hy m).snapped then d1
  else
    let kept := ((d.hyView m).hyFilter m n (d.blocks m) true { d.hy m with sums := [] } l).kept
    let d2 := (l.filter (fun g => !kept.contains g)).foldl (fun (x : Dev) g => x.trace m sfc 7 g g.size 0) d1
    if d.on (.te m 1) TE_RX_CTRL.PREARM_EN && d.rxOn m then
      let bs := bursts kept
      let d3 := d2.setRx m { d2.rx m with pre := bs.map (fun gs => d2.mkSlot m sfc (d2.rxCfgNow m) gs) }
      bs.foldl (fun (x : Dev) gs =>
        match gs with
        | g :: _ => x.trace m sfc 4 g (gs.foldl (fun s h => s + h.size) 0) 0
        | [] => x) d3
    else d2

/-- The speculative map is complete: used only by T − 40.0 µs. -/
def Dev.specComplete (n : Nat) (d : Dev) : Dev :=
  let b := d.bw n
  if d.cycleOn n && b.running && b.runahead && !b.cut && !b.specDone && decide (d.now ≤ b.openAt + 86500) then
    (d.mates n).foldl (fun (x : Dev) m => x.preArm m n) (d.setBw n { b with specDone := true })
  else d

/-- SPECULATIVE_MAP_COMPLETE. -/
def execSpeculativeMapComplete (n : Nat) (s : State) : Host.Outcome State Fault Refusal :=
  s.run (.speculativeMapComplete n) (Dev.specComplete n)

/-! ## The cut (R17, R139–R142, R146) -/

/-- The report of each allocation that counts: the latest decoded. -/
def latestReports (l : List BwReport) : List BwReport :=
  l.foldl (fun acc r => acc.filter (fun x => x.alloc != r.alloc) ++ [r]) []

/-- The trend of an allocation after a report (R141), rounded down to 16.8 fixed point. -/
def Dev.lambdaNext (d v : Dev) (b : BwTree) (r : BwReport) : Nat :=
  let l := d.rdT .bwAlloc r.alloc BW_ALLOC.LAMBDA
  let m1 := b.recM.get 0 r.alloc
  if m1 = 0 then l
  else
    let a := r.q + b.payloadIn r.alloc m1 r.m - b.recQ.get 0 r.alloc
    let f := max 1 (r.m + 1 - m1)
    let dl : Int := ((a * 256 / f : Nat) : Int) - l
    min ((l : Int) + dl / ((2 ^ v.rd .bw0 BW_CYCLE_CFG.TREND_SHIFT : Nat) : Int)).toNat 16777215

/-- Reconcile the reports of a cycle. -/
def Dev.reconcile (d v : Dev) (n : Nat) (l : List BwReport) : Dev :=
  let d1 := l.foldl (fun (x : Dev) r =>
    let b := x.bw n
    (x.wrT .bwAlloc r.alloc BW_ALLOC.LAMBDA (x.lambdaNext v b r)).setBw n
      { b with recQ := b.recQ.put 0 r.alloc r.q, recM := b.recM.put 0 r.alloc (r.m + 1), fresh := b.fresh.erase r.alloc })
    (d.cnt (.bwTreeCnt n) 4 l.length)
  let others := (d.listedT .bwAlloc BW_ALLOC.VALID).filter (fun e =>
    d.rdT .bwAlloc e.1 BW_ALLOC.TREE == n && !l.any (fun r => r.alloc == e.1))
  let d2 := others.foldl (fun (x : Dev) e => x.satT .bwAlloc e.1 BW_ALLOC.REPORT_AGE) d1
  d2.setBw n { d2.bw n with reported := [] }

/-- Confirmed need (R142, R151). -/
def Dev.confNeed (d : Dev) (b : BwTree) (l : List BwReport) (c : Claim) : Nat :=
  if b.fresh.contains c.a then d.specNeed b c
  else
    match (if b.runahead then l.find? (fun r => r.alloc == c.a) else none) with
    | some r => r.q - b.outstanding c.a (r.m + 1)
    | none => b.need.get 0 c.a

/-- Payload of a map by allocation, added to a sum. -/
def payloads (l : List Grant) (s : Store Nat) : Store Nat :=
  (withFirst l).foldl (fun (s : Store Nat) e =>
    match e.1.alloc with
    | some a => s.put 0 a (s.get 0 a + grantPay e.2 e.1)
    | none => s) s

/-- The speculative size of a confirmed data grant, where it had one on this port. -/
def specSize (spec : List Grant) (g : Grant) : Option Nat :=
  if g.kind = 0 then (spec.find? (fun x => x.kind == 0 && x.alloc == g.alloc)).map Grant.size else none

/-- Port `m`'s confirmed map: its counters, its way to the Hardy, the fallback map, the trace (R146, R163, R152): a confirmed
grant that a speculative one stands for has no record of KIND 2 (DEDUCED, log 30). -/
def Dev.cutPort (d v : Dev) (m n : Nat) (cl : List Claim) : Dev :=
  let b := d.bw n
  let spec := if b.specDone then (d.bw m).spec else []
  let all := burstOnus b cl
  let old := ((spec.filter (fun g => g.kind == 0 || g.kind == 1)).map Grant.onu).foldl
    (fun (l : List Nat) j => if l.contains j then l else l ++ [j]) []
  let lay := d.layout v m n cl (old.filter (fun j => all.contains j) ++ all.filter (fun j => !old.contains j))
  let l := lay.grants
  let fixes := l.filter (fun g => match specSize spec g with | some k => k != g.size | none => false)
  let total := l.foldl (fun s g => s + g.size) 0
  let sfc := d.nextSfc m
  let d1 := d.setBw m { d.bw m with conf := l }
  let d2 := ((((d1.cnt (.bwTreeCnt m) 1 l.length).cnt (.bwTreeCnt m) 2 total).cnt (.bwTreeCnt m) 3 lay.ohSum).cnt
    (.bwTreeCnt m) 5 fixes.length).cnt (.bwTreeCnt m) 11 (l.filter Grant.seq).length
  let d3 := (if lay.short then (d2.cnt (.bwTreeCnt m) 8).raise (.bwt m) 0 else d2).wrs (.bwt m)
    [(BW_TREE_STAT.SHORT, lay.short.toNat), (BW_TREE_STAT.RUNAHEAD, b.runahead.toNat)]
  let d4 := d3.pm 4 m total
  let h := d4.hy m
  let fb := ((d4.hyView m).hyFilter m n (d.blocks m) false { h with sums := [] }
    (((h.prev).getD []).filter (fun g => g.kind != 2 && g.kind != 3))).kept
  let d5 := if d.live .hy0 && h.snapped then
      d4.setHy m { h with stream := l, done := l.isEmpty, fallback := if d.inService m then fb else [] }
    else d4
  let new := l.filter (fun g => !spec.contains g && (specSize spec g).isNone)
  let d6 := new.foldl (fun (x : Dev) g => x.trace m sfc 2 g g.size 0) d5
  fixes.foldl (fun (x : Dev) g => x.trace m sfc 3 g g.size ((specSize spec g).getD 0)) d6

/-- What the confirmed maps of a tree give each allocation: GRANTED, NEED, the counters (R148, R166). -/
def Dev.showGranted (d : Dev) (n : Nat) (cl : List Claim) : Dev :=
  let pay := (d.mates n).foldl (fun (s : Store Nat) m => payloads (d.bw m).conf s) []
  let d1 := cl.foldl (fun (x : Dev) c => x.wrT .bwAlloc c.a BW_ALLOC.NEED (min c.need 65535)) d
  let d2 := ((d.listedT .bwAlloc BW_ALLOC.VALID).filter (fun e => d.rdT .bwAlloc e.1 BW_ALLOC.TREE == n)).foldl
    (fun (x : Dev) e => x.wrT .bwAlloc e.1 BW_ALLOC.GRANTED (pay.get 0 e.1)) d1
  pay.foldl (fun (x : Dev) e =>
    ((x.cnt .bwAllocCnt e.1 e.2).pm 6 e.1 e.2).pm 5
      ((x.bwView n).rdT .bwAlloc e.1 BW_ALLOC.TENANT * 48 + n) e.2) d2

/-- The confirmation cut. -/
def Dev.confirm (n : Nat) (d : Dev) : Dev :=
  let b := d.bw n
  if !d.cycleOn n || !b.running || b.cut then d
  else
    let v := d.bwView n
    let l := latestReports b.reported
    let d1 := d.reconcile v n l
    let b1 := d1.bw n
    let cl := if v.dataOn n then (v.claims n).map (fun c => { c with need := d1.confNeed b1 l c }) else []
    let r := d1.serveAll v n cl
    let d2 := (d1.cnt (.bwTreeCnt n) 9 r.clips).cnt (.bwTreeCnt n) 10 r.mins
    let d3 := if r.clips = 0 then d2 else d2.raise (.bwt n) 1
    let d4 := (d.mates n).foldl (fun (x : Dev) m => x.cutPort v m n r.cl) d3
    let d5 := d4.setBw n { d4.bw n with cut := true }
    let d6 := d5.showGranted n r.cl
    (d.mates n).foldl (fun (x : Dev) m => if (x.hy m).done && !(x.hy m).safe then x.hyWhole m else x) d6

/-- CONFIRMATION_CUT. -/
def execConfirmationCut (n : Nat) (s : State) : Host.Outcome State Fault Refusal :=
  s.run (.confirmationCut n) (Dev.confirm n)

/-! ## The Hardy's checks (R160–R162, R164, R168, R184) -/

/-- A confirmed grant of port `m` arrives at the Hardy.  In safe-map mode the engine's map is discarded. -/
def Dev.grantArrive (m : Nat) (badParity : Bool) (d : Dev) : Dev :=
  let h := d.hy m
  match (if d.live .hy0 then h.stream else []) with
  | [] => d
  | g :: t =>
    let d1 := d.setHy m { h with stream := t, arrived := h.arrived + 1, lastStart := g.start, done := t.isEmpty }
    if h.safe then d1
    else
      let d2 := if h.arrived = 512 then d1.hyBad m 16 else d1
      let d3 := if g.start < h.lastStart then d2.hyBad m 17 else d2
      let d4 := if badParity then d3.hyBad m 19 else d3.hyGrant m g
      if t.isEmpty then d4.hyWhole m else d4

/-- GRANT_CHECK. -/
def execGrantCheck (m : Nat) (badParity : Bool) (s : State) : Host.Outcome State Fault Refusal :=
  s.run (.grantCheck m badParity) (Dev.grantArrive m badParity)

/-- T − 3.0 µs on port `m`: a stream that is not complete is late (R20, Table BW–15, Table BW–16). -/
def Dev.reconDeadline (m : Nat) (d : Dev) : Dev :=
  let h := d.hy m
  if d.cycleOn (d.groupPort m) && (d.bw (d.groupPort m)).running && h.snapped && !h.done then
    let d1 := if h.safe then d else d.hyBad m 18
    ((((d1.cnt (.bwTreeCnt m) 7).logErr .bw0 0x182).raise .bw0 1).raise (.bwt m) 2).report 32 m
  else d

/-- RECONCILIATION_DEADLINE. -/
def execReconciliationDeadline (m : Nat) (s : State) : Host.Outcome State Fault Refusal :=
  s.run (.reconciliationDeadline m) (Dev.reconDeadline m)

/-! ## Registers (R149, R152, R156, R167, R169, R174) -/

/-- A write of BW_CYCLE_CFG. -/
def Dev.wCycleCfg (v : Nat) (d : Dev) : Dev :=
  let p := BW_CYCLE_CFG.PLOAMU_PERIOD.get v
  let t := BW_CYCLE_CFG.TREND_SHIFT.get v
  if p = 0 ∨ 8 < t then d.logErr .bw0 0x181
  else d.wrs .bw0 [(BW_CYCLE_CFG.PLOAMU_PERIOD, p), (BW_CYCLE_CFG.TREND_SHIFT, t)]

/-- A write of BW_RUNAHEAD: TRACE_EN = 1 resets the count and takes effect from the tree's next bellows start; 0 stops
the recording at once. -/
def Dev.wRunahead (v : Nat) (d : Dev) : Dev :=
  if 47 < BW_RUNAHEAD.TRACE_TREE.get v then d.logErr .bw0 0x181
  else
    let en := BW_RUNAHEAD.TRACE_EN.get v
    let d1 := d.wrs .bw0
      [(BW_RUNAHEAD.TRACE_TREE, BW_RUNAHEAD.TRACE_TREE.get v), (BW_RUNAHEAD.TRACE_WRAP, BW_RUNAHEAD.TRACE_WRAP.get v),
       (BW_RUNAHEAD.TRACE_EN, en), (BW_RUNAHEAD.EN, BW_RUNAHEAD.EN.get v)]
    let d2 := (List.range 48).foldl (fun (x : Dev) m => x.setBw m { x.bw m with tracing := false }) d1
    if en = 0 then d2
    else { d2.wrs .bw0 [(BW_STAT.TRACE_COUNT, 0), (BW_STAT.TRACE_FULL, 0)] with eng := { d2.eng with traceAt := 0 } }

/-- TRACE_ENABLE: a write of BW_RUNAHEAD. -/
def execTraceEnable (b : By) (v : Nat) (s : State) : Host.Outcome State Fault Refusal :=
  s.run (.traceEnable b v) (fun d => d.hostF b .bw0 BW_RUNAHEAD.TRACE_EN v (Dev.wRunahead v))

/-- A write of HY_GAP_MIN. -/
def Dev.wGapMin (v : Nat) (d : Dev) : Dev :=
  if HY_GAP_MIN.GAP.get v = 0 then d.logErr .hy0 0x1c0 else d.wr .hy0 HY_GAP_MIN.GAP (HY_GAP_MIN.GAP.get v)

/-- A write of HY_SAFE_CMD: the entry is asked for; the exit takes effect with its log record, and the engine's map is
checked again from the next handover.  A stream of which grants were already discarded unchecked has the fallback map in
its place (DESIGN CHOICE). -/
def Dev.wSafeCmd (v : Nat) (d : Dev) : Dev :=
  let op := HY_SAFE_CMD.OP.get v
  let m := HY_SAFE_CMD.TREE.get v
  let h := d.hy m
  if 47 < m ∨ (op = 1 ∧ h.safe) ∨ (op = 2 ∧ !h.safe) ∨ (op ≠ 1 ∧ op ≠ 2) then d.logErr .hy0 0x1c1
  else
    let d1 := d.wrs .hy0 [(HY_SAFE_CMD.OP, op), (HY_SAFE_CMD.TREE, m)]
    if op = 1 then d1.setHy m { h with safeReq := true }
    else
      let d2 := (d1.setHy m { h with safe := false, safeReq := false }).viol m (Viol.plain 25)
      if h.arrived = 0 then d2 else d2.hyBad m 18

/-- SAFE_ENTER: a write of HY_SAFE_CMD with OP = 1. -/
def execSafeEnter (b : By) (v : Nat) (s : State) : Host.Outcome State Fault Refusal :=
  s.run (.safeEnter b v) (fun d => d.hostF b .hy0 HY_SAFE_CMD.OP (HY_SAFE_CMD.OP.set v 1)
    (Dev.wSafeCmd (HY_SAFE_CMD.OP.set v 1)))

/-- SAFE_EXIT: a write of HY_SAFE_CMD with OP = 2. -/
def execSafeExit (b : By) (v : Nat) (s : State) : Host.Outcome State Fault Refusal :=
  s.run (.safeExit b v) (fun d => d.hostF b .hy0 HY_SAFE_CMD.OP (HY_SAFE_CMD.OP.set v 2)
    (Dev.wSafeCmd (HY_SAFE_CMD.OP.set v 2)))

end Sys2Proof.Machine
end

