-- ==== Sys2Proof/Machine/BondOps.lean ====
section
/-! DEFINITION. Bonded trees' shared operations: forming, changing and dissolving a group, member states, the acting lead,
reordering (R175–R195). -/

namespace Sys2Proof.Machine

/-! ## BD_GROUP writes (R176–R178, R195) -/

/-- A field of a BD_GROUP entry image is out of range (Table BND–5). -/
def groupRange (e : Nat) : Bool :=
  let f := fun (x : Fld) => x.get e
  decide (f BD_GROUP.SIZE = 3 ∨ f BD_GROUP.SKEW_MAX_US = 0 ∨ 12 < f BD_GROUP.SKEW_MAX_US ∨ f BD_GROUP.LOSS_BURSTS = 0 ∨
    f BD_GROUP.PROBES = 0 ∨ 8 < f BD_GROUP.PROBES ∨ f BD_GROUP.FRAG_MAX < 64 ∨ 4092 < f BD_GROUP.FRAG_MAX ∨
    f BD_GROUP.FRAG_MAX % 4 ≠ 0 ∨ f BD_GROUP.SPLIT_MIN = 0 ∨ f BD_GROUP.RESTORE_MS = 0 ∨
    f BD_GROUP.OAM_PERIOD_US < 1000 ∨ f BD_GROUP.OAM_LEN_DEG < 64 ∨ 128 < f BD_GROUP.OAM_LEN_DEG ∨
    128 < f BD_GROUP.OAM_LEN_CLR ∨ (0 < f BD_GROUP.OAM_LEN_CLR ∧ f BD_GROUP.OAM_LEN_CLR < 64) ∨
    124 < f BD_GROUP.SEQ_OFS)

/-- The ports that a group of `size` (1 or 2) in slot `g` would have. -/
def groupPorts (g size : Nat) : List Nat := (List.range (2 * size)).map (fun s => 2 * g + s)

/-- Two ports have the same protection role and the same peer. -/
def Dev.sameRole (d : Dev) (a b : Nat) : Bool :=
  let r := fun (n : Nat) (f : Fld) => d.rdT .pxRole n f
  r a PX_ROLE.MODE == r b PX_ROLE.MODE &&
    (r a PX_ROLE.MODE == 0 || (r a PX_ROLE.LINK == r b PX_ROLE.LINK && r a PX_ROLE.HOME == r b PX_ROLE.HOME &&
      r a PX_ROLE.STATE == r b PX_ROLE.STATE))

/-- Whether slot `g` may form a group of `size` in line mode `mode` (R175, R176). -/
def Dev.groupOk (d : Dev) (g size mode : Nat) : Bool :=
  let l := groupPorts g size
  (size == 1 || g % 2 == 0) &&
    l.all (fun m => d.framerOff m && d.rxOff m && d.rd (.te m 0) TE_MODE.LINE_MODE == mode && (d.groupOf m).isNone &&
      d.sameRole (2 * g) m) &&
    (size == 1 || d.rdT .bdGroup (g + 1) BD_GROUP.SIZE == 0) &&
    (l.drop 1).all (fun m => (List.range 256).all (fun j => d.onuSt m j == 0)) &&
    !(d.listedT .bwAlloc BW_ALLOC.VALID).any (fun e => (l.drop 1).contains (d.rdT .bwAlloc e.1 BW_ALLOC.TREE))

/-- The code with which a BD_GROUP entry image is refused for slot `g`; 0 accepted. -/
def Dev.groupCheck (d : Dev) (g e : Nat) : Nat :=
  let old := d.rdT .bdGroup g BD_GROUP.SIZE
  let new := BD_GROUP.SIZE.get e
  let l := groupPorts g old
  if groupRange e then 0x1e1
  else if old = 0 then
    if new = 0 ∨ d.groupOk g new (BD_GROUP.LINE_MODE.get e) then 0 else 0x1e0
  else if new = 0 then (if l.all d.framerOff then 0 else 0x1e0)
  else if new ≠ old then 0x1e0
  else if BD_GROUP.LINE_MODE.get e ≠ d.rdT .bdGroup g BD_GROUP.LINE_MODE ∧
      !l.all (fun m => d.framerOff m && d.rxOff m) then 0x1e0
  else 0

/-- Copy register fields of the group port to the other members (R177). -/
def Dev.copyRegs (d : Dev) (n : Nat) (p : Nat) (l : List Fld) : Dev :=
  ((d.mates n).filter (fun m => m != n)).foldl (fun (x : Dev) m =>
    l.foldl (fun (y : Dev) f => y.wr (.te m p) f (d.rd (.te n p) f)) x) d

/-- Copy a profile of the group port to the other members, and to their shadow entries (R158, R177). -/
def Dev.copyProfile (d : Dev) (n i : Nat) : Dev :=
  ((d.mates n).filter (fun m => m != n)).foldl (fun (x : Dev) m =>
    let y := x.wrTs (.teBurstProfile m) i
      ((Tbl.teBurstProfile n).fields.map (fun f => (f, d.rdT (.teBurstProfile n) i f)))
    y.wrTs .hyProf (m * 16 + i)
      [(HY_PROF.VALID, d.rdT (.teBurstProfile n) i TE_BURST_PROFILE.VALID),
       (HY_PROF.OH_BLOCKS, d.rdT (.teBurstProfile n) i TE_BURST_PROFILE.OH_BLOCKS)]) d

/-- The registers of page 0 and of page 2 that a group port shares. -/
def sharedRegs0 : List Fld := [TE_FRAME_PHASE.PHASE_NS, TE_SFC_INIT_LO.INIT_LO, TE_SFC_INIT_HI.INIT_HI]
/-- TE_RANGE_CFG. -/
def sharedRegs2 : List Fld := [TE_RANGE_CFG.MAX_KM, TE_RANGE_CFG.DIFF_KM, TE_RANGE_CFG.TEQD_NS]

/-- Clear the skew entries of a group. -/
def Dev.clearSkew (d : Dev) (g : Nat) : Dev :=
  { d with tbls := d.tbls.keep (fun k => k / 536870912 != Tbl.bdSkew.num || k / 512 % 1048576 / 1024 != g) }

/-- Take an accepted BD_GROUP entry image: form, dissolve or re-mode the group (R177, R178). -/
def Dev.groupApply (d : Dev) (g e : Nat) : Dev :=
  let old := d.rdT .bdGroup g BD_GROUP.SIZE
  let new := BD_GROUP.SIZE.get e
  let mode := BD_GROUP.LINE_MODE.get e
  let remode := decide (old ≠ 0 ∧ new ≠ 0 ∧ mode ≠ d.rdT .bdGroup g BD_GROUP.LINE_MODE)
  let d1 := d.wrTs .bdGroup g
    ((Tbl.bdGroup.fields.filter (fun f => f.acc == .rw)).map (fun f => (f, f.get e)))
  if old = 0 ∧ new ≠ 0 then
    let d2 := (groupPorts g new).foldl (fun (x : Dev) m => x.wr (.te m 0) TE_MODE.BONDED 1) d1
    let d3 := (d2.wrTs .bdGroup g
      [(BD_GROUP.MEMBER_STATE, if new = 1 then 0xf0 else 0), (BD_GROUP.ACTING_LEAD, 0), (BD_GROUP.CAUSE, 0)]).setBd g
        BdGrp.init
    let d4 := (d3.copyRegs (2 * g) 0 sharedRegs0).copyRegs (2 * g) 2 sharedRegs2
    (List.range 16).foldl (fun (x : Dev) i => x.copyProfile (2 * g) i) d4
  else if old ≠ 0 ∧ new = 0 then
    let d2 := (groupPorts g old).foldl (fun (x : Dev) m => x.wr (.te m 0) TE_MODE.BONDED 0) d1
    ((d2.wrTs .bdGroup g
      [(BD_GROUP.MEMBER_STATE, 0), (BD_GROUP.ACTING_LEAD, 0), (BD_GROUP.CAUSE, 0)]).setBd g BdGrp.init).clearSkew g
  else if remode then (groupPorts g old).foldl (fun (x : Dev) m => x.setLineMode m mode) d1
  else d1

/-! ## Member states (R189–R193) -/

/-- Set the state of a member. -/
def Dev.setMember (d : Dev) (g s st : Nat) : Dev :=
  let v := d.rdT .bdGroup g BD_GROUP.MEMBER_STATE
  d.wrT .bdGroup g BD_GROUP.MEMBER_STATE (v - v / 4 ^ s % 4 * 4 ^ s + st * 4 ^ s)

/-- Set the recorded DOWN cause of a member. -/
def Dev.setCause (d : Dev) (g s c : Nat) : Dev :=
  let v := d.rdT .bdGroup g BD_GROUP.CAUSE
  d.wrT .bdGroup g BD_GROUP.CAUSE (v - v / 16 ^ s % 16 * 16 ^ s + c * 16 ^ s)

/-- The recorded DOWN cause of a member. -/
def Dev.memberCause (d : Dev) (g s : Nat) : Nat := d.rdT .bdGroup g BD_GROUP.CAUSE / 16 ^ s % 16

/-- The cause 5, 1 or 2 of Table BND–3 that holds for a port now; 0 none.  A lasting fault that retires the port is
shown as such, though it also withdraws key A (DEDUCED). -/
def Dev.memberLoss (d : Dev) (m : Nat) : Nat :=
  if !d.keyA6 m then 5
  else if !d.keyA1 m || !d.keyA5 m then 1
  else if !d.laneGood m then 2
  else 0

/-- Judge the frame that ends for cause 3, and note when causes 1, 2 and 5 were last there. -/
def Dev.memberJudge (d : Dev) (g : Nat) : Dev :=
  let any := (List.range (d.grpSize g)).any (fun s => (d.mem g s).accepted)
  (List.range (d.grpSize g)).foldl (fun (x : Dev) s =>
    let b := x.mem g s
    let run := if b.armed && !b.accepted && any then b.lossRun + 1 else 0
    x.setMem g s { b with lossRun := run, armed := false, accepted := false,
                          clearAt := if x.memberLoss (2 * g + s) = 0 then b.clearAt else x.now }) d

/-- A port whose framer runs, or whose domain was stopped or reset under it. -/
def Dev.framerLost (d : Dev) (m : Nat) : Bool :=
  d.sending m || d.domInReset (11 + m) || d.onT .ckDomainCtrl (11 + m) CK_DOMAIN_CTRL.STOPPED

/-- The transition that a member makes at a commit: the loss first noted of a member in service, a cause that holds still,
or what was decided. -/
def Dev.memberNext (d : Dev) (g s : Nat) : Option (Nat × Nat) :=
  let b := d.mem g s
  let st := d.memberState g s
  let loss := d.memberLoss (2 * g + s)
  let lossy := decide (d.rdT .bdGroup g BD_GROUP.LOSS_BURSTS ≤ b.lossRun)
  if st = 1 then b.trans.filter (fun t => t.1 == 2)
  else if b.trans.any (fun t => t.1 == 1) then b.trans
  else if d.framerLost (2 * g + s) ∧ loss ≠ 0 then some (1, loss)
  else if lossy then some (1, 3)
  else b.trans.filter (fun t => t.1 == 0 && st == 2)

/-- Whether a member of a group is DOWN. -/
def Dev.anyDown (d : Dev) (g : Nat) : Bool := (List.range (d.grpSize g)).any (fun s => d.memberState g s == 1)

/-- Owe the indications of a member's change (R193). -/
def Dev.owe (d : Dev) (g k : Nat) : Dev :=
  if d.onT .bdGroup g BD_GROUP.IND_EN then d.setBd g { d.bd g with ind := (d.bd g).ind ++ [k] } else d

/-- Commit a member's transition (Table BND–2). -/
def Dev.memberMove (d : Dev) (g s dest cause : Nat) : Dev :=
  let st := d.memberState g s
  let b := d.mem g s
  let d0 := d.setMem g s { b with trans := none, lossRun := 0, okProbes := 0, probes := [], flying := [] }
  let d1 := d0.setMember g s dest
  match dest with
  | 1 =>
    let d2 := ((d1.setCause g s cause).setMem g s { d1.mem g s with clearAt := d.now }).cnt .bdCnt (g * 16 + 6)
    let d3 := if st = 0 ∨ cause = 4 then (d2.raise .bd 0).report 43 (2 * g + s) cause else d2
    let d4 := if cause = 6 then (d3.raise .bd 4).report 45 (2 * g + s) else d3
    (d4.setBd g { d4.bd g with oamLeft := 0 }).owe g 0
  | 0 =>
    let d2 := ((d1.cnt .bdCnt (g * 16 + 7)).raise .bd 1).owe g 1
    if d2.anyDown g then d2
    else d2.setBd g { d2.bd g with oamLeft := if d2.onT .bdGroup g BD_GROUP.OAM_CONT then 0 else 3 }
  | _ => d1.setMem g s { d1.mem g s with probes := d1.onusIn (2 * g) 3 }

/-- The acting lead that a group's states call for: the lowest member in service, else as it was (R190). -/
def Dev.leadFor (d : Dev) (g : Nat) : Nat :=
  match (List.range (d.grpSize g)).find? (fun s => d.inService (2 * g + s)) with
  | some s => s
  | none => d.rdT .bdGroup g BD_GROUP.ACTING_LEAD

/-- The acting lead changes where the states call for it: the queue, the sequence counter and the windows still to come
move with it, and the skew entries are rebased (R187, R190). -/
def Dev.moveLead (d : Dev) (g : Nat) : Dev :=
  let old := d.rdT .bdGroup g BD_GROUP.ACTING_LEAD
  let new := d.leadFor g
  if old = new then d
  else
    let a := 2 * g + old
    let b := 2 * g + new
    let fa := d.fr a
    let fb := d.fr b
    let d1 := (d.setFr a { fa with seqQ := [], hostQ := [], ann := [] }).setFr b
      { fb with seqQ := fb.seqQ ++ fa.seqQ, hostQ := fb.hostQ ++ fa.hostQ, bcastSeq := fa.bcastSeq, ann := fb.ann ++ fa.ann }
    let q := d1.sq (2 * g)
    let d2 := d1.setSq (2 * g) { q with drift := [], quiet := q.quiet.map (fun z =>
      match z.grant with
      | some r => if z.port = a ∧ r.kind ≠ 4 then { z with port := b } else z
      | none => z) }
    (d2.rebase g new).wrT .bdGroup g BD_GROUP.ACTING_LEAD new

/-- The ONU indications owed for members that changed join the queue of every member in service (R193). -/
def Dev.indications (d : Dev) (g : Nat) : Dev :=
  let l := (d.bd g).ind
  let d1 := d.setBd g { d.bd g with ind := [] }
  l.foldl (fun (x : Dev) k =>
    ((x.members g).filter x.inService).foldl (fun (y : Dev) m =>
      let b := leBytes 40 (y.entry .bdOnuInd (g * 2 + k))
      let msg : Ploam := { ring := none, host := false, onu := bcastOnu, type := .other (b.getD 2 0).toNat, body := b.drop 4 }
      (y.setFr m { y.fr m with seqQ := (y.fr m).seqQ ++ [msg] }).cnt .bdCnt (g * 16 + 13)) x) d1

/-- Commit the members' transitions of a group, its pending command with them, and owe the indications of the frame
after (R189, R193). -/
def Dev.memberCommit (d : Dev) (g : Nat) : Dev :=
  let d1 := (List.range (d.grpSize g)).foldl (fun (x : Dev) s =>
    match x.memberNext g s with
    | some t => x.memberMove g s t.1 t.2
    | none => x.setMem g s { x.mem g s with trans := none }) d
  let d2 := (d1.moveLead g).indications g
  if d2.rd .bd BD_CMD.STAT = 1 ∧ d2.rd .bd BD_CMD.GROUP = g then d2.wr .bd BD_CMD.STAT 0 else d2

/-- A transition decided while no handover instant occurs is committed at once (R114). -/
def Dev.memberNow (d : Dev) (g : Nat) : Dev := if d.sending (d.lead (2 * g)) then d else d.memberCommit g

/-! ## Upstream reordering (R188) -/

/-- Reordering of an allocation. -/
def Dev.order (d : Dev) (g a : Nat) : BdOrder := (d.bd g).us.get BdOrder.init a
/-- Set it. -/
def Dev.setOrder (d : Dev) (g a : Nat) (o : BdOrder) : Dev :=
  d.setBd g { d.bd g with us := (d.bd g).us.put BdOrder.init a o }

/-- A fragment in its turn: it joins its packet, and the packet's last fragment sends it to the cipher engine. -/
def Dev.fragIn (d : Dev) (g : Nat) (f : BdFrag) : Dev :=
  let o := d.order g f.alloc
  let parts := if f.first then [f] else o.parts ++ [f]
  let broken := !f.first && (o.broken || o.parts.isEmpty)
  let o1 : BdOrder := { next := some ((f.seq + 1) % 65536), parts := if broken || f.last then [] else parts,
                        broken := broken && !f.last }
  let d1 := d.setOrder g f.alloc o1
  if broken || !f.last then d1
  else
    let h := parts.headD f
    d1.usToCipher (2 * g + h.member) (2 * g)
      { onu := h.onu, port := h.port, keyIdx := h.keyIdx, sfc := h.sfc, pos := 0, seq := h.seq,
        allocId := d.rdT .bwAlloc h.alloc BW_ALLOC.WIRE_ID, payload := parts.flatMap BdFrag.payload }

/-- Deliver the held fragments of an allocation that are now in turn. -/
def Dev.fragDrain : Nat → Dev → Nat → Nat → Dev
  | 0, d, _, _ => d
  | k + 1, d, g, a =>
    match (d.bd g).held.find? (fun f => f.alloc == a && (d.order g a).next == some f.seq) with
    | none => d
    | some f => Dev.fragDrain k ((d.setBd g { d.bd g with held := (d.bd g).held.erase f }).fragIn g f) g a

/-- A fragment arrives at the reorder store: delivered in its turn, held ahead of it, or old. -/
def Dev.fragReceive (d : Dev) (g : Nat) (f : BdFrag) : Dev :=
  let d0 := d.cnt .bdCnt (g * 16 + 2)
  let o := d0.order g f.alloc
  let ahead := (f.seq + 65536 - o.next.getD f.seq) % 65536
  if ahead = 0 then Dev.fragDrain ((d0.bd g).held.length + 1) (d0.fragIn g f) g f.alloc
  else if ahead ≤ 32768 then (d0.setBd g { d0.bd g with held := (d0.bd g).held ++ [f] }).cnt .bdCnt (g * 16 + 3)
  else d0

/-- The wait of an allocation's fragments ends: the numbers before the nearest held one are lost, the packet they cut is
discarded, and delivery goes on from there. -/
def Dev.fragLost (d : Dev) (g a : Nat) : Dev :=
  let o := d.order g a
  let next := o.next.getD 0
  let dist := fun (f : BdFrag) => (f.seq + 65536 - next) % 65536
  match ((d.bd g).held.filter (fun f => f.alloc == a)).foldl (fun (best : Option BdFrag) f =>
      match best with
      | some b => if dist f < dist b then some f else some b
      | none => some f) none with
  | none => d
  | some f =>
    let gone := if o.parts.isEmpty then (if f.first || o.broken then 0 else 1) else 1
    let d1 := d.setOrder g a { next := some f.seq, parts := [], broken := !f.first }
    let d2 := ((d1.cnt .bdCnt (g * 16 + 4) (dist f)).cnt .bdCnt (g * 16 + 5) gone).raise .bd 3
    Dev.fragDrain ((d2.bd g).held.length + 1) (d2.report 44 (2 * g) a) g a

end Sys2Proof.Machine
end

