-- ==== Sys2Proof/Machine/Bonding.lean ====
section
/-! DEFINITION. The bonding unit's commands and events (R175–R195). -/

namespace Sys2Proof.Machine

/-! ## BD_CMD (Table BND–7) -/

/-- A write of BD_CMD: DOWN and RESTORE wait for the next handover; REMEASURE adds its probes at once. -/
def Dev.wBdCmd (v : Nat) (d : Dev) : Dev :=
  let op := BD_CMD.OP.get v
  let g := BD_CMD.GROUP.get v
  let s := BD_CMD.SLOT.get v
  let j := BD_CMD.ONU.get v
  if d.rd .bd BD_CMD.STAT = 1 then d.logErr .bd 0x1e2
  else
    let d0 := d.wrs .bd [(BD_CMD.OP, op), (BD_CMD.GROUP, g), (BD_CMD.SLOT, s), (BD_CMD.ONU, j)]
    if op = 0 ∨ 3 < op ∨ 23 < g ∨ d.grpSize g = 0 ∨ (op ≠ 3 ∧ d.grpSize g ≤ s) then
      (d0.wr .bd BD_CMD.STAT 3).logErr .bd 0x1e2
    else if op = 3 then
      ((d0.members g).filter (fun m => m != d0.lead m && d0.inService m)).foldl
        (fun (x : Dev) m => x.probeAdd g (m - 2 * g) j) (d0.wr .bd BD_CMD.STAT 0)
    else
      let b := d0.mem g s
      ((d0.wr .bd BD_CMD.STAT 1).setMem g s { b with trans := some (if op = 1 then (1, 4) else (2, 0)) }).memberNow g

/-- The write of BD_CMD that issues one operation. -/
def Dev.bdCmd (b : By) (v op : Nat) (d : Dev) : Dev :=
  d.hostF b .bd BD_CMD.OP (BD_CMD.OP.set v op) (Dev.wBdCmd (BD_CMD.OP.set v op))

/-- MEMBER_DOWN. -/
def execMemberDown (b : By) (v : Nat) (s : State) : Host.Outcome State Fault Refusal :=
  s.run (.memberDown b v) (Dev.bdCmd b v 1)
/-- MEMBER_RESTORE. -/
def execMemberRestore (b : By) (v : Nat) (s : State) : Host.Outcome State Fault Refusal :=
  s.run (.memberRestore b v) (Dev.bdCmd b v 2)
/-- SKEW_REMEASURE. -/
def execSkewRemeasure (b : By) (v : Nat) (s : State) : Host.Outcome State Fault Refusal :=
  s.run (.skewRemeasure b v) (Dev.bdCmd b v 3)

/-- RESTORE_MS has elapsed for a DOWN member (Table BND–2): one lost for cause 3 or 6, or one free of causes 1, 2 and 5.  A
member taken down by command waits for RESTORE. -/
def Dev.restoreDue (g s : Nat) (d : Dev) : Dev :=
  let c := d.memberCause g s
  if s < d.grpSize g ∧ d.memberState g s = 1 ∧ c ≠ 4 ∧ (c = 3 ∨ c = 6 ∨ d.memberLoss (2 * g + s) = 0) then
    (d.setMem g s { d.mem g s with trans := some (2, 0) }).memberNow g
  else d

/-- MEMBER_RESTORE_TIMEOUT. -/
def execMemberRestoreTimeout (gs ms : Nat) (s : State) : Host.Outcome State Fault Refusal :=
  s.run (.memberRestoreTimeout gs ms) (Dev.restoreDue gs ms)

/-! ## Downstream (R180–R182, R283) -/

/-- Assign the fragments of a group's first waiting packet that the frames under construction have room for; none while no
member is in service or BD does not run (R190, R194). -/
def Dev.distribute (g : Nat) (d : Dev) : Dev :=
  match d.path.cx.cut.get [] g with
  | [] => d
  | c :: t => if d.enabled .bd then Dev.cutOut (c.frame.payload.length + 1) (d.setCut g t) g c else d

/-- DS_FRAGMENT_DISTRIBUTE. -/
def execDsFragmentDistribute (gs : Nat) (s : State) : Host.Outcome State Fault Refusal :=
  s.run (.dsFragmentDistribute gs) (Dev.distribute gs)

/-! ## Upstream (R188) -/

/-- The reorder store takes the next fragment that a receiver recovered. -/
def Dev.fragTake (g : Nat) (d : Dev) : Dev :=
  match (d.bd g).inq with
  | [] => d
  | f :: t => if d.enabled .bd then (d.setBd g { d.bd g with inq := t }).fragReceive g f else d

/-- US_FRAGMENT_RECEIVE. -/
def execUsFragmentReceive (gs : Nat) (s : State) : Host.Outcome State Fault Refusal :=
  s.run (.usFragmentReceive gs) (Dev.fragTake gs)

/-- FRAGMENT_WAIT_TIMEOUT. -/
def execFragmentWaitTimeout (gs a : Nat) (s : State) : Host.Outcome State Fault Refusal :=
  s.run (.fragmentWaitTimeout gs a) (fun d => if d.enabled .bd then d.fragLost gs a else d)

/-! ## Templates (R192) -/

/-- The bytes of a template with the field at SEQ_OFS advanced by the templates sent before (a 32-bit number in network
order). -/
def Dev.oamBytes (d : Dev) (g kind len : Nat) : List Byte :=
  let raw := leBytes 64 (d.entry .bdOamTpl (g * 4 + kind * 2)) ++ leBytes 64 (d.entry .bdOamTpl (g * 4 + kind * 2 + 1))
  let ofs := d.rdT .bdGroup g BD_GROUP.SEQ_OFS
  let old := ((raw.drop ofs).take 4).foldl (fun v b => v * 256 + b.toNat) 0
  (if ofs = 0 then raw else splice raw ofs (beBytes 4 (old + (d.bd g).oamSeq))).take len

/-- A template is due: the degraded one while a member is DOWN, else the cleared one while it is owed. -/
def Dev.oamSend (g : Nat) (d : Dev) : Dev :=
  let down := d.anyDown g
  let len := if down then d.rdT .bdGroup g BD_GROUP.OAM_LEN_DEG else d.rdT .bdGroup g BD_GROUP.OAM_LEN_CLR
  let b := d.bd g
  if d.enabled .bd && d.onT .bdGroup g BD_GROUP.OAM_EN && d.grpSize g != 0 && len != 0 &&
      (down || d.onT .bdGroup g BD_GROUP.OAM_CONT || b.oamLeft != 0) then
    let a : Admit := { rt := 0, first := .template g, second := none, bytes := d.oamBytes g (if down then 0 else 1) len,
                       ts := none, source := 0, req := none, tx := none }
    let d1 := d.setBd g { b with oamSeq := b.oamSeq + 1, oamLeft := if down then b.oamLeft else b.oamLeft - 1 }
    (d1.setBp { d1.path.bp with inq := d1.path.bp.inq ++ [a] }).cnt .bdCnt (g * 16 + 12)
  else d

/-- OAM_TEMPLATE_SEND. -/
def execOamTemplateSend (gs : Nat) (s : State) : Host.Outcome State Fault Refusal :=
  s.run (.oamTemplateSend gs) (Dev.oamSend gs)

end Sys2Proof.Machine
end

