-- ==== Sys2Proof/Machine/Classifier.lean ====
section
/-! DEFINITION. The classifier: profile, parse, range comparators, walk, action and targets of a frame, and the match of an
upstream XGEM frame to its flow (R219–R237). -/

namespace Sys2Proof.Machine

/-! ## Profiles and the walk (R219, R226, R227) -/

/-- The parser's limits of a profile. -/
def Dev.parseCfg (d : Dev) (p : Nat) : ParseCfg :=
  { depth := d.rdT .clProfile p CL_PROFILE.DEPTH4 * 4, layers := d.rdT .clProfile p CL_PROFILE.LAYERS,
    trailOk := d.onT .clProfile p CL_PROFILE.TRAIL_OK, tpid := d.rdT .clProfile p CL_PROFILE.TPID_EXTRA,
    vxlan := d.rdT .clProfile p CL_PROFILE.VXLAN_PORT, mplsUdp := d.rdT .clProfile p CL_PROFILE.MPLS_UDP_PORT }

/-- Output of comparator `c` on a key (R226). -/
def Dev.comparator (d : Dev) (key c : Nat) : Bool :=
  let v := keyField key (d.rdT .clRange c CL_RANGE.OFFSET) (d.rdT .clRange c CL_RANGE.WIDTHM1 + 1)
  d.onT .clRange c CL_RANGE.VALID && d.rdT .clRange c CL_RANGE.LO ≤ v && v ≤ d.rdT .clRange c CL_RANGE.HI

/-- The key with the range vector of a profile (R226). -/
def Dev.withRange (d : Dev) (p key : Nat) : Nat :=
  (List.range (d.rdT .clProfile p CL_PROFILE.RANGE_COUNT)).foldl
    (fun k i => if d.comparator key (d.rdT .clProfile p CL_PROFILE.RANGE_BASE + i) then k + 2 ^ (255 - i) else k) key

/-- Threshold `k` of a CUT node. -/
def nodeThresh (e k : Nat) : Nat := e / 2 ^ (464 - 16 * k) % 65536
/-- Child `k` of a CUT node. -/
def nodeChild (e k : Nat) : Nat := e / 2 ^ (32 * k) % 2 ^ 18

/-- The child that a CUT node's field selects: how many of its thresholds are no larger than the field. -/
def cutChild (e key : Nat) : Nat :=
  let v := keyField key (CL_NODE.OFFSET.get e) (CL_NODE.WIDTHM1.get e + 1)
  nodeChild e ((List.range (CL_NODE.NT.get e)).filter (fun k => nodeThresh e k ≤ v)).length

/-- The walk of a profile's tree from a node (R227): the leaf's entry, or `none` for a tree error.  `bad` is a node
whose read fails its address-folded check. -/
def Dev.walk (d : Dev) (p key : Nat) (bad : Option Nat) : Nat → Nat → Option Nat
  | 0, _ => none
  | k + 1, i =>
    let base := d.rdT .clProfile p CL_PROFILE.NODE_BASE
    if i < base ∨ base + d.rdT .clProfile p CL_PROFILE.NODE_COUNT ≤ i ∨ bad = some i then none
    else
      let e := d.entry .clNode i
      if CL_NODE.KIND.get e = 2 then some e
      else if CL_NODE.KIND.get e = 1 then Dev.walk d p key bad k (cutChild e key)
      else none

/-- Whether the walk reads a node. -/
def Dev.walkReads (d : Dev) (p key : Nat) (q : Nat) : Nat → Nat → Bool
  | 0, _ => false
  | k + 1, i =>
    let base := d.rdT .clProfile p CL_PROFILE.NODE_BASE
    if i < base ∨ base + d.rdT .clProfile p CL_PROFILE.NODE_COUNT ≤ i then false
    else if i = q then true
    else
      let e := d.entry .clNode i
      if CL_NODE.KIND.get e = 1 then Dev.walkReads d p key q k (cutChild e key) else false

/-! ## Actions and targets (R230–R232) -/

/-- What a class or a leaf asks for. -/
structure ClAct where
  act : Nat
  target : Nat
  reason : Nat
  mirDir : Nat
  mirTarget : Nat
  deriving DecidableEq, Repr

/-- A frame being classified: its profile, direction, requesting tenant, in.port byte, bytes and time. -/
structure ClCtx where
  prof : Nat
  up : Bool
  rt : Nat
  inPort : Nat
  bytes : List Byte
  ts : Option (Nat × Nat)
  /-- a CL_FLOW entry whose read fails its address-folded check -/
  badFlow : Option Nat
  deriving DecidableEq, Repr

/-- The holder that a flow target becomes (R232), with what is counted: `none` where it is dropped. -/
def Dev.flowTarget (d : Dev) (c : ClCtx) (f : Nat) : Option Target × Dev :=
  let pt := d.rdT .clProfile c.prof CL_PROFILE.TENANT
  if c.badFlow = some f then (none, (d.cnt .clCnt (c.prof * 8 + 4)).memError .clFlow f)
  else if !d.onT .clFlow f CL_FLOW.VALID || !d.onT .clFlow f CL_FLOW.DS_EN then (none, d.cnt .clCnt (c.prof * 8 + 4))
  else if pt ≠ 0 ∧ d.rdT .clFlow f CL_FLOW.TENANT ≠ pt then
    (some (.foreign f), ((d.cnt .clCnt (c.prof * 8 + 5)).raise (.cl 0) 1).sep pt 1 f)
  else
    (some (.flow f), (d.addT .clFlow f CL_FLOW.DS_PKTS).addT .clFlow f CL_FLOW.DS_BYTES c.bytes.length)

/-- The holder that TARGET names: a flow downstream, an aggregate upstream (R230). -/
def Dev.mainTarget (d : Dev) (c : ClCtx) (t : Nat) : Option Target × Dev :=
  if c.up then (if 16384 ≤ t then (none, d.cnt .clCnt (c.prof * 8 + 4)) else (some (.agg t), d))
  else d.flowTarget c t

/-- The holder that MIRROR_TARGET names. -/
def Dev.mirrorTarget (d : Dev) (c : ClCtx) (a : ClAct) : Option Target × Dev :=
  if a.mirDir = 0 then d.flowTarget c a.mirTarget else (some (.agg a.mirTarget), d)

/-- Hand a result to the buffer pools: one or two holders, or none left. -/
def Dev.result (d : Dev) (c : ClCtx) (a : ClAct) (l : List Target) : Dev :=
  match l with
  | [] => d
  | t :: r =>
    let fwd := if a.act = 1 ∨ a.act = 4 ∨ a.act = 5 then a.target else 0
    d.setBp { d.path.bp with inq := d.path.bp.inq ++
      [{ rt := c.rt, first := t, second := r.head?, bytes := c.bytes, ts := c.ts,
         source := c.inPort * 2 ^ 24 + c.prof * 2 ^ 18 + fwd, req := none, tx := none }] }

/-- Apply an action of Table CLS–3. -/
def Dev.actOn (d : Dev) (c : ClCtx) (a : ClAct) : Dev :=
  let ring : Target := .ring (d.rdT .clProfile c.prof CL_PROFILE.TENANT) a.reason
  let copied (x : Dev) : Dev := x.cnt .clCnt (c.prof * 8 + 7)
  match a.act with
  | 1 => let m := d.mainTarget c a.target; m.2.result c a m.1.toList
  | 2 => (copied d).result c a [ring]
  | 3 =>
    let m := d.mirrorTarget c a
    (if m.1.isSome then copied m.2 else m.2).result c a m.1.toList
  | 4 => let m := d.mainTarget c a.target; (copied m.2).result c a (m.1.toList ++ [ring])
  | 5 =>
    let m := d.mainTarget c a.target
    let r := m.2.mirrorTarget c a
    (if r.1.isSome then copied r.2 else r.2).result c a (m.1.toList ++ r.1.toList)
  | _ => d

/-- Parse, look up and act on a frame under a valid profile (R221–R232). -/
def Dev.classify (d : Dev) (c : ClCtx) (badNode : Option Nat) : Dev :=
  let p := c.prof
  let r := parseFrame (d.parseCfg p) c.bytes
  let d1 := if r.frag then d.cnt .clCnt (p * 8 + 6) else d
  if r.cls = 1 then
    (d1.cnt .clCnt (p * 8 + 1)).actOn c
      { act := d.rdT .clProfile p CL_PROFILE.INC_ACT, target := d.rdT .clProfile p CL_PROFILE.INC_TARGET,
        reason := d.rdT .clProfile p CL_PROFILE.INC_REASON, mirDir := 0, mirTarget := 0 }
  else if r.cls = 2 then
    (d1.cnt .clCnt (p * 8 + 2)).actOn c
      { act := d.rdT .clProfile p CL_PROFILE.MAL_ACT, target := d.rdT .clProfile p CL_PROFILE.MAL_TARGET,
        reason := d.rdT .clProfile p CL_PROFILE.MAL_REASON, mirDir := 0, mirTarget := 0 }
  else
    let key := d.withRange p (r.key c.inPort)
    let root := d.rdT .clProfile p CL_PROFILE.ROOT
    match d.walk p key badNode 24 root with
    | some e =>
      let rule := CL_LEAF.RULE_ID.get e
      (((d1.cnt .clCnt (p * 8)).cnt .clRuleCnt rule).pm 17 rule).actOn c
        { act := CL_LEAF.ACTION.get e, target := CL_LEAF.TARGET.get e, reason := CL_LEAF.REASON.get e,
          mirDir := CL_LEAF.MIRROR_DIR.get e, mirTarget := CL_LEAF.MIRROR_TARGET.get e }
    | none =>
      let d2 := (((d1.cnt .clCnt (p * 8 + 3)).wr (.cl 0) CL_STAT.ERR_PROFILE p).raise (.cl 0) 0).report 20 p
      match badNode with
      | some q => if d.walkReads p key q 24 root then d2.memError .clNode q else d2
      | none => d2

/-! ## Downstream (R219, R227) -/

/-- Take the first frame that satisfies a test out of the classifier's inputs. -/
def takeIn (f : ClIn → Bool) : List ClIn → Option (ClIn × List ClIn)
  | [] => none
  | x :: t => if f x then some (x, t) else (takeIn f t).map (fun r => (r.1, x :: r.2))

/-- Whether a profile is valid and of the direction (R219). -/
def Dev.profOk (d : Dev) (p : Nat) (up : Bool) : Bool :=
  d.onT .clProfile p CL_PROFILE.VALID && (d.onT .clProfile p CL_PROFILE.DIR == up)

/-- The next frame of an uplink port is classified. -/
def Dev.dsClassify (u : Nat) (badNode badFlow : Option Nat) (d : Dev) : Dev :=
  match (if d.takes (.cl 0) then takeIn (fun x => !x.up && x.port == u) d.path.cl else none) with
  | none => d
  | some (x, rest) =>
    let d1 := { d with path := { d.path with cl := rest } }
    let p := d.rdT .clPortProf u CL_PORT_PROF.PROFILE
    if d.profOk p false then
      d1.classify { prof := p, up := false, rt := d.rdT .clProfile p CL_PROFILE.TENANT, inPort := u, bytes := x.bytes,
                    ts := x.ts, badFlow := badFlow } badNode
    else (d1.cnt .clCnt (704 + u)).raise (.cl 0) 3

/-- DS_FRAME_CLASSIFY. -/
def execDsFrameClassify (u : Nat) (badNode badFlow : Option Nat) (s : State) : Host.Outcome State Fault Refusal :=
  s.run (.dsFrameClassify u badNode badFlow) (Dev.dsClassify u badNode badFlow)

/-! ## Upstream (R219, R220) -/

/-- The flow that an upstream port-ID of a tree names: the valid one with US_EN = 1 (R220, R236). -/
def Dev.usFlow (d : Dev) (n port : Nat) : Option Nat :=
  ((d.listedT .clFlow CL_FLOW.VALID).map (fun e => e.1)).find? (fun f =>
    d.onT .clFlow f CL_FLOW.US_EN && d.rdT .clFlow f CL_FLOW.TREE == n && d.rdT .clFlow f CL_FLOW.XGEM_PORT == port)

/-- Match an upstream XGEM frame of a tree to its flow (R220). -/
def Dev.usMatch (d : Dev) (n : Nat) (badFlow : Option Nat) (x : UsXgem) : Dev :=
  let unknown (e : Dev) : Dev := (e.cnt .clCnt (512 + n * 4)).raise (.cl 0) 2
  match d.usFlow n x.port with
  | none => unknown d
  | some f =>
    if badFlow = some f then (unknown d).memError .clFlow f
    else if d.rdT .clFlow f CL_FLOW.ONU ≠ x.onu then
      ((d.cnt .clCnt (512 + n * 4 + 1)).raise (.cl 0) 1).sep (d.rdT .clFlow f CL_FLOW.TENANT) 0 f
    else
      let l := d.path.cx.dec.get [] n
      d.setCx { d.path.cx with dec := d.path.cx.dec.put [] n (l ++ [(f, x)]) }

/-- A decrypted and policed upstream frame is classified under its flow's profile. -/
def Dev.usWalk (d : Dev) (n : Nat) (badNode badFlow : Option Nat) (x : ClIn) : Dev :=
  let p := d.rdT .clFlow x.flow CL_FLOW.US_PROFILE
  let d1 := (d.addT .clFlow x.flow CL_FLOW.US_PKTS).addT .clFlow x.flow CL_FLOW.US_BYTES x.bytes.length
  if d.profOk p true then
    d1.classify { prof := p, up := true, rt := d.rdT .clFlow x.flow CL_FLOW.TENANT, inPort := 128 + n, bytes := x.bytes,
                  ts := x.ts, badFlow := badFlow } badNode
  else (d.cnt .clCnt (512 + n * 4 + 2)).raise (.cl 0) 3

/-- The classifier serves a tree: a frame that came out of the cipher engine is classified; where none waits, the next
recovered XGEM frame is matched to its flow. -/
def Dev.usClassify (n : Nat) (badNode badFlow : Option Nat) (d : Dev) : Dev :=
  if !d.takes (.cl 0) then d
  else
    match takeIn (fun x => x.up && x.port == n) d.path.cl with
    | some (x, rest) => ({ d with path := { d.path with cl := rest } }).usWalk n badNode badFlow x
    | none =>
      match d.path.cx.us.get [] n with
      | [] => d
      | x :: t => (d.setCx { d.path.cx with us := d.path.cx.us.put [] n t }).usMatch n badFlow x

/-- US_FRAME_CLASSIFY. -/
def execUsFrameClassify (n : Nat) (badNode badFlow : Option Nat) (s : State) : Host.Outcome State Fault Refusal :=
  s.run (.usFrameClassify n badNode badFlow) (Dev.usClassify n badNode badFlow)

end Sys2Proof.Machine
end

