-- ==== Sys2Proof/Machine/ProtOps.lean ====
section
/-! DEFINITION. Tree protection's shared operations: the two indications and the takeover, states and their entries,
requests, cells, the mirror record sent and applied (R196–R216). -/

namespace Sys2Proof.Machine

/-! ## The indications (R196, R201) -/

/-- The hold indication of link `k`: no edge has been seen for 3 µs. -/
def Dev.holdQuiet (d : Dev) (k : Nat) : Bool := !d.on (.pxl k) PX_LINK_STAT.HOLD_IN
/-- The link is silent. -/
def Dev.linkSilent (d : Dev) (k : Nat) : Bool := d.on (.pxl k) PX_LINK_STAT.SILENT
/-- The last control code received for a tree. -/
def Dev.peerCode (d : Dev) (n : Nat) : Nat := d.rdT .pxRole n PX_ROLE.PEER_CODE
/-- A hold gap runs on link `k`. -/
def Dev.gapOn (d : Dev) (k : Nat) : Bool := (if k = 0 then d.sup.gap0 else d.sup.gap1).isSome

/-- Both indications hold for a tree, and no effective LOCKOUT forbids the move (R196, R214). -/
def Dev.mayTake (d : Dev) (n : Nat) : Bool :=
  let k := d.pxLink n
  d.holdQuiet k && (d.linkSilent k || d.peerCode n == 5) && !(d.rdT .pxRole n PX_ROLE.REQ_EFF == 1 && !d.isHome n)

/-! ## Entries of states (Table PRT–6) -/

/-- What a standby does with no last applied record: the gathering of records and the resync start again (R209, R210). -/
def Dev.pxRestart (d : Dev) (n : Nat) : Dev :=
  (d.setPx n { d.px n with lastSfc := none, swept := 0, synced := false, gathered := [], applied := false }).cnt .pxCnt
    (n * 16 + 8)

/-- No record is the last applied one any more (R209): after a reset of the peer. -/
def Dev.pxForget (d : Dev) (n : Nat) : Dev :=
  d.setPx n { d.px n with lastSfc := none, late := none, gathered := [], applied := false }

/-- The standby becomes NOT_READY (R209): raised and reported when it was ready, or for a discarded record. -/
def Dev.pxNotReady (d : Dev) (n : Nat) : Dev :=
  ((((d.pxRestart n).pxGo n 3).setPx n { (d.pxRestart n).px n with reverting := false }).raise .px0 3).report 48 n

/-- Entry into STANDBY_NR from a state in which the tree was not standby: the path is acquired anew (R211). -/
def Dev.pxStandby (d : Dev) (n cause : Nat) : Dev :=
  let d1 := (d.pxRestart n).wrT .pxRole n PX_ROLE.ACQ 0
  let d2 := d1.setPx n { d1.px n with late := none, acqN := 0, acqSum := 0, acqFrames := 0, acqWait := 0, byReq := false,
                                      reverting := false }
  if cause = 0 then d2.pxGo n 3 else d2.pxGoFor n 3 cause

/-- Key contexts of a tree: the listed ones of the table store whose tag names it, ascending. -/
def Dev.treeKeys (d : Dev) (n : Nat) : List Nat :=
  ((d.listedT .cxKey CX_KEY.VALID).filter (fun e => d.rdT .cxKey e.1 CX_KEY.TAG_TREE == n)).map Prod.fst

/-- Downstream line blocks of 16 bytes per frame (Table DSF–1). -/
def Dev.dsBlocks (d : Dev) (n : Nat) : Nat := if d.rd (.te n 0) TE_MODE.LINE_MODE = 0 then 9720 else 48600

/-- Line blocks of a tree per frame, upstream and downstream, over all its members (R213). -/
def Dev.lineBlocks (d : Dev) (n : Nat) : Nat := (d.mates n).foldl (fun k m => k + d.blocks m + d.dsBlocks m) 0

/-- Advance a tree's key positions by the line blocks of the frames since each was mirrored (R213). -/
def Dev.keyAdvance (d : Dev) (n : Nat) : Dev :=
  let p := d.px n
  (d.treeKeys n).foldl (fun (x : Dev) c =>
    x.useKey c (x.lineBlocks n * (p.frames + 1 - max 1 (p.keyAt.get 0 c)))) d

/-- FLAGS of a key position: soft limit reached, frozen, switch pending: a valid payload context that is not the downstream
key and whose ACT_SFC lies ahead (Table PRT–9, R284; DEDUCED, log 84). -/
def Dev.keyFlags (d : Dev) (n c : Nat) : Nat :=
  let r := fun f => d.rdT .cxKey c f
  4 * r CX_KEY.SOFT_HIT + 2 * r CX_KEY.FROZEN +
    (r CX_KEY.KIND ≤ 1 && r CX_KEY.ACTIVE_DS == 0 && r CX_KEY.FROZEN == 0 && d.sfc (d.lead n) < r CX_KEY.ACT_SFC).toNat

/-- What of a key context calls for its position ahead of the rotation when it changes: soft limit, frozen, downstream key
(R208). -/
def Dev.keyMark (d : Dev) (c : Nat) : Nat :=
  1 + 4 * d.rdT .cxKey c CX_KEY.SOFT_HIT + 2 * d.rdT .cxKey c CX_KEY.FROZEN + 8 * d.rdT .cxKey c CX_KEY.ACTIVE_DS

/-- The supervisor's own monitor of PROT_HOLD_IN[k] shows no edge for 3 µs (R198). -/
def Dev.holdAgrees (d : Dev) (k : Nat) : Bool := !d.sup.edge.get false k

/-- The tree is taken (R196, R198, R213): TAKING, and with the supervisor's control bit ACTIVE; where its monitor sees
edges it refuses the bit, and the state is the one before.  The engine starts in conventional mode with no report and no
map handed over. -/
def Dev.pxTake (d : Dev) (n cause : Nat) : Dev :=
  let was := d.pxState n
  let d1 := (d.setPx n { d.px n with former := was }).pxGo n 7
  if !d.holdAgrees (d.pxLink n) then d1.pxGo n was
  else
    let d2 := (d1.setCtl n true).pxGoFor n 2 cause
    let d3 := (((d2.cnt .pxCnt (n * 16)).raise .px0 0).report 46 n).keyAdvance n
    let p := d3.px n
    let d4 := if was = 5 ∧ p.reverting then d3.cnt .pxCnt (n * 16 + 2) else d3
    let d5 := if p.queued = 0 then d4 else (d4.cnt .pxCnt (n * 16 + 6) p.queued).raise .px0 4
    let all := ((d5.listedT .bwAlloc BW_ALLOC.VALID).filter (fun e => d5.rdT .bwAlloc e.1 BW_ALLOC.TREE == n)).map Prod.fst
    let d6 := d5.setBw n { d5.bw n with takeover := 2, fresh := all, reported := [], late := [], stash := [], convQ := [],
                                        convM := [], recQ := [], recM := [], running := false, cut := false }
    let d7 := (d6.mates n).foldl (fun (x : Dev) m => x.setHy m { x.hy m with prev := none, snapped := false }) d6
    let seen := (d7.treeKeys n).foldl (fun (s : Store Nat) c => s.put 0 c (d7.keyMark c)) []
    let d8 := d7.setPx n { p with byReq := false, reverting := false, noMap := 0, queued := 0, sentOnu := [], seenKey := seen,
                                  sweepNext := none, gathered := [], lastSfc := none, late := none }
    (d8.onusIn n 2).foldl (fun (x : Dev) j =>
      if (x.rng n j).isNone then x.rangeStart n j (x.rdT (.teOnu n) j TE_ONU.EQD) else x) d8

/-- A fault that made the tree give up is gone, and the self-test passes: the tree may stand by again (Table PRT–6,
Table PRT–7; the self-test's content is not given: DESIGN CHOICE, log 39). -/
def Dev.pxCured (d : Dev) (n : Nat) : Bool :=
  !d.allGivenUp && (d.mates n).all (fun m => d.keyA1 m && d.keyA5 m && d.keyA6 m)

/-- What the present indications and codes lead to for one tree (Table PRT–6). -/
def Dev.pxStep (d : Dev) (n : Nat) : Dev :=
  let code := d.peerCode n
  let k := d.pxLink n
  let gone := code == 2 || code == 6
  let released := code == 5
  match d.pxState n with
  | 1 =>
    if code = 2 then d.pxStandby n 1
    else if d.isHome n then (if d.mayTake n then d.pxTake n 1 else d)
    else if code = 1 ∧ !(d.px n).byReq then
      ((d.setPx n { d.px n with byReq := true }).startGap k).pxTell n
    else if (d.px n).byReq ∧ !d.gapOn k then d.pxStandby n 1
    else d
  | 3 => if d.mayTake n then d.pxTake n (if released then 2 else 3) else d
  | 4 => if d.mayTake n then d.pxTake n (if released then 2 else 3)
         else if d.linkSilent k then d.pxNotReady n else d
  | 5 => if d.mayTake n then d.pxTake n (if released then 2 else 3)
         else if d.linkSilent k then d.pxNotReady n else d
  | 6 =>
    if (d.px n).byReq then
      if !d.gapOn k && gone then d.pxStandby n 0
      else if d.mayTake n then d.pxTake n 3
      else d
    else if !d.gapOn k && (gone || !d.allGivenUp) then d.pxGo n 8
    else d
  | 8 => if d.pxCured n then d.pxStandby n 0 else d
  | _ => d

/-- The same for every tree of link `k`. -/
def Dev.pxEval (d : Dev) (k : Nat) : Dev :=
  (d.linkTrees k).foldl (fun (x : Dev) n => x.pxStep n) d

/-! ## Requests (R214, R215) -/

/-- The request of higher priority: LOCKOUT, FORCED, MANUAL, EXERCISE, none. -/
def reqOver (a b : Nat) : Nat := if a = 0 then b else if b = 0 then a else min a b

/-- The value of three equal samples. -/
def filtered (l : List Nat) (old : Nat) : Nat :=
  match l with
  | [a, b, c] => if a = b ∧ b = c then a else old
  | _ => old

/-- The wait to restore is over and nothing holds the home back: REVERT_REQ is sent (R214, R215). -/
def Dev.wtrOver (d : Dev) (n : Nat) : Dev :=
  let e := d.rdT .pxRole n PX_ROLE.REQ_EFF
  if d.pxState n = 5 ∧ d.onT .pxRole n PX_ROLE.WTR_S ∧ !(d.px n).reverting ∧ e ≠ 2 ∧ e ≠ 3 then
    ((d.setPx n { d.px n with reverting := true }).wrT .pxRole n PX_ROLE.CAUSE 7).pxTell n
  else d

/-- What the effective request leads to on an active tree (Table PRT–7, Table PRT–11): `fresh` when it has just become
effective. -/
def Dev.reqAct (d : Dev) (n : Nat) (fresh : Bool) : Dev :=
  let e := d.rdT .pxRole n PX_ROLE.REQ_EFF
  if d.pxState n ≠ 2 then d
  else if e = 1 then (if d.isHome n then d else d.giveUp n 8)
  else if e = 2 then (if d.isHome n then d.giveUp n 5 else d)
  else if e = 3 then (if d.isHome n && d.peerCode n == 3 then d.giveUp n 6 else d)
  else if 3 ≤ (d.px n).revRun ∧ !d.isHome n then d.giveUp n 7
  else if e = 4 ∧ fresh ∧ (d.px n).exAt.isNone then
    ((d.setPx n { d.px n with exAt := some d.now }).startGap (d.pxLink n)).protCell (d.pxLink n)
  else d

/-- The samples of a handover: the local request, and the peer's; while the link is silent the previous one again. -/
def Dev.reqSample (d : Dev) (n : Nat) : Dev :=
  let k := d.pxLink n
  let p := d.px n
  let l := d.lnk k
  let loc := (d.rdT .pxRole n PX_ROLE.REQ_LOCAL :: p.locHist).take 3
  let pr := if d.linkSilent k then p.peerHist.headD 0 else l.peerReq.get 0 n
  let peer := (pr :: p.peerHist).take 3
  let rev := if d.linkSilent k then (if p.revRun = 0 then 0 else p.revRun + 1)
    else if d.peerCode n = 7 then p.revRun + 1 else 0
  let le := filtered loc p.locEff
  let pe := filtered peer p.peerEff
  let old := d.rdT .pxRole n PX_ROLE.REQ_EFF
  let eff := reqOver le pe
  let d1 := (d.setPx n { p with locHist := loc, peerHist := peer, locEff := le, peerEff := pe, revRun := min rev 3 }).wrT
    .pxRole n PX_ROLE.REQ_EFF eff
  let d2 := if eff ≠ old then (d1.cnt .pxCnt (n * 16 + 3)).raise .px0 2 else d1
  let d3 := if d2.rd .px0 PX_REQ.STAT = 1 ∧ d2.rd .px0 PX_REQ.TREE = n ∧ le = d2.rdT .pxRole n PX_ROLE.REQ_LOCAL then
      d2.wr .px0 PX_REQ.STAT 0 else d2
  let d4 := d3.reqAct n (eff != old)
  if (old = 2 ∨ old = 3) ∧ p.wtrAt + d4.rdT .pxRole n PX_ROLE.WTR_S * 1000000000 ≤ d4.now then d4.wtrOver n else d4

/-! ## Cells received (R200, R201) -/

/-- A cell header arrives: the alignment rule, the counters; a link whose lanes are not in L0 receives none (R338).  Gives
whether the cell's content is taken. -/
def Dev.cellHead (d : Dev) (k h : Nat) : Bool × Dev :=
  let l := d.lnk k
  let up := d.on (.pxl k) PX_LINK_STAT.ALIGNED
  if !d.linkOn k || !d.linkLanes k then (false, d)
  else
    let d0 := d.cnt (.pxLinkCnt k) 1
    if cellHec h = h % 65536 then
      let d1 := d0.setLnk k { l with fit := min (l.fit + 1) 3, miss := 0 }
      if 3 ≤ l.fit + 1 then (true, d1.wr (.pxl k) PX_LINK_STAT.ALIGNED 1) else (up, d1)
    else
      let d1 := (d0.setLnk k { l with fit := 0, miss := min (l.miss + 1) 4 }).cnt (.pxLinkCnt k) 2
      if up && decide (4 ≤ l.miss + 1) then
        (false, ((d1.wr (.pxl k) PX_LINK_STAT.ALIGNED 0).cnt (.pxLinkCnt k) 3).raise (.pxl k) 0)
      else (false, d1)

/-- The peer's message epoch has changed: every unacknowledged message is lost (R216), and no record is the last applied one
(R209). -/
def Dev.peerReset (d : Dev) (k : Nat) : Dev :=
  let l := d.lnk k
  let d1 := ((d.linkTrees k).foldl Dev.pxForget (d.setLnk k { l with unacked := [] })).raise (.pxl k) 3
  let d2 := if l.unacked = [] then d1 else d1.raise (.pxl k) 4
  l.unacked.foldl (fun (x : Dev) m => (x.cnt (.pxLinkCnt k) 10).txComplete 0 m.ring m.idx 9 0 (x.rd (.pxl k) PX_LINK_STAT.PEER_EPOCH)) d2

/-- The nibble of a tree among 24 bytes (Table PRT–3). -/
def nibble (l : List Byte) (n : Nat) : Nat :=
  let b := (l.getD (n / 2) 0).toNat
  if n % 2 = 0 then b / 16 else b % 16

/-- The codes, requests and exercise marks of a PROTECTION cell reach the trees of link `k` (Table PRT–3). -/
def Dev.cellTrees (d : Dev) (k : Nat) (b : List Byte) : Dev :=
  let marks := bytesAt b 52 6
  let seen := bytesAt b 58 6
  (d.linkTrees k).foldl (fun (x : Dev) n =>
    let t := x.rdT .pxRole n PX_ROLE.PEER_TREE
    let c := nibble (b.drop 4) t
    let x1 := if 8 ≤ c then x.cnt (.pxLinkCnt k) 12 else x
    let x2 := x1.wrT .pxRole n PX_ROLE.PEER_CODE (if 8 ≤ c then 0 else c)
    let l := x2.lnk k
    let mark := hasBit marks t
    let sn := hasBit seen t
    let rise := sn && !l.peerExSeen.get false n
    let x3 := x2.setLnk k { l with peerReq := l.peerReq.put 0 n (nibble (b.drop 28) t),
                                   peerExMark := l.peerExMark.put false n mark,
                                   peerExSeen := l.peerExSeen.put false n sn }
    let p := x3.px n
    let began := mark && !l.peerExMark.get false n
    let x4 := if began || (mark && x3.holdQuiet k) then x3.setPx n { p with exSeen := x3.holdQuiet k } else x3
    match (x4.px n).exAt with
    | some at_ =>
      if rise && decide (x4.now ≤ at_ + 16000) then
        ((x4.setPx n { x4.px n with exAt := none }).cnt .pxCnt (n * 16 + 4)).wrT .pxRole n PX_ROLE.REQ_LOCAL
          (if x4.rdT .pxRole n PX_ROLE.REQ_LOCAL = 4 then 0 else x4.rdT .pxRole n PX_ROLE.REQ_LOCAL)
      else x4
    | none =>
      if (x4.px n).exSeen && x4.rdT .pxRole n PX_ROLE.REQ_LOCAL == 4 && x4.pxState n != 2 then
        x4.wrT .pxRole n PX_ROLE.REQ_LOCAL 0
      else x4) d

/-! ## The mirror record (R208–R213) -/

/-- The fields over which CFG_DIGEST is taken: the RW fields of the tree's valid allocations, ceilings, profiles, ONUs. -/
def Dev.digestList (d : Dev) (n : Nat) : List Nat :=
  let rw := fun (t : Tbl) => t.fields.filter (fun f => f.acc == .rw)
  let row := fun (t : Tbl) (i : Nat) => (rw t).map (fun f => d.rdT t i f)
  (((d.listedT .bwAlloc BW_ALLOC.VALID).filter (fun e => d.rdT .bwAlloc e.1 BW_ALLOC.TREE == n)).flatMap
      (fun e => e.1 :: row .bwAlloc e.1)) ++
    (List.range 16).flatMap (fun t => row .bwCeil (t * 48 + n)) ++
    (List.range 16).flatMap (fun i => row (.teBurstProfile n) i) ++
    (List.range 256).flatMap (fun j => row (.teOnu n) j)

/-- CFG_DIGEST of a tree. -/
def Dev.cfgDigest (d : Dev) (n : Nat) : Nat := Config.digest (d.digestList n) % 2 ^ 32

/-- An entry of a record's map. -/
def Grant.entry (g : Grant) (subst : Bool) : MapEntry :=
  { wireId := g.wireId, start := g.start, size := g.size, prof := g.prof, dbru := g.dbru, ploamu := g.ploamu, seq := g.seq,
    subst := subst }

/-- What of an ONU a delta announces: state, next sequence number, EqD. -/
def Dev.onuMark (d : Dev) (n j : Nat) : Nat :=
  d.onuSt n j + 8 * d.rdT (.teOnu n) j TE_ONU.PLOAM_SEQ + 2048 * d.rdT (.teOnu n) j TE_ONU.EQD

/-- The delta of an ONU. -/
def Dev.delta (d : Dev) (n : Nat) (full : Bool) (j : Nat) : MDelta :=
  let r := fun f => d.rdT (.teOnu n) j f
  { onu := j, state := r TE_ONU.STATE, cause := r TE_ONU.CAUSE, full := full, ploamSeq := r TE_ONU.PLOAM_SEQ,
    eqd := r TE_ONU.EQD, rtd := r TE_ONU.RTD, lastSfc := r TE_ONU.LAST_SFC }

/-- The key part: contexts that reached their soft limit, froze or switched since the last record, then the rotation, 64 in
all; with them the rotation's next place and what is then known of every context: one that found no room stays ahead (R208). -/
def Dev.keyPart (d : Dev) (n : Nat) : List Nat × Nat × Store Nat :=
  let all := d.treeKeys n
  let p := d.px n
  let hot := all.filter (fun c =>
    d.keyMark c != p.seenKey.get 0 c && (p.seenKey.get 0 c != 0 || d.keyMark c != 1))
  let turn := (all.drop p.keyNext ++ all.take p.keyNext).filter (fun c => !hot.contains c)
  let l := (hot ++ turn).take 64
  let known := all.filter (fun c => l.contains c || !hot.contains c)
  (l, if all.length = 0 then 0 else (p.keyNext + (64 - min 64 hot.length)) % all.length,
    known.foldl (fun (s : Store Nat) c => s.put 0 c (d.keyMark c)) (p.seenKey.filter (fun e => all.contains e.1)))

/-! ### The bytes of a record (Table PRT–9) -/

/-- The map entry's word (Table BW–7). -/
def MapEntry.word (e : MapEntry) : Nat :=
  BW_MAP_MIRROR.WIRE_ID.put e.wireId + BW_MAP_MIRROR.START.put e.start + BW_MAP_MIRROR.SIZE.put e.size +
    BW_MAP_MIRROR.PROF_IDX.put e.prof + BW_MAP_MIRROR.DBRU.put e.dbru.toNat + BW_MAP_MIRROR.PLOAMU.put e.ploamu.toNat +
    BW_MAP_MIRROR.SEQ.put e.seq.toNat + BW_MAP_MIRROR.SUBST.put e.subst.toNat

/-- A map entry from its word. -/
def MapEntry.ofWord (v : Nat) : MapEntry :=
  { wireId := BW_MAP_MIRROR.WIRE_ID.get v, start := BW_MAP_MIRROR.START.get v, size := BW_MAP_MIRROR.SIZE.get v,
    prof := BW_MAP_MIRROR.PROF_IDX.get v, dbru := hasBit v 15, ploamu := hasBit v 14, seq := hasBit v 13,
    subst := hasBit v 12 }

/-- The 16 bytes of a delta as a number. -/
def MDelta.word (x : MDelta) : Nat :=
  x.onu % 256 * 2 ^ 120 + x.state % 8 * 2 ^ 117 + x.cause % 16 * 2 ^ 113 + x.full.toNat * 2 ^ 112 +
    x.ploamSeq % 256 * 2 ^ 104 + x.eqd % 2 ^ 32 * 2 ^ 64 + x.rtd % 2 ^ 32 * 2 ^ 32 + x.lastSfc % 2 ^ 32

/-- Bits of a number from a place. -/
def bitsAt (v lo width : Nat) : Nat := v / 2 ^ lo % 2 ^ width

/-- A delta from its number. -/
def MDelta.ofWord (v : Nat) : MDelta :=
  { onu := bitsAt v 120 8, state := bitsAt v 117 3, cause := bitsAt v 113 4, full := hasBit v 112,
    ploamSeq := bitsAt v 104 8, eqd := bitsAt v 64 32, rtd := bitsAt v 32 32, lastSfc := bitsAt v 0 32 }

/-- The 16 bytes of a key position as a number. -/
def MKey.word (x : MKey) : Nat := x.ctx % 2 ^ 15 * 2 ^ 96 + x.usage % 2 ^ 48 * 2 ^ 48 + x.flags % 8 * 2 ^ 45

/-- A key position from its number. -/
def MKey.ofWord (v : Nat) : MKey := { ctx := bitsAt v 96 15, usage := bitsAt v 48 48, flags := bitsAt v 45 3 }

/-- A record's header as a number. -/
def MirrorRec.head (r : MirrorRec) : Nat :=
  r.sfc % 2 ^ 51 * 2 ^ 461 + r.tree % 64 * 2 ^ 455 + r.map.length % 1024 * 2 ^ 445 + r.deltas.length % 512 * 2 ^ 436 +
    r.keys.length % 128 * 2 ^ 429 + r.subst.toNat * 2 ^ 428 + toBits 32 r.arrOfs * 2 ^ 384 + r.queued % 2 ^ 40 * 2 ^ 344 +
    r.digest % 2 ^ 32 * 2 ^ 312

/-- A record as bytes, its CRC-32 last. -/
def MirrorRec.toBytes (r : MirrorRec) : List Byte :=
  let b := beBytes 64 r.head ++ r.map.flatMap (fun e => beBytes 8 e.word) ++
    r.deltas.flatMap (fun e => beBytes 16 e.word) ++ r.keys.flatMap (fun e => beBytes 16 e.word)
  b ++ beBytes 4 (crc32 b)

/-- A record from its bytes; `none` when it is not complete or its CRC does not fit (R209). -/
def MirrorRec.ofBytes (b : List Byte) : Option MirrorRec :=
  let h := bytesAt b 0 64
  let e := bitsAt h 445 10
  let x := bitsAt h 436 9
  let k := bitsAt h 429 7
  let len := 64 + 8 * e + 16 * x + 16 * k
  if b.length ≠ len + 4 ∨ crc32 (b.take len) ≠ bytesAt b len 4 then none
  else some
    { sfc := bitsAt h 461 51, tree := bitsAt h 455 6, subst := hasBit h 428, arrOfs := sext 32 (bitsAt h 384 32),
      queued := bitsAt h 344 40, digest := bitsAt h 312 32,
      map := (List.range e).map (fun i => MapEntry.ofWord (bytesAt b (64 + 8 * i) 8)),
      deltas := (List.range x).map (fun i => MDelta.ofWord (bytesAt b (64 + 8 * e + 16 * i) 16)),
      keys := (List.range k).map (fun i => MKey.ofWord (bytesAt b (64 + 8 * e + 16 * x + 16 * i) 16)) }

/-- Downstream bytes queued for a tree (R272). -/
def Dev.queuedBytes (d : Dev) (n : Nat) : Nat :=
  d.path.sc.q.foldl (fun s e =>
    if e.1 < 131072 ∧ d.rdT .clFlow e.1 CL_FLOW.TREE = n then s + e.2.frames.foldl (fun t h => t + h.len) 0 else s) 0

/-- The active's mirror record of port `m` with the map handed over (R208, R210). -/
def Dev.mirrorSend (d : Dev) (m sfc : Nat) (g : GMap) : Dev :=
  let n := d.groupPort m
  let k := d.pxLink n
  if !d.isProtected n || d.pxState n ≠ 2 || !d.linkOn k then d
  else
    let p := d.px n
    let base : MirrorRec :=
      { sfc := sfc, tree := m, subst := g.subst, arrOfs := sext 32 (d.rdT .pxRole n PX_ROLE.ARR_OFS), queued := 0, digest := 0,
        map := g.grants.map (fun x => x.entry g.subst), deltas := [], keys := [] }
    let out := fun (x : Dev) (r : MirrorRec) => (x.cnt (.pxLinkCnt k) 5).cellsOut k 2 m r.toBytes
    if m ≠ n then out d base
    else
      let changed := (List.range 256).filter (fun j => d.onuMark n j != p.sentOnu.get 0 j)
      let from_ := if d.peerCode n = 4 then p.sweepNext.getD 0 else 0
      let full := if d.peerCode n = 4 then (List.range 32).map (fun i => from_ + i) else []
      let kp := d.keyPart n
      let r : MirrorRec :=
        { base with queued := d.queuedBytes n, digest := d.cfgDigest n,
                    deltas := (changed.filter (fun j => !full.contains j)).map (d.delta n false) ++ full.map (d.delta n true),
                    keys := kp.1.map (fun c => { ctx := c, usage := d.rdT .cxKey c CX_KEY.USAGE, flags := d.keyFlags n c }) }
      let d1 := d.setPx n
        { p with sentOnu := changed.foldl (fun (s : Store Nat) j => s.put 0 j (d.onuMark n j)) p.sentOnu,
                 sweepNext := if full = [] then none else some ((from_ + 32) % 256), keyNext := kp.2.1, seenKey := kp.2.2 }
      out d1 r

/-- A grant from an entry of a mirrored map: what it is for follows from its Alloc-ID and the ONU's state. -/
def Dev.grantOf (d : Dev) (n : Nat) (e : MapEntry) : Grant :=
  let a := ((d.listedT .hyAlloc HY_ALLOC.WIRE_ID).find? (fun x =>
    x.2 == e.wireId && d.onT .hyAlloc x.1 HY_ALLOC.VALID && d.rdT .hyAlloc x.1 HY_ALLOC.TREE == n)).map Prod.fst
  let onu := match a with
    | some i => d.rdT .hyAlloc i HY_ALLOC.ONU
    | none => e.wireId % 1024
  { wireId := e.wireId, start := e.start, size := e.size, prof := e.prof, dbru := e.dbru, ploamu := e.ploamu, seq := e.seq,
    alloc := a, onu := onu,
    tenant := match a with
      | some i => d.rdT .hyAlloc i HY_ALLOC.TENANT
      | none => 0
    kind := if e.wireId = bcastOnu then 3
      else if e.seq then (if d.onuSt n onu = 2 then 2 else 4)
      else if a.isNone then 1 else 0 }

/-- An ONU delta is applied: state, cause, EqD, RTD, sequence number; the Hardy's copy, recall and drift follow (R121, R171). -/
def Dev.applyDelta (d : Dev) (n : Nat) (x : MDelta) : Dev :=
  let j := x.onu % 256
  let st := d.onuSt n j
  let d1 := d.wrTs (.teOnu n) j
    [(TE_ONU.STATE, x.state), (TE_ONU.CAUSE, x.cause), (TE_ONU.EQD, x.eqd), (TE_ONU.RTD, x.rtd),
     (TE_ONU.LAST_SFC, x.lastSfc), (TE_ONU.PLOAM_SEQ, x.ploamSeq)]
  let d2 := (d1.wrT .hyOnu (n * 256 + j) HY_ONU.STATE x.state).undamage (Tbl.hyOnu.key (n * 256 + j) HY_ONU.STATE)
  let d3 := if (st = 3 ∨ st = 4) ∧ x.state ≠ st then (d2.mates n).foldl (fun (y : Dev) m => y.recallDrop m j 2) d2 else d2
  if x.eqd = d.rdT (.teOnu n) j TE_ONU.EQD ∧ x.state = st then d3 else d3.driftClear n j

/-- The downstream key of a pair follows a key position (R289): a context with a switch pending is not it; another payload
context is, unless its partner is it already with an ACT_SFC not below (R284; DEDUCED, log 84). -/
def Dev.applyActive (d : Dev) (x : MKey) : Dev :=
  let c := x.ctx
  let other := if c % 2 = 0 then c + 1 else c - 1
  let r := fun i f => d.rdT .cxKey i f
  if hasBit x.flags 0 then d.wrT .cxKey c CX_KEY.ACTIVE_DS 0
  else if r c CX_KEY.VALID = 0 ∨ 1 < r c CX_KEY.KIND ∨
      (r other CX_KEY.VALID = 1 ∧ r other CX_KEY.ACTIVE_DS = 1 ∧ r c CX_KEY.ACT_SFC ≤ r other CX_KEY.ACT_SFC) then d
  else (d.wrT .cxKey other CX_KEY.ACTIVE_DS 0).wrT .cxKey c CX_KEY.ACTIVE_DS 1

/-- A key position is applied (R289). -/
def Dev.applyKey (d : Dev) (n : Nat) (x : MKey) : Dev :=
  let d1 := (d.wrTs .cxKey x.ctx
    [(CX_KEY.USAGE, x.usage), (CX_KEY.SOFT_HIT, bit x.flags 2), (CX_KEY.FROZEN, bit x.flags 1)]).applyActive x
  d1.setPx n { d1.px n with keyAt := (d1.px n).keyAt.ins x.ctx ((d1.px n).frames + 1) }

/-- The records of a cycle are discarded, those that came and those that will (R208, R209), each counted once; a record
whose cycle is not known is discarded alone. -/
def Dev.mirrorDrop (d : Dev) (n : Nat) (sfc : Option Nat) : Dev :=
  let d1 := (d.cnt (.pxLinkCnt (d.pxLink n)) 7 (if sfc.isNone then 1 else (d.mates n).length)).pxNotReady n
  if sfc.isNone then d1 else d1.setPx n { d1.px n with late := sfc }

/-- Superframe count of the cycle whose records are due at a standby: that being gathered, or the next. -/
def PxTree.dueSfc (p : PxTree) : Option Nat :=
  (p.gathered.findSome? (fun e => e.2.map MirrorRec.sfc)).orElse (fun _ => p.lastSfc.map (fun s => (s + 1) % 2 ^ 51))

/-- The records of a cycle are applied together (R209–R213). -/
def Dev.mirrorApply (d : Dev) (n : Nat) (l : List (Nat × MirrorRec)) : Dev :=
  match l.find? (fun e => e.1 = n) with
  | none => d
  | some (_, h) =>
    let d1 := h.deltas.foldl (fun (x : Dev) e => x.applyDelta n e) d
    let d2 := h.keys.foldl (fun (x : Dev) e => x.applyKey n e) d1
    let full := (h.deltas.filter MDelta.full).length
    let p := d2.px n
    let swept := p.swept + full
    let acq := if d2.acquiring n ∧ d2.peerCode n = 2 ∧ p.acqWait = 0 then p.acqFrames + 1 else p.acqFrames
    let d3 := d2.setPx n { p with lastSfc := some h.sfc, gathered := [], applied := true, peerArr := h.arrOfs,
                                  queued := h.queued, swept := swept, synced := p.synced || decide (256 ≤ swept),
                                  acqFrames := acq }
    let d4 := if d3.onT .pxRole n PX_ROLE.ACQ then
        d3.wrT .pxRole n PX_ROLE.ARR_OFS (toBits 32 (h.arrOfs + 2 * sext 32 (d3.rdT .pxRole n PX_ROLE.PATH_DIFF)))
      else d3
    let d5 := if h.digest = d4.cfgDigest n then d4 else (d4.cnt .pxCnt (n * 16 + 9)).raise .px0 5
    let maps := l.map (fun e => (e.1, e.2.map.map (d5.grantOf n)))
    let d6 := maps.foldl (fun (x : Dev) e => x.armMap e.1 h.sfc (x.rxCfgNow e.1) e.2) d5
    let b := d6.bw n
    let d7 := d6.setBw n { b with hist :=
      ((h.sfc, maps.foldl (fun (s : Store Nat) e => payloads e.2 s) []) :: b.hist).take 16 }
    (d7.cnt (.pxLinkCnt (d7.pxLink n)) 6 l.length).pxReady n

/-- The standby tree that a record for sender's tree `t` on link `k` is for (R208). -/
def Dev.mirrorTree (d : Dev) (k t : Nat) : Option Nat :=
  (d.linkTrees k).find? (fun n =>
    let p := d.rdT .pxRole n PX_ROLE.PEER_TREE
    decide (p ≤ t ∧ t < p + (d.mates n).length ∧ 3 ≤ d.pxState n ∧ d.pxState n ≤ 5))

/-- A record for sender's tree `t` ended as partial, or its CRC does not fit (R201, R209). -/
def Dev.mirrorBad (d : Dev) (k t : Nat) : Dev :=
  match d.mirrorTree k t with
  | some n => d.mirrorDrop n (d.px n).dueSfc
  | none => d

/-- A whole record reaches the standby on link `k` (R208, R209): gathered until every member's record of the cycle is
there.  One of a cycle already discarded is discarded with it. -/
def Dev.mirrorIn (d : Dev) (k : Nat) (r : MirrorRec) : Dev :=
  match d.mirrorTree k r.tree with
  | none => d
  | some n =>
    let p := d.px n
    let slot := r.tree - d.rdT .pxRole n PX_ROLE.PEER_TREE
    if p.late = some r.sfc then d
    else if p.lastSfc.any (fun s => r.sfc != (s + 1) % 2 ^ 51) then d.mirrorDrop n (some r.sfc)
    else
      let d1 := if p.dueSfc.any (· != r.sfc) then d.mirrorDrop n p.dueSfc else d
      let g := (d1.px n).gathered.ins slot (some r)
      let d2 := d1.setPx n { d1.px n with gathered := g }
      if g.length < (d.mates n).length then d2
      else d2.mirrorApply n (g.filterMap (fun e => e.2.map (fun x => (n + e.1, x))))

/-- Acquisition is lost (Table PRT–6): the path difference followed is beyond what R211 accepts (DEDUCED, log 83). -/
def Dev.acqLost (d : Dev) (n : Nat) : Dev :=
  let d1 := (d.wrT .pxRole n PX_ROLE.ACQ 0).acqFail n
  if 4 ≤ d.pxState n then d1.pxNotReady n else d1

/-- The acquired path is followed frame by frame (R212): the mean arrival error moves PATH_DIFF, ARR_OFS and the frame
phase; a trim beyond ±4,096 UI restarts the framers.  `sfc` is the count of the frame that starts. -/
def Dev.pathTrack (d : Dev) (n sfc : Nat) : Dev :=
  let p := d.px n
  if !d.onT .pxRole n PX_ROLE.ACQ ∨ !d.standby n then d
  else
    let e := if p.errN = 0 then 0 else roundDiv p.errSum p.errN
    let pd := sext 32 (d.rdT .pxRole n PX_ROLE.PATH_DIFF) + e
    if d.pathBad n pd then (d.setPx n { p with errSum := 0, errN := 0 }).acqLost n
    else
      let phase := d.activePhase n - pd
      let move := (phase - d.rd (.te n 0) TE_FRAME_PHASE.PHASE_NS * 1000 + 62500000) % 125000000 - 62500000
      let trim := d.trimUi n move
      let d1 := (d.wrTs .pxRole n [(PX_ROLE.PATH_DIFF, toBits 32 pd), (PX_ROLE.ARR_OFS, toBits 32 (p.peerArr + 2 * pd))]).setPx
        n { p with errSum := 0, errN := 0 }
      if trim.natAbs ≤ 4096 * 64 then d1.setPx n { d1.px n with trim := trim }
      else d1.realign n phase (if 0 < move then sfc else (sfc + 1) % 2 ^ 51)

/-! ## Cells taken in (R200–R203, R209, R216) -/

/-- A PROTECTION cell's content is taken: the sender is the expected peer (R201). -/
def Dev.cellTake (d : Dev) (k : Nat) (b : List Byte) : Dev :=
  let epoch := bytesAt b 2 2
  if bytesAt b 0 2 % 1024 ≠ d.rd (.pxl k) PX_PEER_CFG.PEER_ID then d.cnt (.pxLinkCnt k) 11
  else
    let l := d.lnk k
    let old := d.rd (.pxl k) PX_LINK_STAT.PEER_EPOCH
    let d1 := (d.wrs (.pxl k) [(PX_LINK_STAT.SILENT, 0), (PX_LINK_STAT.PEER_EPOCH, epoch)]).setLnk k
      { l with cellAt := d.now, peerEpochSeen := true }
    let d2 := if l.peerEpochSeen && epoch != old then d1.peerReset k else d1
    (d2.cellTrees k b).pxEval k

/-- A TIME cell's content (R203): its timebase is to be echoed; its own echo gives the round trip, half of which is the
one-way delay in picoseconds. -/
def Dev.timeTake (d : Dev) (k : Nat) (b : List Byte) : Dev :=
  let d1 := d.setLnk k { d.lnk k with echo := some (bytesAt b 0 8, d.timebase) }
  if b.length < 24 then d1
  else d1.wr (.pxl k) PX_LINK_DELAY.ONE_WAY
    ((d.timebase + 2 * 2 ^ 64 - bytesAt b 8 8 - bytesAt b 16 8) % 2 ^ 64 * 1000 / 128)

/-- A host-to-host message has arrived whole (R216): its first two bytes are its sender's epoch. -/
def Dev.msgTake (d : Dev) (k id : Nat) (b : List Byte) : Dev :=
  let l := d.lnk k
  let m : RxMsg := { cls := 6, reason := 0, source := k, ts := none, epoch := bytesAt b 0 2, bytes := b.drop 2 }
  ((d.setLnk k { l with heldRx := l.heldRx ++ [(id, m)] }).cnt (.pxLinkCnt k) 9).rxRetry 0

/-- What gathering does with a cell of a record or message (R201): `ended` is what a cell out of order, or a new first cell,
leaves as partial; `now` what is gathered with this cell; `lost` a cell without its beginning. -/
structure CellJoin where
  ended : Option (Nat × List Byte)
  now : Option (Nat × List Byte)
  lost : Bool

/-- Gather a cell: `part` is what was gathered, `next` the sequence number due, `tag` what a first cell begins. -/
def cellJoin (part : Option (Nat × List Byte)) (next : Option Nat) (first : Bool) (seq tag : Nat) (b : List Byte) : CellJoin :=
  let gap := match next with
    | some s => s != seq
    | none => !first
  if first then { ended := part, now := some (tag, b), lost := false }
  else if gap then { ended := part, now := none, lost := part.isNone || part.any (fun e => e.1 != tag) }
  else { ended := none, now := part.map (fun e => (e.1, e.2 ++ b)), lost := false }

/-- A MIRROR cell (R201, R209). -/
def Dev.mirrorCell (d : Dev) (k : Nat) (first last : Bool) (seq stream : Nat) (b : List Byte) : Dev :=
  let l := d.lnk k
  let j := cellJoin l.mirPart l.mirSeq first seq stream b
  let whole := if last then j.now else none
  let d1 := d.setLnk k { l with mirSeq := some ((seq + 1) % 65536), mirPart := if last then none else j.now }
  let d2 := match j.ended with
    | some e => d1.mirrorBad k e.1
    | none => d1
  let d3 := if j.lost then d2.mirrorBad k stream else d2
  match whole with
  | none => d3
  | some e =>
    match MirrorRec.ofBytes e.2 with
    | some r => d3.mirrorIn k r
    | none => d3.mirrorBad k e.1

/-- A MESSAGE cell (R201, R216): a message cut short is none.  A message goes by the sequence number of its first cell. -/
def Dev.msgCell (d : Dev) (k : Nat) (first last : Bool) (seq : Nat) (b : List Byte) : Dev :=
  let l := d.lnk k
  let j := cellJoin l.msgPart l.msgSeq first seq seq b
  let d1 := d.setLnk k { l with msgSeq := some ((seq + 1) % 65536), msgPart := if last then none else j.now }
  match (if last then j.now else none) with
  | some e => d1.msgTake k e.1 e.2
  | none => d1

/-- A cell arrives on link `k` (Table PRT–2): by its type, what it carries; a cell whose HEC does not fit, or that comes
before alignment, is discarded, and one of an unknown type discarded and counted. -/
def Dev.cellIn (k h : Nat) (payload : List Byte) (d : Dev) : Dev :=
  let r := d.cellHead k h
  let b := payload.take (bitsAt h 32 8)
  let first := hasBit h 59
  let last := hasBit h 58
  if !r.1 then r.2
  else match bitsAt h 60 4 with
    | 0 => r.2
    | 1 => r.2.cellTake k b
    | 2 => r.2.mirrorCell k first last (bitsAt h 40 16) (bitsAt h 16 16) b
    | 3 => r.2.msgCell k first last (bitsAt h 40 16) b
    | 4 => r.2.timeTake k b
    | _ => r.2.cnt (.pxLinkCnt k) 12

/-- The cells of a record or message arrive one after another. -/
def Dev.cellsIn (k : Nat) (l : List (Nat × List Byte)) (d : Dev) : Dev :=
  l.foldl (fun (x : Dev) c => Dev.cellIn k c.1 c.2 x) d

end Sys2Proof.Machine
end

