-- ==== Sys2Proof/Machine/Protection.lean ====
section
/-! DEFINITION. The commands and events of tree protection and of the Aztil links (R196–R218). -/

namespace Sys2Proof.Machine

/-! ## The hold lines (R196–R198, R218) -/

/-- The monitors of PROT_HOLD_IN[k] change: 3 µs without an edge, or an edge again.  `agree` is whether the supervisor's
own monitor shows what the protection unit's shows (R198). -/
def Dev.holdSeen (k : Nat) (edges agree : Bool) (d : Dev) : Dev :=
  let d0 := { d with sup := { d.sup with edge := d.sup.edge.put false k (edges == agree) } }
  let d1 := d0.wr (.pxl k) PX_LINK_STAT.HOLD_IN edges.toNat
  if edges then d1
  else
    let d2 := (d1.linkTrees k).foldl (fun (x : Dev) n =>
      if (x.lnk k).peerExMark.get false n then x.setPx n { x.px n with exSeen := true } else x) d1
    d2.watchAll (fun x => x.pxEval k)

/-- HOLD_GAP_DETECT. -/
def execHoldGapDetect (k : Nat) (edges agree : Bool) (s : State) : Host.Outcome State Fault Refusal :=
  s.run (.holdGapDetect k edges agree) (Dev.holdSeen k edges agree)

/-- The own hold gap has lasted 4.0 µs: the toggle resumes (R197), and the trees that were being released go on. -/
def Dev.gapEnd (k : Nat) (d : Dev) : Dev :=
  let d1 := if k = 0 then { d with sup := { d.sup with gap0 := none } } else { d with sup := { d.sup with gap1 := none } }
  d1.watchAll (fun x => x.pxEval k)

/-- HOLD_GAP_END. -/
def execHoldGapEnd (k : Nat) (s : State) : Host.Outcome State Fault Refusal := s.run (.holdGapEnd k) (Dev.gapEnd k)

/-- Hold and cell indications disagree for a tree of the link: one of the two of R196 holds without the other. -/
def Dev.holdDiffers (d : Dev) (k : Nat) : Bool :=
  (d.linkTrees k).any (fun n => d.holdQuiet k != (d.linkSilent k || d.peerCode n == 5))

/-- Hold and cell indications have disagreed for 1 ms (R218). -/
def Dev.holdFault (k : Nat) (d : Dev) : Dev :=
  if d.on (.pxl k) PX_PEER_CFG.EN && d.holdDiffers k then (d.raise (.pxl k) 2).report 49 k else d

/-- HOLD_FAULT. -/
def execHoldFault (k : Nat) (s : State) : Host.Outcome State Fault Refusal := s.run (.holdFault k) (Dev.holdFault k)

/-! ## Cells (R200–R203) -/

/-- The cell of every microsecond, and what the protection unit decides at its own pace. -/
def Dev.cellTick (k : Nat) (d : Dev) : Dev := (d.pxEval k).protCell k

/-- PROTECTION_CELL_SEND. -/
def execProtectionCellSend (k : Nat) (s : State) : Host.Outcome State Fault Refusal :=
  s.run (.protectionCellSend k) (Dev.watchAll (Dev.cellTick k))

/-- PROTECTION_CELL_RECEIVE: a cell arrives. -/
def execProtectionCellReceive (k h : Nat) (payload : List Byte) (s : State) : Host.Outcome State Fault Refusal :=
  s.run (.protectionCellReceive k h payload) (Dev.watchAll (Dev.cellIn k h payload))

/-- No valid PROTECTION cell for 8 µs (R201). -/
def Dev.silence (k : Nat) (d : Dev) : Dev :=
  if d.on (.pxl k) PX_PEER_CFG.EN && !d.linkSilent k then
    (((d.wr (.pxl k) PX_LINK_STAT.SILENT 1).cnt (.pxLinkCnt k) 4).raise (.pxl k) 1).pxEval k
  else d

/-- LINK_SILENT. -/
def execLinkSilent (k : Nat) (s : State) : Host.Outcome State Fault Refusal :=
  s.run (.linkSilent k) (Dev.watchAll (Dev.silence k))

/-- A TIME cell is due: it leaves in its turn (R202, R203). -/
def Dev.timeSend (k : Nat) (d : Dev) : Dev :=
  if d.linkOn k then (d.setLnk k { d.lnk k with timeDue := true }).cellRun k else d

/-- TIME_CELL_SEND. -/
def execTimeCellSend (k : Nat) (s : State) : Host.Outcome State Fault Refusal := s.run (.timeCellSend k) (Dev.timeSend k)

/-- TIME_CELL_RECEIVE: a cell arrives. -/
def execTimeCellReceive (k h : Nat) (payload : List Byte) (s : State) : Host.Outcome State Fault Refusal :=
  s.run (.timeCellReceive k h payload) (Dev.watchAll (Dev.cellIn k h payload))

/-! ## The mirror at the standby (R209–R211) -/

/-- MIRROR_RECORD_APPLY: the cells of a record reach the standby. -/
def execMirrorRecordApply (k : Nat) (cells : List (Nat × List Byte)) (s : State) : Host.Outcome State Fault Refusal :=
  s.run (.mirrorRecordApply k cells) (Dev.watchAll (Dev.cellsIn k cells))

/-- T + 14.0 µs: a standby to which the records due were not applied since the last deadline is not ready; they are
discarded, come or not (R209).  A record of the frame that comes from now on is too late. -/
def Dev.mirrorDeadline (n : Nat) (d : Dev) : Dev :=
  let st := d.pxState n
  let p := d.px n
  if n ≠ d.groupPort n ∨ !d.isProtected n ∨ st < 3 ∨ 5 < st then d
  else if p.applied then d.setPx n { p with applied := false, late := p.lastSfc }
  else if p.dueSfc.isSome then d.mirrorDrop n p.dueSfc
  else
    d.setPx n { p with late := if d.onT .pxRole n PX_ROLE.ACQ then some (d.sfc (d.lead n)) else p.late.map (fun s => (s + 1) % 2 ^ 51) }

/-- MIRROR_DEADLINE. -/
def execMirrorDeadline (n : Nat) (s : State) : Host.Outcome State Fault Refusal :=
  s.run (.mirrorDeadline n) (Dev.mirrorDeadline n)

/-- 1,024 frames have passed without 16 accepted bursts (R211). -/
def Dev.acqTimeout (n : Nat) (d : Dev) : Dev :=
  if n = d.groupPort n ∧ d.acquiring n ∧ (d.px n).acqWait = 0 ∧ (d.px n).acqN < 16 ∧ 1024 ≤ (d.px n).acqFrames then
    d.acqFail n else d

/-- ACQUISITION_TIMEOUT. -/
def execAcquisitionTimeout (n : Nat) (s : State) : Host.Outcome State Fault Refusal :=
  s.run (.acquisitionTimeout n) (Dev.acqTimeout n)

/-! ## Requests (R214, R215) -/

/-- A write of PX_REQ. -/
def Dev.wPxReq (v : Nat) (d : Dev) : Dev :=
  let op := PX_REQ.OP.get v
  let n := PX_REQ.TREE.get v
  let d0 := d.wrs .px0 [(PX_REQ.OP, op), (PX_REQ.TREE, n)]
  if 5 ≤ op ∨ 48 ≤ n ∨ d.rdT .pxRole n PX_ROLE.MODE ≠ 1 then (d0.wr .px0 PX_REQ.STAT 3).logErr .px0 0x201
  else (d0.wr .px0 PX_REQ.STAT 1).wrT .pxRole n PX_ROLE.REQ_LOCAL op

/-- The write of PX_REQ that places one request. -/
def Dev.pxReq (b : By) (v op : Nat) (d : Dev) : Dev :=
  d.hostF b .px0 PX_REQ.OP (PX_REQ.OP.set v op) (Dev.wPxReq (PX_REQ.OP.set v op))

/-- REQ_CLEAR. -/
def execReqClear (b : By) (v : Nat) (s : State) : Host.Outcome State Fault Refusal := s.run (.reqClear b v) (Dev.pxReq b v 0)
/-- REQ_LOCKOUT. -/
def execReqLockout (b : By) (v : Nat) (s : State) : Host.Outcome State Fault Refusal :=
  s.run (.reqLockout b v) (Dev.pxReq b v 1)
/-- REQ_FORCED. -/
def execReqForced (b : By) (v : Nat) (s : State) : Host.Outcome State Fault Refusal :=
  s.run (.reqForced b v) (Dev.pxReq b v 2)
/-- REQ_MANUAL. -/
def execReqManual (b : By) (v : Nat) (s : State) : Host.Outcome State Fault Refusal :=
  s.run (.reqManual b v) (Dev.pxReq b v 3)
/-- REQ_EXERCISE. -/
def execReqExercise (b : By) (v : Nat) (s : State) : Host.Outcome State Fault Refusal :=
  s.run (.reqExercise b v) (Dev.pxReq b v 4)

/-- 16 µs without EX_SEEN: the exercise has failed, and its request is over. -/
def Dev.exerciseLate (n : Nat) (d : Dev) : Dev :=
  if (d.px n).exAt.isSome then
    let d1 := (d.setPx n { d.px n with exAt := none }).cnt .pxCnt (n * 16 + 5)
    if d1.rdT .pxRole n PX_ROLE.REQ_LOCAL = 4 then d1.wrT .pxRole n PX_ROLE.REQ_LOCAL 0 else d1
  else d

/-- EXERCISE_TIMEOUT. -/
def execExerciseTimeout (n : Nat) (s : State) : Host.Outcome State Fault Refusal :=
  s.run (.exerciseTimeout n) (Dev.exerciseLate n)

/-- WTR_EXPIRY. -/
def execWtrExpiry (n : Nat) (s : State) : Host.Outcome State Fault Refusal := s.run (.wtrExpiry n) (fun d => d.wtrOver n)

/-- A non-home in INIT has found both indications, by silence, for START_MS (Table PRT–6). -/
def Dev.startLate (n : Nat) (d : Dev) : Dev :=
  let k := d.pxLink n
  if d.isProtected n ∧ n = d.groupPort n ∧ d.pxState n = 1 ∧ !d.isHome n ∧ d.linkSilent k ∧ d.mayTake n then
    d.pxTake n 3 else d

/-- START_TIMEOUT. -/
def execStartTimeout (n : Nat) (s : State) : Host.Outcome State Fault Refusal :=
  s.run (.startTimeout n) (Dev.watchAll (Dev.startLate n))

/-! ## PX_ROLE writes and PX_PEER_CFG (R204, R216, R217) -/

/-- The code with which a PX_ROLE entry image is refused for tree `n`; 0 accepted. -/
def Dev.roleCheck (d : Dev) (n e : Nat) : Nat :=
  let f := fun (x : Fld) => x.get e
  let r := fun (x : Fld) => d.rdT .pxRole n x
  let moves := f PX_ROLE.MODE != r PX_ROLE.MODE || f PX_ROLE.LINK != r PX_ROLE.LINK || f PX_ROLE.HOME != r PX_ROLE.HOME ||
    f PX_ROLE.PEER_TREE != r PX_ROLE.PEER_TREE
  let busy := (d.mates n).any (fun m => !d.framerOff m || !d.rxOff m)
  if 2 ≤ f PX_ROLE.MODE ∨ 48 ≤ f PX_ROLE.PEER_TREE ∨ (moves && busy) ∨
      (f PX_ROLE.MODE = 1 ∧ !d.on (.pxl (f PX_ROLE.LINK)) PX_PEER_CFG.EN) ∨ n ≠ d.groupPort n then 0x200
  else 0

/-- Take an accepted PX_ROLE entry image: a tree that becomes protected is in INIT, one that becomes unprotected loses
its control bit (R198, Table PRT–6).  Codes that this changes are sent on the links at once (R202). -/
def Dev.roleApply (d : Dev) (n e : Nat) : Dev :=
  let was := d.rdT .pxRole n PX_ROLE.MODE
  let mode := PX_ROLE.MODE.get e
  let k := d.rdT .pxRole n PX_ROLE.LINK
  let d1 := d.wrTs .pxRole n
    [(PX_ROLE.WTR_S, PX_ROLE.WTR_S.get e), (PX_ROLE.PEER_TREE, PX_ROLE.PEER_TREE.get e), (PX_ROLE.LINK, PX_ROLE.LINK.get e),
     (PX_ROLE.HOME, PX_ROLE.HOME.get e), (PX_ROLE.MODE, mode)]
  if mode = was then
    if k = PX_ROLE.LINK.get e then d1 else (d1.protCell 0).protCell 1
  else
    let d2 := ((d1.setPx n PxTree.init).setCtl n false).wrTs .pxRole n
      [(PX_ROLE.STATE, mode), (PX_ROLE.CAUSE, 0), (PX_ROLE.REQ_EFF, 0), (PX_ROLE.REQ_LOCAL, 0), (PX_ROLE.PEER_CODE, 0),
       (PX_ROLE.ACQ, 0)]
    (d2.linkTell 0).linkTell 1

/-- A write of PX_PEER_CFG of link `k`. -/
def Dev.wPeerCfg (k v : Nat) (d : Dev) : Dev :=
  let p : Page := .pxl k
  let en := PX_PEER_CFG.EN.get v
  let id := PX_PEER_CFG.PEER_ID.get v
  if ((en ≠ d.rd p PX_PEER_CFG.EN ∨ id ≠ d.rd p PX_PEER_CFG.PEER_ID) ∧ d.linkTrees k ≠ []) ∨ PX_PEER_CFG.START_MS.get v = 0 then
    d.logErr p 0x202
  else
    let d1 := d.wrs p [(PX_PEER_CFG.EN, en), (PX_PEER_CFG.PEER_ID, id), (PX_PEER_CFG.START_MS, PX_PEER_CFG.START_MS.get v)]
    let d2 := if en = 0 then
        (d1.wrs p [(PX_LINK_STAT.ALIGNED, 0), (PX_LINK_STAT.SILENT, 1)]).setLnk k (d1.lnk k).stop else d1
    if en = 1 then (List.range 4).foldl (fun (x : Dev) i => x.laneWake (80 + 4 * k + i)) d2 else d2

/-! ## The message channel (R216) -/

/-- AZTIL_MESSAGE_RECEIVE: the cells of a message arrive. -/
def execAztilMessageReceive (k : Nat) (cells : List (Nat × List Byte)) (s : State) : Host.Outcome State Fault Refusal :=
  s.run (.aztilMessageReceive k cells) (Dev.watchAll (Dev.cellsIn k cells))

/-- The peer has consumed a message, or dropped it for length: its class 5 descriptor completes (R216, R434, R435). -/
def Dev.msgAck (k id : Nat) (dropped : Bool) (d : Dev) : Dev :=
  let l := d.lnk k
  match l.unacked.find? (fun m => m.id == id) with
  | none => d
  | some m =>
    (d.setLnk k { l with unacked := l.unacked.erase m }).txComplete 0 m.ring m.idx (if dropped then 10 else 0) 0
      (d.rd (.pxl k) PX_LINK_STAT.PEER_EPOCH)

/-- AZTIL_MESSAGE_ACK. -/
def execAztilMessageAck (k id : Nat) (dropped : Bool) (s : State) : Host.Outcome State Fault Refusal :=
  s.run (.aztilMessageAck k id dropped) (Dev.msgAck k id dropped)

end Sys2Proof.Machine
end

