-- ==== Sys2Proof/Machine/Handover.lean ====
section
/-! DEFINITION. The end of a cycle and the next frame: the handover of the checked map at T − 1.5 µs with the commit, the
framer's last instant at T − 0.5 µs, and the frame start T (R16, R54–R62, R65–R73, R82, R114, R163–R168, R284, R328). -/

namespace Sys2Proof.Machine

/-! ## The map that the Hardy hands over (R162–R171) -/

/-- The Hardy hands over a map of port `m` for the cycle that ends (R33, R155, R157, R170, R171). -/
def Dev.hyHands (d : Dev) (m n : Nat) : Bool :=
  d.cycleOn n && (d.bw n).running && d.enabled (.bwt n) && d.enabled .hy0 && (d.hy m).snapped &&
    (d.hy n).damaged.isEmpty && (d.hy m).damaged.isEmpty

/-- Take what a discarded map was charged out of the tree's sums. -/
def Dev.hyUncharge (v : Dev) (n : Nat) (kept : List Grant) (s : Store Nat) : Store Nat :=
  (withFirst kept).foldl (fun (s : Store Nat) e =>
    match v.hyCharge n e.2 e.1 with
    | some (t, p) => s.put 0 t (s.get 0 t - p)
    | none => s) s

/-- The structural cause of the engine's map of a port: the first one found, or an incomplete stream; 0 none (R162). -/
def HyTree.cause (h : HyTree) : Nat := if h.bad ≠ 0 then h.bad else if h.done then 0 else 18

/-- The map that the Hardy checked as it arrived is the one it sends. -/
def Dev.hySends (d : Dev) (m n : Nat) : Bool :=
  d.hyHands m n && !(d.hy m).safe && !(d.hy m).safeReq && (d.hy m).cause == 0

/-- What the maps that are not sent were charged leaves the tenants' sums, before the maps in their place are checked
against them (R160, R184). -/
def Dev.hyDiscards (d : Dev) (n : Nat) : Dev :=
  (d.mates n).foldl (fun (x : Dev) m =>
    if x.hySends m n then x
    else x.setHy n { x.hy n with sums := (x.hyView m).hyUncharge n (x.hy m).kept (x.hy n).sums }) d

/-- The safe map of port `m`: checked like any map, empty when what is kept of it does not fit, which is an event as well
(R167, R168).  A member out of service gets no grant (R190). -/
def Dev.hySafe (d : Dev) (m n : Nat) : List Grant × Dev :=
  let d1 := d.setHy m { d.hy m with e := 0, kept := [], foot := 0, burstEnd := none, burstCut := false, removed := 0, bad := 0 }
  let l := if d.inService m then (d.hy m).safeMap else []
  let d2 := (l.foldl (fun (x : Dev) g => x.hyGrant m g) d1).hyWhole m
  if (d2.hy m).bad = 0 then ((d2.hy m).kept, d2)
  else
    ([], (d2.setHy n { d2.hy n with sums := (d2.hyView m).hyUncharge n (d2.hy m).kept (d2.hy n).sums }).report 33 m
      (d2.hy m).bad)

/-- The fallback map of port `m`, held once more against the tenants' sums over the maps of the group (R163, R184). -/
def Dev.hyFallback (d : Dev) (m n : Nat) : List Grant × Dev :=
  let r := (d.hyView m).hyFilter m n (d.blocks m) false { d.hy m with sums := (d.hy n).sums } (d.hy m).fallback
  (r.kept, d.setHy n { d.hy n with sums := r.sums })

/-- The map of port `m` for this handover, with what choosing it counts, logs, raises and reports. -/
def Dev.hyChoose (d : Dev) (m n : Nat) : Option GMap × Dev :=
  if !d.hyHands m n then (none, if d.cycleOn n then d.cnt .hyCnt (m * 16 + 5) else d)
  else
    let h := d.hy m
    let c := h.cause
    let d0 := if h.done then d.cnt .hyCnt (m * 16) else d
    let d1 := if h.safe || c == 0 then d0 else (if h.bad = 0 then d0.viol m (Viol.plain 18) else d0).report 33 m c
    let d2 := if h.safeReq && !h.safe then (d1.viol m (Viol.plain 24)).raise .hy0 2 else d1
    let safe := h.safe || h.safeReq
    let d3 := d2.setHy m { d2.hy m with safe := safe, safeReq := false }
    if safe then
      let r := d3.hySafe m n
      (some ⟨r.1, true⟩, r.2.cnt .hyCnt (m * 16 + 4))
    else if c ≠ 0 then
      let r := d3.hyFallback m n
      (some ⟨r.1, true⟩, (r.2.cnt .hyCnt (m * 16 + 3)).raise .hy0 1)
    else (some ⟨h.kept, false⟩, d3.cnt .hyCnt (m * 16 + (if h.removed = 0 then 1 else 2)))

/-! ## BW_MAP_MIRROR (R153) -/

/-- The mirror of port `m` shows a map handed over for count `sfc`, all of it at once; nothing changes while frozen. -/
def Dev.mapMirror (d : Dev) (m sfc : Nat) (g : GMap) : Dev :=
  if d.on (.bwt m) BW_MIRROR_CTRL.FREEZE then d
  else
    let t := Tbl.bwMapMirror m
    let d1 : Dev := { d with tbls := d.tbls.keep (fun k => k / 536870912 != t.num) }
    let d2 := g.grants.zipIdx.foldl (fun (x : Dev) e => x.wrTs t e.2
      [(BW_MAP_MIRROR.WIRE_ID, e.1.wireId), (BW_MAP_MIRROR.START, e.1.start), (BW_MAP_MIRROR.SIZE, e.1.size),
       (BW_MAP_MIRROR.PROF_IDX, e.1.prof), (BW_MAP_MIRROR.DBRU, e.1.dbru.toNat),
       (BW_MAP_MIRROR.PLOAMU, e.1.ploamu.toNat), (BW_MAP_MIRROR.SEQ, e.1.seq.toNat),
       (BW_MAP_MIRROR.SUBST, g.subst.toNat)]) d1
    d2.wrs (.bwt m) [(BW_TREE_STAT.ENTRIES, g.grants.length), (BW_MIRROR_SFC_LO.SFC, sfc),
      (BW_MIRROR_SFC_HI.SFC, sfc / 2 ^ 32)]

/-! ## The handover (R16, R114, R166) -/

/-- Probes that this frame's map was to carry and does not are to be issued again (R185); those carried are counted. -/
def Dev.probesBack (d : Dev) (m n : Nat) (l : List Grant) : Dev :=
  match d.groupOf m with
  | none => d
  | some g =>
    ((d.bw m).pinned.filter (fun x => x.kind == 4)).foldl (fun (x : Dev) p =>
      if l.contains p then x.cnt .bdCnt (g * 16 + 8)
      else
        let b := x.mem g (m - n)
        x.setMem g (m - n) { b with flying := b.flying.erase p.onu, probes := insertNat p.onu b.probes }) d

/-- The Hardy hands port `m`'s map to the framer; one that comes after the framer's last instant is discarded (R61). -/
def Dev.handPort (d : Dev) (m n : Nat) (g : Option GMap) : Dev :=
  let h := d.hy m
  let d1 := d.setHy m { h with prev := g.map GMap.grants, snapped := false }
  let d2 := d1.probesBack m n (match g with | some x => x.grants | none => [])
  match g with
  | none => d2
  | some x =>
    let f := d2.fr m
    let d3 := if f.next.isSome then d2 else d2.setFr m { f with handed := some x, rxCfg := some (d2.rxCfgNow m) }
    (d3.mapMirror m (d.nextSfc m) x).cnt (.teRngCnt n) 4 (x.grants.filter (fun y => y.kind == 2)).length

/-- The maps sent enter the engine's history, and its cycle ends (R140, R151, R166). -/
def Dev.cycleEnd (d : Dev) (n : Nat) (maps : List GMap) : Dev :=
  let b := d.bw n
  let pay := maps.foldl (fun s g => payloads g.grants s) []
  let got := maps.flatMap (fun g => (g.grants.filter Grant.ploamu).map Grant.onu)
  let pl := (d.onusIn n 3).foldl (fun (s : Store Nat) j => s.put 0 j (s.get 0 j + 1)) b.ploamu
  let pl2 := got.foldl (fun (s : Store Nat) j => s.put 0 j 0) pl
  let hist := if maps.isEmpty then b.hist else ((d.nextSfc (d.lead n), pay) :: b.hist).take 16
  let d1 := d.setBw n { b with hist := hist, ploamu := pl2, running := false,
                               takeover := if b.running then b.takeover - 1 else b.takeover }
  if b.running then d1.cnt (.bwTreeCnt n) 0 else d1

/-- Eight cycles in a row without a map give up an active tree (Table PRT–7). -/
def Dev.noMaps (d : Dev) (n : Nat) (sent : Bool) : Dev :=
  if !d.isProtected n || d.pxState n != 2 then d
  else
    let k := if sent then 0 else (d.px n).noMap + 1
    let d1 := d.setPx n { d.px n with noMap := k }
    if 8 ≤ k then d1.giveUp n 4 else d1

/-- The handover instant of the tree of group port `n`: maps, commit, members, mirror, requests.  A group whose
acting lead has stopped commits its members' transitions, so that another leads. -/
def Dev.handover (n : Nat) (d : Dev) : Dev :=
  if n ≠ d.groupPort n then d
  else if d.rd (.te (d.lead n) 0) TE_TX_STAT.FSTATE = 0 then
    match d.groupOf n with
    | some g => d.memberCommit g
    | none => d
  else
    let r := (d.mates n).foldl (fun (acc : List (Nat × Option GMap) × Dev) m =>
      let c := acc.2.hyChoose m n
      (acc.1 ++ [(m, c.1)], c.2)) ([], d.hyDiscards n)
    let maps := r.1.filterMap Prod.snd
    let d1 := r.1.foldl (fun (x : Dev) e => x.handPort e.1 n e.2) r.2
    let on := d.cycleOn n
    let d2 := if on then d1.cycleEnd n maps else d1
    let d3 := if d.sending (d.lead n) then
        (d.mates n).foldl (fun (x : Dev) m => x.commit m (d.nextSfc (d.lead n))) d2
      else d2
    let d4 := match d.groupOf n with
      | some g => if d.sending (d.lead n) then (d3.memberJudge g).memberCommit g else d3
      | none => d3
    let d5 := r.1.foldl (fun (x : Dev) e => x.mirrorSend e.1 (d.nextSfc e.1) (e.2.getD ⟨[], false⟩)) d4
    let d6 := if d.isProtected n then d5.reqSample n else d5
    d6.noMaps n (!maps.isEmpty)

/-- MAP_HANDOVER. -/
def execMapHandover (n : Nat) (s : State) : Host.Outcome State Fault Refusal := s.run (.mapHandover n) (Dev.handover n)

/-! ## The framer's last instant (R61, R65, R66, R408) -/

/-- The messages picked for a frame, and what stays of the sequencer's and of the host's queue: sequencer messages first;
one slot of at least two goes to a host message that waits. -/
def pickPloam (p : Nat) (sq hq : List Ploam) : List Ploam × List Ploam × List Ploam :=
  let k := if 2 ≤ p ∧ hq ≠ [] then max 1 (p - sq.length) else p - sq.length
  let h := hq.take k
  let s := sq.take (p - h.length)
  (s ++ h, sq.drop s.length, hq.drop h.length)

/-- The type byte of a downstream message. -/
def ploamType : DsPloamType → Nat
  | .burstProfile => Config.ploamCode 0 | .assignOnuId => Config.ploamCode 1 | .rangingTime => Config.ploamCode 2
  | .deactivateOnuId => Config.ploamCode 3 | .disableSerialNumber => Config.ploamCode 4
  | .channelProfile => Config.ploamCode 5 | .tuningControl => Config.ploamCode 6
  | .adjustTxWavelength => Config.ploamCode 7 | .calibrationRequest => Config.ploamCode 8
  | .other c => c

/-- The 40 bytes over which the integrity code of a message runs (R64, R65). -/
def Ploam.bytes (m : Ploam) (seq : Nat) : List Byte :=
  beBytes 2 m.onu ++ beBytes 1 (ploamType m.type) ++ beBytes 1 seq ++ (m.body ++ List.replicate 36 0#8).take 36

/-- The number that a message gets: from its ONU's counter, or from the tree's for a broadcast (R65). -/
def Dev.ploamSeq (d : Dev) (n : Nat) (m : Ploam) : Nat × Dev :=
  if m.onu < 256 then (d.rdT (.teOnu n) m.onu TE_ONU.PLOAM_SEQ, d.addT (.teOnu n) m.onu TE_ONU.PLOAM_SEQ)
  else
    let k := d.lead n
    let f := d.fr k
    (f.bcastSeq, d.setFr k { f with bcastSeq := (f.bcastSeq + 1) % 256 })

/-- The sequencer notes which sequence numbers of an ONU its own messages took, and those of Ranging_Time (R63, R65).  The
acknowledgement of a host message to one ONU is awaited until it comes or the ONU changes state (R137; DESIGN CHOICE,
log 73). -/
def Dev.ploamNote (d : Dev) (n : Nat) (m : Ploam) (seq : Nat) : Dev :=
  if 256 ≤ m.onu then d
  else
    let k := m.onu * 256 + seq
    let d1 := d.setSq n { d.sq n with
      own := (d.sq n).own.put false k (!m.host),
      awaits := (d.sq n).awaits.filter (· != k) ++ (if m.host then [k] else []) }
    match (if m.type = .rangingTime then d1.rng n m.onu else none) with
    | some r => d1.setRng n m.onu { r with seqs := r.seqs ++ [seq] }
    | none => d1

/-- Freeze one message for the next frame: its number, its integrity code, and the completion of its descriptor. -/
def Dev.ploamFreeze (n : Nat) (acc : List (Ploam × Nat × Nat) × Dev) (m : Ploam) : List (Ploam × Nat × Nat) × Dev :=
  let q := acc.2.ploamSeq n m
  let r := (q.1, q.2.ploamNote n m q.1)
  let c := r.2.ploamCtx n m.onu
  let d1 := r.2.useMgmt c 40
  let d2 := match m.ring with
    | some (q, i) => d1.txEnd 0 q i 0 r.1
    | none => d1
  (acc.1 ++ [(m, r.1, d1.ploamMic c (m.bytes r.1))], d2)

/-- A frame follows the one on the line. -/
def Dev.frameComes (d : Dev) (m : Nat) : Bool :=
  match d.rd (.te m 0) TE_TX_STAT.FSTATE with
  | 1 => true
  | 2 => true
  | 3 => (d.fr m).oweRem
  | _ => false

/-- Whether a message stays in the queue while the sequencer holds (R126): its own do, an indication of the bonding unit
(R193) does not. -/
def Dev.ploamHeld (d : Dev) (n : Nat) (m : Ploam) : Bool :=
  !d.takes (.te n 2) && (match m.type with | .other _ => false | _ => true)

/-- T − 0.5 µs of port `m`: the map handed over, unless its CRC fails, or the empty map; then the messages.  On a group the
rule of the missing map holds for each member map: that of a member in service, and of the acting lead (R182, R184;
DEDUCED, log 47). -/
def Dev.deadline (m : Nat) (badCrc : Bool) (d : Dev) : Dev :=
  if !d.frameComes m || !d.live (.te m 0) then d
  else
    let n := d.groupPort m
    let f := d.fr m
    let bad := f.handed.isSome && badCrc
    let d1 := if bad then d.report 30 m else d
    let map := if bad then none else f.handed
    let d2 := if map.isNone && (d.inService m || m == d.lead m) then ((d1.raise (.te m 0) 0).cnt (.teDsCnt m) 9).report 31 m else d1
    let held := f.seqQ.filter (d.ploamHeld n)
    let p := pickPloam (d.rd (.te m 0) TE_TX_CTRL.PLOAM_MAX) (f.seqQ.filter (fun x => !d.ploamHeld n x)) f.hostQ
    let d3 := d2.setFr m { f with handed := none, seqQ := held ++ p.2.1, hostQ := p.2.2 }
    let r := p.1.foldl (Dev.ploamFreeze n) ([], d3)
    r.2.setFr m { r.2.fr m with next := some (map.getD ⟨[], false⟩, r.1) }

/-- MAP_DEADLINE. -/
def execMapDeadline (n : Nat) (badCrc : Bool) (s : State) : Host.Outcome State Fault Refusal :=
  s.run (.mapDeadline n badCrc) (Dev.deadline n badCrc)

/-! ## The frame start (R54–R58, R67–R73, R82–R86, R284) -/

/-- Place ready frames until the field is full or none waits. -/
def Dev.placeAllReady (n : Nat) : Nat → Dev → Dev
  | 0, d => d
  | k + 1, d => if (d.fr n).ready.isEmpty || (d.fr n).room == 0 then d else Dev.placeAllReady n k (d.place n)

/-- The field of the frame that ends is filled up: with what waits, then with idle frames (R69, R70).  What could not be
placed returns to the hold, as its counter block was that of this frame (R282). -/
def Dev.closeField (d : Dev) (n : Nat) : Dev :=
  if !d.sending n then d
  else
    let d1 := if d.fieldOpen n then Dev.placeAllReady n ((d.fr n).ready.length + 1) d else d
    (d1.idleFill n (d1.fr n).room).giveBack n

/-- Cut every packet that waits in a group (R283). -/
def Dev.cutAll (g : Nat) : Nat → Dev → Dev
  | 0, d => d
  | k + 1, d => if (d.path.cx.cut.get [] g).isEmpty then d else Dev.cutAll g k (d.distribute g)

/-- Trace what became of the slots pre-armed for this frame (R82, R83). -/
def Dev.preSettle (d : Dev) (m sfc : Nat) (car : List (List Grant)) : Dev :=
  let size := fun (l : List Grant) => l.foldl (fun s g => s + g.size) 0
  let pre := (d.rx m).pre
  let newB := car.filter (fun gs => !pre.any (fun s => s.grants == gs))
  let old := pre.filter (fun s => !car.contains s.grants)
  let r := newB.foldl (fun (acc : List Slot × Dev) gs =>
    match gs with
    | [] => acc
    | g :: _ =>
      match acc.1.find? (fun s => s.onu == g.onu) with
      | none => acc
      | some s => (acc.1.erase s, acc.2.trace m sfc 5 g (size gs) (size s.grants))) (old, d)
  let d1 := r.1.foldl (fun (x : Dev) s =>
    match s.grants with
    | g :: _ => x.trace m sfc 6 g (size s.grants) 0
    | [] => x) r.2
  d1.setRx m { d1.rx m with pre := [] }

/-- The receiver arms from the map that the frame carries; a standby's is armed from the mirrored record (R82, R86). -/
def Dev.armFrame (d : Dev) (m sfc : Nat) (map : GMap) : Dev :=
  let cfg := (d.fr m).rxCfg.getD (d.rxCfgNow m)
  let d0 := d.rxAdvance m
  let d1 := d0.setRx m { d0.rx m with cfg := some cfg }
  let d2 := d1.preSettle m sfc (bursts map.grants)
  if d.standby (d.groupPort m) then d2 else d2.armMap m sfc cfg map.grants

/-- The ToD stamp (R71): the module time at which the frame with the target count starts. -/
def Dev.todStamp (d : Dev) (n sfc : Nat) : Dev :=
  if d.on (.te n 0) TE_TOD_CTRL.ARM && d.todTarget n == sfc then
    (d.wrs (.te n 0)
      [(TE_TOD_STAMP0.SEC_LO, d.time.sec), (TE_TOD_STAMP1.SEC_HI, d.time.sec / 2 ^ 32),
       (TE_TOD_STAMP1.FRAC, d.time.frac / 65536), (TE_TOD_STAMP2.NS, d.time.ns), (TE_TOD_CTRL.ARM, 0),
       (TE_TOD_CTRL.DONE, 1)]).raise (.te n 0) 3
  else d

/-- The rest of a fragmented frame goes out as the frame's last part, and its buffer is released. -/
def Dev.restOut (d : Dev) (n : Nat) (x : Xgem) (payload : List Byte) : Dev :=
  ((d.xgemOut n x true payload).cnt (.teDsCnt n) 2).xgemFree x

/-- The field idles in place of a rest that no key may encrypt (R287, R289, R409; DEDUCED). -/
def Dev.restIdle (d : Dev) (n : Nat) (x : Xgem) : Dev :=
  (d.idleFill n (min (xgemBytes x.rest.length) (d.fr n).room)).report 29 n

/-- The rest of a fragmented frame opens the field (R68).  What is still in clear is encrypted at its own position, after
the same checks as any frame (R281, R285, R289). -/
def Dev.sendRest (d : Dev) (n : Nat) : Dev :=
  let f := d.fr n
  match f.rem with
  | none => d
  | some x =>
    let d1 := d.setFr n { f with rem := none }
    match (if x.rest = [] then none else x.item) with
    | none => d1.restOut n x x.payload
    | some i =>
      match (if d.standby n then none else d1.dsKey (d1.flowPair i.flow)) with
      | none => (d1.restIdle n x).xgemFree x
      | some c =>
        if !d1.keyTagOk i.flow c false then
          ((d1.restIdle n x).keyTagFail n i.flow c false).toTub
            { handle := i.handle, slot := i.tag, expected := d.flowKeyTag i.flow, found := d.ctxTag c, reason := 4,
              acct := d.acctFor (.flow i.flow) }
        else if d1.sfc n < d1.rdT .cxKey c CX_KEY.HWM_SFC then ((d1.restIdle n x).freeze c 2).xgemFree x
        else
          let bytes := x.payload ++ d1.treeCipher n c x.rest
          ((d1.wrT .cxKey c CX_KEY.HWM_SFC (d1.sfc n)).useKey c (xgemBlocks x.rest.length)).restOut n
            { x with keyIdx := c % 2 + 1 } bytes

/-- The announcements of this frame go first after a remainder; one whose frame has come and gone, or carries idle
payload alone, is late (R72, R70, R73). -/
def Dev.sendAnn (d : Dev) (n sfc : Nat) (idle : Bool) : Dev :=
  let f := d.fr n
  let now := f.ann.filter (fun a => a.sendSfc ≤ sfc)
  now.foldl (fun (x : Dev) a =>
    if a.sendSfc < sfc || idle then (x.cnt (.teDsCnt n) 10).raise (.te n 0) 4
    else (x.xgemOut n a.frame true a.frame.payload).cnt (.teDsCnt n) 2)
    (d.setFr n { f with ann := f.ann.filter (fun a => sfc < a.sendSfc) })

/-- The template of an announcement with its fields written (R328). -/
def Dev.annBytes (d : Dev) (i sfc : Nat) : List Byte :=
  let r := fun f => d.rdT .tmAnn i f
  let raw := (beBytes 40 (r TM_ANN.TPL)).take (r TM_ANN.LEN)
  let b1 := if r TM_ANN.SFC_EN = 1 then splice raw (r TM_ANN.SFC_OFS) (beBytes 8 (r TM_ANN.TARGET_SFC)) else raw
  let frames : Int := (r TM_ANN.TARGET_SFC : Int) - sfc
  let ps := sext 32 (r TM_ANN.OFS_PS)
  let t := TimeVal.ofInt ((d.time.toNat : Int) + frames * 125000 * 2 ^ 32 + ps * 2 ^ 32 / 1000)
  if r TM_ANN.TOD_EN = 1 then splice b1 (r TM_ANN.TOD_OFS) (tod10 t) else b1

/-- Build the announcement of a slot at the start of the frame before the one that carries it (R328). -/
def Dev.annBuild (d : Dev) (n sfc i : Nat) : Dev :=
  let r := fun f => d.rdT .tmAnn i f
  if r TM_ANN.ARM = 0 ∨ r TM_ANN.SEND_SFC ≠ sfc + 1 then d
  else
    let b := d.annBytes i sfc
    let d0 := d.wrTs .tmAnn i [(TM_ANN.ARM, 0), (TM_ANN.DONE, 1)]
    let g := n * 256 + r TM_ANN.ONU
    let done := fun (x : Dev) (l : List Byte) =>
      let lab := x.label n (r TM_ANN.ONU)
      let x := lab.2
      let fr : Xgem := { port := r TM_ANN.XGEM_PORT, keyIdx := 0, options := lab.1, cipher := false, done := false,
                         payload := l, rest := [], item := none }
      let x1 : Dev := { x with te := { x.te with anns := x.te.anns ++ [(x.lead n, ⟨i, sfc + 1, fr⟩)] } }
      ((x1.setTm { x1.tm with built := x1.tm.built ++ [(i, r TM_ANN.TARGET_SFC)] }).cnt .tmCnt 261).raise (.tm 2) 0
    if r TM_ANN.OMCI = 0 then done d0 b
    else
      match (if d.onT .cxOnuKeys g CX_ONU_KEYS.OMCI_V then d.pathUnit else none) with
      | none => (d0.wrT .tmAnn i TM_ANN.FAIL 1).raise (.tm 2) 2
      | some u =>
        let body := b ++ d.omciMic g b
        let t := (d0.useMgmt (some (d.rdT .cxOnuKeys g CX_ONU_KEYS.OMCI_IK)) b.length).trailer u body
        done t.2 (body ++ beBytes 4 t.1)

/-- What happens once per tree at the frame start of its acting lead: the downstream keys, announcements, the group's
FRAG_MAX, the protection unit's frame. -/
def Dev.treeFrame (d : Dev) (n sfc : Nat) : Dev :=
  let d1 := d.keySwitch n sfc
  let d2 := d1.setTm { d1.tm with built := d1.tm.built.filter (fun e => e.1 / 8 != n || decide (sfc < e.2)) }
  let d3 := (List.range 8).foldl (fun (x : Dev) k => x.annBuild n sfc (n * 8 + k)) d2
  let d4 := match d3.groupOf n with
    | some g => d3.setBd g { d3.bd g with frag := d3.rdT .bdGroup g BD_GROUP.FRAG_MAX }
    | none => d3
  if d4.isProtected n then
    (d4.setPx n { d4.px n with frames := (d4.px n).frames + 1, acqWait := (d4.px n).acqWait - 1 }).pathTrack n sfc
  else d4

/-- The head of a frame (R54): the line mode's PSync, count and operation-control body each with its HEC, and HLend. -/
def Dev.dsHead (d : Dev) (n sfc oc entries ploams : Nat) : DsHead :=
  { psync := Config.psync (d.rd (.te n 0) TE_MODE.LINE_MODE) % 2 ^ 64, sfc := withHec 51 sfc, oc := withHec 51 oc,
    hlend := withHec 19 (entries * 256 + ploams) }

/-- The map of a frame as its field carries it: in XGS in words of 4 bytes, in the HS modes in blocks (R136). -/
def Dev.wireMap (d : Dev) (n : Nat) (map : GMap) : List MapEntry :=
  let k := if d.rd (.te n 0) TE_MODE.LINE_MODE = 0 then 4 else 1
  map.grants.map (fun g => { g.entry map.subst with start := g.start * k, size := g.size * k })

/-- A frame of count `sfc` starts on port `n`. -/
def Dev.startFrame (d : Dev) (n sfc : Nat) : Dev :=
  let f := d.fr n
  let nx := f.next.getD (⟨[], false⟩, [])
  let map := nx.1
  let oc := f.ocPend.getD f.oc
  let room := d.frameBytes n - (4 + 8 * map.grants.length + 48 * nx.2.length)
  let dark := !(d.keyA n && d.keyB n)
  let d1 := (d.setSfc n sfc).armFrame n sfc map
  let d2 := (d1.setFr n { d1.fr n with oc := oc, ocPend := none, next := none, carried := map, room := room }).emit
    (.dsFrame n sfc oc (d.dsHead n sfc oc map.grants.length nx.2.length) (d.wireMap n map) nx.2)
  let host := (nx.2.filter (fun e => e.1.ring.isSome)).length
  let d3 := ((((d2.cnt (.teDsCnt n) 0).cnt (.teDsCnt n) 1 dark.toNat).cnt (.teDsCnt n) 5 (nx.2.length - host)).cnt
    (.teDsCnt n) 6 host).pm 1 n
  let d4 := d3.wr (.te n 0) TE_TX_STAT.MAP_SUBST map.subst.toNat
  let d5 := if map.subst then (d4.cnt (.teDsCnt n) 8).raise (.te n 0) 1 else d4
  let d6 := d5.todStamp n sfc
  let d7 := if n = d.lead n then d6.treeFrame (d.groupPort n) sfc else d6
  let idle := d7.on (.te n 0) PAGE_CTRL.QUIESCE_REQ || d7.rd (.te n 0) TE_TX_STAT.FSTATE == 3
  (d7.sendRest n).sendAnn n sfc idle

/-- The framer goes to DISABLED at the end of STOPPING (Table DSF–4); a framer that may run again aligns.  What the tree
decided and had not committed is committed, as no handover instant is left (R114). -/
def Dev.framerEnd (d : Dev) (n : Nat) : Dev :=
  let d1 := (d.framerOffNow n).framerKick n
  let d2 := d1.commitNow (d1.groupPort n)
  match d2.groupOf n with
  | some g => d2.memberNow g
  | none => d2

/-- The frame start instant of port `n` (R56). -/
def Dev.frameStart (n : Nat) (d : Dev) : Dev :=
  if !d.live (.te n 0) then d
  else
    let d0 := match d.groupOf n with
      | some g => Dev.cutAll g ((d.path.cx.cut.get [] g).length + 1) d
      | none => d
    let d1 := d0.closeField n
    match d.rd (.te n 0) TE_TX_STAT.FSTATE with
    | 0 => d
    | 1 =>
      let sfc := d.rd (.te n 0) TE_SFC_INIT_LO.INIT_LO + 2 ^ 32 * d.rd (.te n 0) TE_SFC_INIT_HI.INIT_HI
      (d1.wr (.te n 0) TE_TX_STAT.FSTATE 2).startFrame n sfc
    | 2 => d1.startFrame n ((d.sfc n + 1) % 2 ^ 51)
    | _ =>
      if (d1.fr n).oweRem then
        (d1.setFr n { d1.fr n with oweRem := false, extra := true }).startFrame n ((d.sfc n + 1) % 2 ^ 51)
      else d1.watch [n] (fun x => x.framerEnd n)

/-- FRAME_START. -/
def execFrameStart (n : Nat) (s : State) : Host.Outcome State Fault Refusal := s.run (.frameStart n) (Dev.frameStart n)

end Sys2Proof.Machine
end

