-- ==== Sys2Proof/Machine/Clocks.lean ====
section
/-! DEFINITION. Clock generation (R355–R376): sources, loops, domains, switching, gating, clock failure, and the release
of domains that wait for CLK_GOOD (R387). -/

namespace Sys2Proof.Machine

/-! ## Sources and loops (Table CLK–1, Table CLK–2) -/

/-- The loop that delivers a source code. -/
def srcLoop (c : Nat) : Option Nat :=
  if c = 16 ∨ c = 17 then some 0
  else if 18 ≤ c ∧ c ≤ 22 then some (c - 17)
  else if 24 ≤ c ∧ c ≤ 29 then some (c - 18)
  else if 30 ≤ c ∧ c ≤ 33 then some (c - 18)
  else if c = 34 then some 16
  else none

/-- Nominal frequency of a source in Hz; 0 where the code names none. -/
def srcHz (c : Nat) : Nat :=
  if c = 0 then 200000000 else if c = 1 then 32000 else if c = 2 then 50000000 else if c = 3 then 32768
  else if c = 4 then 25000000 else if c = 16 then 155520000 else if c = 17 ∨ c = 18 then 500000000
  else if c = 19 then 400000000 else if c = 20 then 1100000000 else if c = 21 then 1200000000
  else if c = 22 then 1000000000 else if 24 ≤ c ∧ c ≤ 29 then 777600000
  else if 30 ≤ c ∧ c ≤ 34 then 830078125 else 0

/-- Loop frequency in kHz of a loop that counts exactly against its own reference XTAL_A; `none` for REFL and the PON
loops, which follow REFCLK when one is detected (R356, Table CLK–7). -/
def loopKhz (i : Nat) : Option Nat :=
  if i = 1 then some 500000 else if i = 2 then some 400000 else if i = 3 then some 1100000
  else if i = 4 then some 4800000 else if i = 5 then some 16000000 else if 12 ≤ i then some 26562500 else none

/-- The source in use by a domain. -/
def Dev.curSrc (d : Dev) (k : Nat) : Nat := d.rdT .ckDomainCtrl k CK_DOMAIN_CTRL.CUR_SRC

/-- The loop of a domain's source. -/
def Dev.domLoop (d : Dev) (k : Nat) : Option Nat := srcLoop (d.curSrc k)

/-- State of REFL (Table CLK–3). -/
def Dev.refl (d : Dev) : Nat := d.rd .ck CK_STAT.REFL_STATE

/-- A source can be switched to: it has not failed, and a loop is locked (R364). -/
def Dev.srcGood (d : Dev) (c : Nat) : Bool :=
  if c = 0 then !d.clk.foscFailed
  else if c = 1 then d.on .ck CK_STAT.SOSC_OK
  else if c = 2 then d.on .ck CK_STAT.XTAL_A_OK
  else if c = 3 then d.on .ck CK_STAT.XTAL_B_OK
  else if c = 4 then d.on .ck CK_STAT.REF
  else match srcLoop c with
    | some i => d.onT .ckLoop i CK_LOOP.LOCKED
    | none => false

/-- A loop locks: LOCKED, and its frequency counted against XTAL_A.  A loop that follows REFCLK counts a value that the
spec does not give (log 1). -/
def Dev.loopLock (d : Dev) (i : Nat) : Dev :=
  let d1 := d.wrTs .ckLoop i [(CK_LOOP.LOCKED, 1), (CK_LOOP.FAILED, 0)]
  match loopKhz i with
  | some f => d1.wrT .ckLoop i CK_LOOP.FREQ_KHZ f
  | none => (d1.wrT .ckLoop i CK_LOOP.FREQ_KHZ d1.free).freed

/-- The loops whose lock a domain's CLK_GOOD shows: its own, and REFL for a PON loop while REFL does not acquire or hold
(R357, Table CLK–2). -/
def Dev.goodLoops (d : Dev) (k : Nat) : List Nat :=
  match d.domLoop k with
  | some i => if 6 ≤ i ∧ i < 12 ∧ (d.refl = 0 ∨ d.refl = 2) then [0, i] else [i]
  | none => []

/-! ## Release (R386, R387) -/

/-- Release the domains of a step in order, up to the first that lacks CLK_GOOD, for which REL_PEND_CLK and PEND_DOMAIN
show; when none is left the step is complete, and after step 7 the sequence ends. -/
def Dev.relRun : List Nat → Dev → Dev
  | [], d =>
    let ph := d.rd .rs RS_STAT.PHASE + 1
    let d1 := d.wrs .rs [(RS_STAT.PHASE, ph), (RS_STAT.REL_PEND_CLK, 0), (RS_STAT.PEND_DOMAIN, 0)]
    { d1 with pwr := { d1.pwr with relQ := [], scope := if ph = 7 then 0 else d1.pwr.scope } }
  | k :: t, d =>
    if d.mayRelease k then Dev.relRun t (d.releaseDom k)
    else
      { d.wrs .rs [(RS_STAT.REL_PEND_CLK, 1), (RS_STAT.PEND_DOMAIN, k)] with pwr := { d.pwr with relQ := k :: t } }

/-- What waits for a domain's CLK_GOOD takes effect: the release sequence, or the release of a domain that was reset or
held alone. -/
def Dev.relWake (d : Dev) (k : Nat) : Dev :=
  if d.pwr.scope ≠ 0 then
    match d.pwr.relQ with
    | [] => d
    | x :: t => if x = k then Dev.relRun (x :: t) d else d
  else if !(d.dom k).released && !(d.dom k).held && !(d.dom k).inRst then
    let d1 := d.releaseDom k
    if d1.rd .rs RS_STAT.PEND_DOMAIN = k then
      d1.wrs .rs [(RS_STAT.REL_PEND_CLK, 0), (RS_STAT.PEND_DOMAIN, 0)]
    else d1
  else d

/-! ## CLK_GOOD (R357, R369, R373) -/

/-- Whether a domain's clock runs clean, so that it can show CLK_GOOD: its source is enabled and has not failed, it is
neither gated nor stopped but for a restart, and a lane is in L0 (R338). -/
def Dev.clockRuns (d : Dev) (k : Nat) : Bool :=
  let op := (d.dom k).op
  let ph := d.rd .rs RS_STAT.PHASE
  (match d.domLoop k with
   | some i => decide (3 ≤ ph) && d.onT .ckLoop i CK_LOOP.EN && !d.onT .ckLoop i CK_LOOP.FAILED
   | none => decide (1 ≤ ph) && d.srcGood (d.curSrc k)) &&
  (!d.onT .ckDomainCtrl k CK_DOMAIN_CTRL.GATED || op == 3) &&
  (!d.onT .ckDomainCtrl k CK_DOMAIN_CTRL.STOPPED || op == 4) &&
  (!laneDomain k || (d.rd (.ln (k - 59)) LN_PSTATE.STATE == 0 && !d.on (.ln (k - 59)) LN_PSTATE.TRANS))

/-- A domain shows CLK_GOOD after 1,024 clean cycles: an ungated domain answers again, a stopped one resumes, and a framer
that EN and FRAMER_EN let run aligns (Table DSF–4). -/
def Dev.clkRise (k : Nat) (d : Dev) : Dev :=
  if d.clockRuns k then
    let d1 := (d.goodLoops k).foldl (fun (x : Dev) i => if x.onT .ckLoop i CK_LOOP.LOCKED then x else x.loopLock i) d
    let d2 := d1.wrT .ckDomainCtrl k CK_DOMAIN_CTRL.CLK_GOOD 1
    let op := (d2.dom k).op
    let d3 :=
      if op = 3 then (d2.wrT .ckDomainCtrl k CK_DOMAIN_CTRL.GATED 0).setDom k { d2.dom k with op := 0 }
      else if op = 4 then (d2.wrT .ckDomainCtrl k CK_DOMAIN_CTRL.STOPPED 0).setDom k { d2.dom k with op := 0 }
      else d2
    let d4 := d3.relWake k
    if 11 ≤ k ∧ k < 59 then d4.framerKick (k - 11) else d4
  else d

/-- CLK_GOOD_RISE. -/
def execClkGoodRise (m : Nat) (s : State) : Host.Outcome State Fault Refusal := s.run (.clkGoodRise m) (Dev.clkRise m)

/-! ## REFCLK, REFL and the TM domain (R356, R360, R366) -/

/-- The TM domain moves to a source: 7 × INC is added at the first pulse of the new source, TM_XTAL_PPB enters or leaves
I and y, HOLDOVER follows, the move is raised, and an entry into holdover is counted and reported (R320, R366). -/
def Dev.tmMove (src : Nat) (d : Dev) : Dev :=
  if d.curSrc 5 = src then d
  else
    let hold := src == 18
    let d1 := (d.wrT .ckDomainCtrl 5 CK_DOMAIN_CTRL.CUR_SRC src).wr (.tm 0) TM_STAT.HOLDOVER hold.toNat
    if d1.live (.tm 0) then
      let x : Int := 65536 * sext 32 (d1.rd (.tm 0) TM_XTAL_PPB.XTAL)
      let d2 := if hold then d1.setServo (d1.tm.i + x) (d1.tm.y + x) else d1.setServo (d1.tm.i - x) (d1.tm.y - x)
      let t := TimeVal.ofInt ((d2.time.toNat : Int) + 7 * d2.inc)
      let d3 := { d2.baseOn (7 * d2.inc) with time := t }
      let d4 := if t.sec = d2.time.sec then d3 else d3.tick false
      let d5 := d4.raise (.tm 0) 2
      if hold then (d5.cnt .tmCnt 260).report 4 0 else d5
    else d1

/-- REFL leaves for a state; the TM domain follows: source 17 only in LOCKED_R (R360). -/
def Dev.reflGo (d : Dev) (st : Nat) : Dev :=
  let d1 := (d.wr .ck CK_STAT.REFL_STATE st).wrT .ckLoop 0 CK_LOOP.HOLDOVER (st == 3).toNat
  let d2 := if st = 3 then d1.wrT .ckLoop 0 CK_LOOP.LOCKED 0 else d1
  d2.tmMove (if st = 2 then 17 else 18)

/-- What detection shows: CK_STAT.REF and TM_STAT.REF, with REF_CHG. -/
def Dev.refShow (d : Dev) (v : Nat) : Dev :=
  if d.rd .ck CK_STAT.REF = v then d
  else ((d.wr .ck CK_STAT.REF v).wr (.tm 0) TM_STAT.REF v).raise .ck 3

/-- Whether REF_MODE accepts a rate (R356). -/
def refAccepted (mode rate : Nat) : Bool := rate != 0 && (mode == 0 || mode == rate)

/-- Four good windows detect REFCLK: REFL goes to ACQ_R. -/
def Dev.refDetect (rate : Nat) (d : Dev) : Dev :=
  if d.rd .ck CK_STAT.REF = 0 ∧ refAccepted (d.rd .ck CK_SRC_SEL.REF_MODE) rate ∧ !d.dark 1 ∧ !d.domInReset 1 then
    (d.refShow rate).reflGo 1
  else d

/-- REFCLK_DETECT: `refRate` is 1 for 10 MHz, 2 for 25 MHz. -/
def execRefclkDetect (refRate : Nat) (s : State) : Host.Outcome State Fault Refusal :=
  s.run (.refclkDetect refRate) (Dev.refDetect refRate)

/-- REFCLK is lost: REF shows none, REFL goes to HOLDOVER from ACQ_R or LOCKED_R (Table CLK–3). -/
def Dev.refLose (d : Dev) : Dev :=
  if d.rd .ck CK_STAT.REF = 0 then d
  else
    let d1 := d.refShow 0
    if d1.refl = 1 ∨ d1.refl = 2 then d1.reflGo 3 else d1

/-- REFCLK_LOSS. -/
def execRefclkLoss (s : State) : Host.Outcome State Fault Refusal := s.run .refclkLoss Dev.refLose

/-- REFL locks to REFCLK within 0.1 ppm: LOCKED_R. -/
def Dev.reflLock (d : Dev) : Dev :=
  if d.refl = 1 ∧ !d.onT .ckLoop 0 CK_LOOP.FAILED then (d.loopLock 0).reflGo 2 else d

/-- REFL_LOCK. -/
def execReflLock (s : State) : Host.Outcome State Fault Refusal := s.run .reflLock Dev.reflLock

/-- A write of CK_SRC_SEL: REF_MODE = 3 moves REFL to LOCKED_X; a mode that does not accept the REFCLK detected loses it
(R356, R360). -/
def Dev.wSrcSel (v : Nat) (d : Dev) : Dev :=
  let mode := CK_SRC_SEL.REF_MODE.get v
  let d1 := d.wrs .ck [(CK_SRC_SEL.REFL_SLEW, CK_SRC_SEL.REFL_SLEW.get v), (CK_SRC_SEL.REF_MODE, mode)]
  if mode = 3 then (if d1.refl = 0 then d1 else (d1.refShow 0).reflGo 0)
  else if d1.rd .ck CK_STAT.REF ≠ 0 ∧ !refAccepted mode (d1.rd .ck CK_STAT.REF) then d1.refLose
  else d1

/-- SYS first locks after reset: FAB moves from FOSC to it (R366). -/
def Dev.sysLock (d : Dev) : Dev :=
  if 3 ≤ d.rd .rs RS_STAT.PHASE ∧ !d.onT .ckLoop 2 CK_LOOP.LOCKED ∧ !d.onT .ckLoop 2 CK_LOOP.FAILED then
    (d.loopLock 2).wrT .ckDomainCtrl 3 CK_DOMAIN_CTRL.CUR_SRC 19
  else d

/-- SYS_LOCK. -/
def execSysLock (s : State) : Host.Outcome State Fault Refusal := s.run .sysLock Dev.sysLock

/-! ## Stopping domains (R371–R373) -/

/-- Stop a domain: no pulse, its state held; a gate request ends with GATE = 0 (R367, R372). -/
def Dev.stopDomain (d : Dev) (k : Nat) : Dev :=
  let d1 := d.wrTs .ckDomainCtrl k [(CK_DOMAIN_CTRL.STOPPED, 1), (CK_DOMAIN_CTRL.CLK_GOOD, 0)]
  let op := (d.dom k).op
  let d2 :=
    if op = 1 then
      (d1.wrTs .ckDomainCtrl k [(CK_DOMAIN_CTRL.GATE, 0), (CK_DOMAIN_CTRL.BUSY, 0)]).setDom k { d1.dom k with op := 0 }
    else if op = 4 then d1.setDom k { d1.dom k with op := 0 }
    else d1
  if 11 ≤ k ∧ k < 59 ∧ d2.rd (.te (k - 11) 0) TE_TX_STAT.FSTATE ≠ 0 then d2.framerEnd (k - 11) else d2

/-- Stop several domains. -/
def Dev.stopDomains (d : Dev) (l : List Nat) : Dev := l.foldl (fun (x : Dev) k => x.stopDomain k) d

/-- A forced switch is recorded and reported (R365). -/
def Dev.forced (d : Dev) (k src : Nat) : Dev :=
  (((d.wrs .ck [(CK_SW_DEAD_SRC.VALID, 1), (CK_SW_DEAD_SRC.SRC, src), (CK_SW_DEAD_SRC.DOMAIN, k)]).wrT .ckDomainCtrl k
    CK_DOMAIN_CTRL.CLK_GOOD 0).raise .ck 2).report 2 0

/-- A switch that the module makes of itself (R366): the new source is taken; with the old source dead it is forced. -/
def Dev.ownSwitch (d : Dev) (k dest : Nat) (dead : Bool) : Dev :=
  let old := d.curSrc k
  let d1 := d.wrT .ckDomainCtrl k CK_DOMAIN_CTRL.CUR_SRC dest
  if dead then d1.forced k old else d1

/-- The enabled loops that fail with a source: itself, and those whose reference it is (R372). -/
def Dev.failLoops (d : Dev) (src : Nat) : List Nat :=
  (if src = 2 then
     [1, 2, 3, 4, 5, 12, 13, 14, 15, 16] ++ (if d.refl = 0 then [0, 6, 7, 8, 9, 10, 11] else [])
   else match srcLoop src with
     | some 0 => [0, 6, 7, 8, 9, 10, 11]
     | some i => [i]
     | none => []).filter (fun i => d.onT .ckLoop i CK_LOOP.EN)

/-- Whether a source's failure is a clock failure (R370): FOSC, XTAL_A, or an enabled loop; loop 0 in HOLDOVER has not
failed. -/
def Dev.isClockFailure (d : Dev) (src : Nat) : Bool :=
  src == 0 || src == 2 ||
    (match srcLoop src with | some i => d.onT .ckLoop i CK_LOOP.EN && !(i == 0 && d.refl == 3) | none => false)

/-- A clock failure (R371, R372): the path that uses no clock acts through CK_FAIL.FAIL; the loops and domains that
depend on the source stop, FAB falling back to FOSC; the module-wide give-up follows. -/
def Dev.clockFailure (src : Nat) (dead : Bool) (d : Dev) : Dev :=
  if d.isClockFailure src then
    let ls := d.failLoops src
    let d1 := if src = 0 then { d with clk := { d.clk with foscFailed := true } }
      else if src = 2 then d.wr .ck CK_STAT.XTAL_A_OK 0 else d
    let d2 := if d1.on .ck CK_FAIL.FAIL then d1 else d1.wrs .ck [(CK_FAIL.FAIL, 1), (CK_FAIL.FIRST_SRC, src)]
    let d3 := ls.foldl (fun (x : Dev) i => x.wrTs .ckLoop i [(CK_LOOP.LOCKED, 0), (CK_LOOP.FAILED, 1)]) d2
    let d4 := if ls.contains 2 ∧ d3.curSrc 3 = 19 ∧ !d3.clk.foscFailed then d3.ownSwitch 3 0 dead else d3
    let stop := (List.range 179).filter (fun k =>
      (d4.dom k).op != 2 &&
        ((src == 0 && d4.curSrc k == 0) || (match d4.domLoop k with | some i => ls.contains i | none => false)))
    (((d4.stopDomains stop).raise .ck 0).giveUpAll).report 1 0
  else d

/-- CLOCK_FAILURE: source `src` has failed; `dead` says whether it shows no edge. -/
def execClockFailure (src : Nat) (dead : Bool) (s : State) : Host.Outcome State Fault Refusal :=
  s.run (.clockFailure src dead) (Dev.watchAll (Dev.clockFailure src dead))

/-- A stopped domain may run again (R373): it resumes once CLK_GOOD rises; a gated one stays gated, and a lane runs
with its power state. -/
def Dev.restartDomain (d : Dev) (k : Nat) : Dev :=
  if d.onT .ckDomainCtrl k CK_DOMAIN_CTRL.STOPPED then
    if d.onT .ckDomainCtrl k CK_DOMAIN_CTRL.GATED ∨ laneDomain k then d.wrT .ckDomainCtrl k CK_DOMAIN_CTRL.STOPPED 0
    else d.setDom k { d.dom k with op := 4 }
  else d

/-- Whether a write of CK_FAIL.FAIL = 1 is accepted: every enabled loop locked or holding over, FOSC and XTAL_A good, no
switch BUSY. -/
def Dev.failClearOk (d : Dev) : Bool :=
  (List.range 17).all (fun i =>
    !d.onT .ckLoop i CK_LOOP.EN || d.onT .ckLoop i CK_LOOP.LOCKED || d.onT .ckLoop i CK_LOOP.HOLDOVER) &&
    !d.clk.foscFailed && d.on .ck CK_STAT.XTAL_A_OK && (List.range 179).all (fun k => (d.dom k).op != 2)

/-- A write of CK_FAIL (R373). -/
def Dev.wCkFail (v : Nat) (d : Dev) : Dev :=
  if CK_FAIL.FAIL.get v = 1 ∧ d.on .ck CK_FAIL.FAIL ∧ d.failClearOk then
    (List.range 179).foldl (fun (x : Dev) k => x.restartDomain k) (d.wrs .ck [(CK_FAIL.FAIL, 0)])
  else d

/-- The clocks as they stand at the write: the loops that have locked, XTAL_A. -/
def Dev.clocksNow (locked : Nat) (xtalA : Bool) (d : Dev) : Dev :=
  let d1 := d.wr .ck CK_STAT.XTAL_A_OK xtalA.toNat
  (List.range 17).foldl (fun (x : Dev) i =>
    if hasBit locked i && x.onT .ckLoop i CK_LOOP.EN && !x.onT .ckLoop i CK_LOOP.LOCKED then x.loopLock i else x) d1

/-- CLOCK_FAIL_CLEAR: a write of CK_FAIL with FAIL = 1, with the loops that are locked and XTAL_A as CK sees them. -/
def execClockFailClear (b : By) (v locked : Nat) (xtalA : Bool) (s : State) : Host.Outcome State Fault Refusal :=
  s.run (.clockFailClear b v locked xtalA) (fun d =>
    (d.clocksNow locked xtalA).hostF b .ck CK_FAIL.FAIL (CK_FAIL.FAIL.set v 1) (Dev.wCkFail (CK_FAIL.FAIL.set v 1)))

/-! ## SOSC, XTAL_B and AON (R366) -/

/-- SOSC_FAILURE: flagged only (Table CLK–1). -/
def execSoscFailure (s : State) : Host.Outcome State Fault Refusal :=
  s.run .soscFailure (fun d => d.wr .ck CK_STAT.SOSC_OK 0)

/-- XTAL_B fails: flagged, reported; AON moves to SOSC, by force when XTAL_B shows no edge, and stops when SOSC has
failed too (R365). -/
def Dev.xtalBFail (dead : Bool) (d : Dev) : Dev :=
  let d1 := ((d.wr .ck CK_STAT.XTAL_B_OK 0).raise .ck 4).report 3 0
  if d1.curSrc 0 = 3 then
    let d2 := d1.ownSwitch 0 1 dead
    let d3 := { d2 with clk := { d2.clk with aonWait := true } }
    if d3.on .ck CK_STAT.SOSC_OK then d3 else d3.stopDomain 0
  else d1

/-- XTAL_B_FAILURE. -/
def execXtalBFailure (dead : Bool) (s : State) : Host.Outcome State Fault Refusal :=
  s.run (.xtalBFailure dead) (Dev.xtalBFail dead)

/-- XTAL_B has passed 100 consecutive windows: AON returns to it. -/
def Dev.xtalBBack (d : Dev) : Dev :=
  let d1 := d.wr .ck CK_STAT.XTAL_B_OK 1
  if d1.clk.aonWait then { d1.ownSwitch 0 3 false with clk := { d1.clk with aonWait := false } } else d1

/-- XTAL_B_RETURN. -/
def execXtalBReturn (s : State) : Host.Outcome State Fault Refusal := s.run .xtalBReturn Dev.xtalBBack

/-! ## Source switches (R364, R365) -/

/-- The first pulse of the new source arrives: CLK_GOOD has stayed, BUSY falls. -/
def Dev.switchDone (k : Nat) (d : Dev) : Dev :=
  if (d.dom k).op = 2 then
    (d.wrTs .ckDomainCtrl k [(CK_DOMAIN_CTRL.CUR_SRC, (d.dom k).swTo), (CK_DOMAIN_CTRL.BUSY, 0)]).setDom k
      { d.dom k with op := 0, swTo := 0 }
  else d

/-- SOURCE_SWITCH_DONE. -/
def execSourceSwitchDone (m : Nat) (s : State) : Host.Outcome State Fault Refusal :=
  s.run (.sourceSwitchDone m) (Dev.switchDone m)

/-- The old source shows no edge during a switch: the multiplexer is forced to the new one; a new source without edges
stops the domain. -/
def Dev.deadSource (k : Nat) (newDead : Bool) (d : Dev) : Dev :=
  if (d.dom k).op = 2 then
    let d1 := (d.switchDone k).forced k (d.curSrc k)
    if newDead then d1.stopDomain k else d1
  else d

/-- DEAD_SOURCE. -/
def execDeadSource (m : Nat) (newDead : Bool) (s : State) : Host.Outcome State Fault Refusal :=
  s.run (.deadSource m newDead) (Dev.watchAll (Dev.deadSource m newDead))

/-! ## Gating (R362, R367–R369) -/

/-- Whether a domain is gateable (Table CLK–4). -/
def gateable (k : Nat) : Bool := (7 ≤ k && k ≤ 8) || (11 ≤ k && k < 139) || (147 ≤ k && k < 179)

/-- The pages of a gateable domain whose EN the host writes. -/
def gatePages (k : Nat) : List Page :=
  if k = 7 then [.cl 0] else if k = 8 then [.sc 0]
  else if 11 ≤ k ∧ k < 59 then [.te (k - 11) 0, .te (k - 11) 1, .te (k - 11) 2]
  else if 59 ≤ k ∧ k < 147 then [.ln (k - 59)]
  else if 147 ≤ k then [.ulp (k - 147)] else []

/-- Whether a gate request is refused with 0x321. -/
def Dev.gateRefused (d : Dev) (k : Nat) : Bool :=
  !gateable k || (gatePages k).any (fun p => d.on p PAGE_CTRL.EN) ||
    (laneDomain k && d.laneActive (k - 59)) || d.onT .ckDomainCtrl k CK_DOMAIN_CTRL.BUSY

/-- Whether a write of SRC names a source that R364 refuses: one not listed for the domain, any change for TM, a source
that is failed or not locked. -/
def Dev.srcRefused (d : Dev) (k src : Nat) : Bool :=
  !((k == 0 && (src == 3 || src == 1)) || (k == 3 && (src == 19 || src == 0))) || !d.srcGood src

/-- Whether a write of SRC asks for a switch: AON and FAB, when they are not on that source; any other domain, when SRC
would change (DEDUCED, log 20). -/
def Dev.srcAsked (d : Dev) (k src : Nat) : Bool :=
  if k = 0 ∨ k = 3 then d.curSrc k != src else d.rdT .ckDomainCtrl k CK_DOMAIN_CTRL.SRC != src

/-- The error of a CK_DOMAIN_CTRL entry written, 0 when it is taken (R364, R367). -/
def Dev.ckCheck (d : Dev) (k src gate : Nat) : Nat :=
  let busy := d.onT .ckDomainCtrl k CK_DOMAIN_CTRL.BUSY
  let g := d.rdT .ckDomainCtrl k CK_DOMAIN_CTRL.GATE
  if d.srcAsked k src ∧ d.srcRefused k src then 0x320
  else if d.srcAsked k src ∧ busy then 0x322
  else if gate = 1 ∧ (g = 0 ∨ busy) ∧ d.gateRefused k then 0x321
  else if gate = 0 ∧ g = 1 ∧ busy then 0x322
  else 0

/-- A CK_DOMAIN_CTRL entry is taken: a switch starts, a gate request starts, or the domain is ungated. -/
def Dev.ckApply (d : Dev) (k src gate : Nat) : Dev :=
  let g := d.rdT .ckDomainCtrl k CK_DOMAIN_CTRL.GATE
  let d1 := d.wrTs .ckDomainCtrl k [(CK_DOMAIN_CTRL.SRC, src), (CK_DOMAIN_CTRL.GATE, gate)]
  if d.srcAsked k src then
    let d2 := (d1.wrT .ckDomainCtrl k CK_DOMAIN_CTRL.BUSY 1).setDom k { d1.dom k with op := 2, swTo := src }
    if k = 0 then { d2 with clk := { d2.clk with aonWait := false } } else d2
  else if gate = 1 ∧ g = 0 then (d1.wrT .ckDomainCtrl k CK_DOMAIN_CTRL.BUSY 1).setDom k { d1.dom k with op := 1 }
  else if gate = 0 ∧ g = 1 ∧ d.onT .ckDomainCtrl k CK_DOMAIN_CTRL.GATED then d1.setDom k { d1.dom k with op := 3 }
  else d1

/-- The block went idle within 256 cycles: its clock stops. -/
def Dev.gateComplete (k : Nat) (d : Dev) : Dev :=
  if (d.dom k).op = 1 then
    (d.wrTs .ckDomainCtrl k
      [(CK_DOMAIN_CTRL.GATED, 1), (CK_DOMAIN_CTRL.CLK_GOOD, 0), (CK_DOMAIN_CTRL.BUSY, 0)]).setDom k
      { d.dom k with op := 0 }
  else d

/-- GATE_COMPLETE. -/
def execGateComplete (m : Nat) (s : State) : Host.Outcome State Fault Refusal :=
  s.run (.gateComplete m) (Dev.watchAll (Dev.gateComplete m))

/-- The block was not idle within 256 cycles: GATE clears, the timeout is recorded and raised. -/
def Dev.gateTimeout (k : Nat) (d : Dev) : Dev :=
  if (d.dom k).op = 1 then
    (((d.wrTs .ckDomainCtrl k [(CK_DOMAIN_CTRL.GATE, 0), (CK_DOMAIN_CTRL.BUSY, 0)]).setDom k { d.dom k with op := 0 }).wrs
      .ck [(CK_GATE_TIMEOUT.DOMAIN, k), (CK_GATE_TIMEOUT.VALID, 1)]).raise .ck 1
  else d

/-- GATE_TIMEOUT. -/
def execGateTimeout (m : Nat) (s : State) : Host.Outcome State Fault Refusal :=
  s.run (.gateTimeout m) (Dev.gateTimeout m)

/-! ## Loops powered down, CLKOBS (R359, R374) -/

/-- The lanes that a loop serves. -/
def loopLanes (i : Nat) : List Nat :=
  if 6 ≤ i ∧ i < 12 then (List.range 8).map (fun x => 8 * (i - 6) + x)
  else if 12 ≤ i ∧ i < 16 then (List.range 8).map (fun x => 48 + 8 * (i - 12) + x)
  else if i = 16 then (List.range 8).map (fun x => 80 + x) else []

/-- The error of a CK_LOOP entry written with EN: a loop is powered down only with its lanes in L2 and every domain it
feeds gated. -/
def Dev.loopCheck (d : Dev) (i en : Nat) : Nat :=
  if en = 0 ∧ 6 ≤ i ∧ d.onT .ckLoop i CK_LOOP.EN then
    if (loopLanes i).all (fun l => d.rd (.ln l) LN_PSTATE.STATE == 2) &&
        (List.range 179).all (fun k => d.domLoop k != some i || d.onT .ckDomainCtrl k CK_DOMAIN_CTRL.GATED) then 0
    else 0x323
  else 0

/-- A CK_LOOP entry is taken: EN of loops 0 to 5 is read-only. -/
def Dev.loopApply (d : Dev) (i en : Nat) : Dev :=
  if i < 6 ∨ d.rdT .ckLoop i CK_LOOP.EN = en then d
  else d.wrTs .ckLoop i [(CK_LOOP.EN, en), (CK_LOOP.LOCKED, 0), (CK_LOOP.FAILED, 0), (CK_LOOP.FREQ_KHZ, 0)]

/-- Nominal frequency of a domain in Hz (Table CLK–4): the highest that its source gives it. -/
def domHz (k : Nat) : Nat := if k = 0 then 32768 else if k = 3 then 400000000 else srcHz (domainSrc k)

/-- What CLKOBS shows (R374): its pull-up, a static low, or a source or a domain's clock divided. -/
inductive ClkObs
  | pulledUp
  | low
  | source (code div : Nat)
  | domain (k div : Nat)
  deriving DecidableEq, Repr

/-- The CLKOBS pin: pulled up in a reset and with EN = 0, low for a domain that is gated or stopped. -/
def Dev.clkObs (d : Dev) : ClkObs :=
  let sel := d.rd .ck CK_OBS.SEL
  let div := d.rd .ck CK_OBS.DIV + 1
  if !d.on .ck CK_OBS.EN || d.domInReset 1 then .pulledUp
  else if d.on .ck CK_OBS.KIND then
    if d.onT .ckDomainCtrl sel CK_DOMAIN_CTRL.GATED || d.onT .ckDomainCtrl sel CK_DOMAIN_CTRL.STOPPED then .low
    else .domain sel div
  else .source sel div

/-- A write of CK_OBS (R374). -/
def Dev.wObs (v : Nat) (d : Dev) : Dev :=
  let sel := CK_OBS.SEL.get v
  let hz := if CK_OBS.KIND.get v = 1 then (if sel < 179 then domHz sel else 0) else srcHz sel
  if hz = 0 ∨ 200000000 * (CK_OBS.DIV.get v + 1) < hz then d.logErr .ck 0x324
  else
    d.wrs .ck [(CK_OBS.EN, CK_OBS.EN.get v), (CK_OBS.KIND, CK_OBS.KIND.get v), (CK_OBS.SEL, sel),
               (CK_OBS.DIV, CK_OBS.DIV.get v)]

end Sys2Proof.Machine
end

