-- ==== Sys2Proof/Machine/Faults.lean ====
section
/-! DEFINITION. Quench keys, supervisor pair and fault handling: the commands of Faults and safety (R400–R423, R469). -/

namespace Sys2Proof.Machine

/-! ## Quench (R403) -/

/-- QUENCH_N falls: key B goes with the pin, QREL is cleared, class 55 is reported. -/
def Dev.quenchAssert (d : Dev) : Dev :=
  if d.on .rs RS_KEYS.QUENCH_PIN then d
  else (d.wrs .rs [(RS_KEYS.QUENCH_PIN, 1), (RS_KEYS.QREL, 0)]).report 55 0

/-- QUENCH_N_ASSERT. -/
def execQuenchNAssert (s : State) : Host.Outcome State Fault Refusal := s.run .quenchNAssert Dev.quenchAssert

/-- QUENCH_N returns high: the high time that a QREL write requires begins. -/
def Dev.quenchRelease (d : Dev) : Dev :=
  if d.on .rs RS_KEYS.QUENCH_PIN then
    { d.wr .rs RS_KEYS.QUENCH_PIN 0 with sup := { d.sup with quenchHighAt := d.now } }
  else d

/-- QUENCH_N_RELEASE. -/
def execQuenchNRelease (s : State) : Host.Outcome State Fault Refusal := s.run .quenchNRelease Dev.quenchRelease

/-- Whether QREL may be set (R403): the pin high for 1 µs, no quench all in force, no mismatch latched. -/
def Dev.qrelOk (d : Dev) : Bool :=
  !d.on .rs RS_KEYS.QUENCH_PIN && d.sup.quenchHighAt + 1000 ≤ d.now && !d.quenchAll && !d.on .rs RS_KEYS.MISMATCH

/-- A write of RS_KEYS: QREL = 1 under the conditions of R403, QREL = 0 always (R422: no error code). -/
def Dev.qrel (v : Nat) (d : Dev) : Dev :=
  if RS_KEYS.QREL.get v = 1 then (if d.qrelOk then d.wr .rs RS_KEYS.QREL 1 else d) else d.wr .rs RS_KEYS.QREL 0

/-- QREL_WRITE. -/
def execQrelWrite (b : By) (v : Nat) (s : State) : Host.Outcome State Fault Refusal :=
  s.run (.qrelWrite b v) (fun d =>
    d.hostF b .rs RS_KEYS.QREL (RS_KEYS.QREL.set v 1) (Dev.qrel (RS_KEYS.QREL.set v 1)))

/-! ## The supervisor pair (R405–R407) -/

/-- A lockstep mismatch: key B and QREL go, MISMATCH and the first differing group are latched, the module-wide
give-up follows, the toggles stop and FAULT_N is low while MISMATCH stands, class 0 is reported. -/
def Dev.lockstep (sig : Nat) (d : Dev) : Dev :=
  if d.on .rs RS_KEYS.MISMATCH then d
  else
    ((d.wrs .rs [(RS_KEYS.QREL, 0), (RS_KEYS.MISMATCH, 1), (RS_SUP_STAT.MISMATCH_SIG, sig)]).giveUpAll).report 0 0

/-- LOCKSTEP_MISMATCH. -/
def execLockstepMismatch (sig : Nat) (s : State) : Host.Outcome State Fault Refusal :=
  s.run (.lockstepMismatch sig) (Dev.lockstep sig)

/-- The comparator check starts (R406): CMP_OK is 0 until it detects the forced difference. -/
def Dev.cmpStart (d : Dev) : Dev :=
  d.wrs .rs [(RS_SUP_CTRL.CMP_TEST, 1), (RS_SUP_STAT.CMP_RUN, 1), (RS_SUP_STAT.CMP_OK, 0)]

/-- CMP_TEST. -/
def execCmpTest (b : By) (v : Nat) (s : State) : Host.Outcome State Fault Refusal :=
  s.run (.cmpTest b v) (fun d => d.hostF b .rs RS_SUP_CTRL.CMP_TEST (RS_SUP_CTRL.CMP_TEST.set v 1) Dev.cmpStart)

/-- The comparator check ends: CMP_OK when the difference was detected within 1 µs, else class 54. -/
def Dev.cmpDone (ok : Bool) (d : Dev) : Dev :=
  if d.on .rs RS_SUP_STAT.CMP_RUN then
    let d1 := d.wrs .rs [(RS_SUP_CTRL.CMP_TEST, 0), (RS_SUP_STAT.CMP_RUN, 0), (RS_SUP_STAT.CMP_OK, ok.toNat)]
    if ok then d1 else d1.report 54 0
  else d

/-- CMP_TEST_DONE. -/
def execCmpTestDone (ok : Bool) (s : State) : Host.Outcome State Fault Refusal :=
  s.run (.cmpTestDone ok) (Dev.cmpDone ok)

/-- Land k of PROT_HOLD_OUT as sampled (RS_HOLD_STAT): its command, unless it was found stuck. -/
def Dev.holdLand (d : Dev) (k : Nat) : Bool := ((if k = 0 then d.sup.land0 else d.sup.land1).getD (d.holdOut k))

/-- A hold output land disagreed with its command for 3 µs: class 57 (R407). -/
def Dev.holdOdd (k : Nat) (d : Dev) : Dev :=
  let b := !d.holdOut k
  (if k = 0 then { d with sup := { d.sup with land0 := some b } }
   else { d with sup := { d.sup with land1 := some b } }).report 57 k

/-- HOLD_OUTPUT_MISMATCH. -/
def execHoldOutputMismatch (k : Nat) (s : State) : Host.Outcome State Fault Refusal :=
  s.run (.holdOutputMismatch k) (Dev.holdOdd k)

/-! ## Other reports (R416) -/

/-- One sample of a thermal sensor: its temperature in °C plus 1,000. -/
def Dev.thermal (sensor : Nat) (t : Nat) (d : Dev) : Dev :=
  let o := d.sup.therm.get (0, 0) sensor
  let same := if o.1 = t + 1 then o.2 + 1 else 0
  let d1 := { d with sup := { d.sup with therm := d.sup.therm.put (0, 0) sensor (t + 1, same) } }
  let d2 := if 1105 ≤ t then d1.report 11 sensor else d1
  let d3 := if 1120 ≤ t then d2.report 12 sensor else d2
  if t < 960 ∨ 1150 < t ∨ 1000 ≤ same then d3.report 13 sensor else d3

/-- THERMAL_SAMPLE: `temp` is the temperature in °C plus 1,000. -/
def execThermalSample (sensor temp : Nat) (s : State) : Host.Outcome State Fault Refusal :=
  s.run (.thermalSample sensor temp) (Dev.thermal sensor temp)

/-- OPTIC_BUS_ERROR: a two-wire bus controller reports class 52. -/
def execOpticBusError (bus : Nat) (s : State) : Host.Outcome State Fault Refusal :=
  s.run (.opticBusError bus) (fun d => d.report 52 bus)

/-! ## FT (R410–R421) -/

/-- Whether a class has the unit. -/
def ftHas (cls unit : Nat) : Bool := cls < 64 && unit < (ftRow cls).count

/-- FAULT_EVENT: an event that a source reports to FT: its class, unit, local ONU index where the class concerns an
ONU, and detail. -/
def execFaultEvent (cls unit : Nat) (onu : Option Nat) (detail : Nat) (s : State) : Host.Outcome State Fault Refusal :=
  s.run (.faultEvent cls unit onu detail) (fun d =>
    if ftHas cls unit && onu.all (· < 256) then
      d.reportEv { cls := cls, unit := unit, onu := onu, tenant := ftTenant cls unit, detail := detail, inj := false }
    else d)

/-- A window closes after W (R410). -/
def Dev.windowClose (cls unit : Nat) (d : Dev) : Dev :=
  d.wrTs .ftInst (ftIdx cls unit) [(FT_INST.WOPEN, 0), (FT_INST.WCOUNT, 0)]

/-- FAULT_WINDOW_CLOSE. -/
def execFaultWindowClose (cls unit : Nat) (s : State) : Host.Outcome State Fault Refusal :=
  s.run (.faultWindowClose cls unit) (Dev.windowClose cls unit)

/-- A whole W passed without an event (R411): a lasting state with action log, interrupt or give up control ends. -/
def Dev.lastingExpiry (cls unit : Nat) (d : Dev) : Dev :=
  match d.lastingAt cls unit with
  | some l => if l.act = 0 ∨ l.act = 1 ∨ l.act = 3 then d.ftEnd cls unit else d
  | none => d

/-- LASTING_EXPIRY. -/
def execLastingExpiry (cls unit : Nat) (s : State) : Host.Outcome State Fault Refusal :=
  s.run (.lastingExpiry cls unit) (Dev.lastingExpiry cls unit)

/-- COAL_INTERVAL_END. -/
def execCoalIntervalEnd (cls unit : Nat) (s : State) : Host.Outcome State Fault Refusal :=
  s.run (.coalIntervalEnd cls unit) (fun d => d.ftCoalEnd cls unit)

/-- A write of FT_CMD (R421, Table FLT–4): CLEAR ends a lasting state, INJECT counts an event; refused with 0x361
otherwise, STAT showing 3. -/
def Dev.ftCmd (v : Nat) (d : Dev) : Dev :=
  let op := FT_CMD.OP.get v
  let cls := FT_CMD.CLASS.get v
  let unit := FT_CMD.INST.get v
  let d1 := d.wrs .ft [(FT_CMD.OP, op), (FT_CMD.CLASS, cls), (FT_CMD.INST, unit), (FT_CMD.STAT, 0)]
  let no := (d1.wr .ft FT_CMD.STAT 3).logErr .ft 0x361
  if !ftHas cls unit then no
  else if op = 1 then (if (d.lastingAt cls unit).isSome then d1.ftEnd cls unit else no)
  else if op = 2 then
    d1.reportEv { cls := cls, unit := unit, onu := none, tenant := ftTenant cls unit, detail := 0, inj := true }
  else no

/-- CLEAR: a write of FT_CMD with OP = 1. -/
def execFtClear (b : By) (v : Nat) (s : State) : Host.Outcome State Fault Refusal :=
  s.run (.ftClear b v) (fun d => d.hostF b .ft FT_CMD.OP (FT_CMD.OP.set v 1) (Dev.ftCmd (FT_CMD.OP.set v 1)))

/-- INJECT: a write of FT_CMD with OP = 2. -/
def execFtInject (b : By) (v : Nat) (s : State) : Host.Outcome State Fault Refusal :=
  s.run (.ftInject b v) (fun d => d.hostF b .ft FT_CMD.OP (FT_CMD.OP.set v 2) (Dev.ftCmd (FT_CMD.OP.set v 2)))

end Sys2Proof.Machine
end

