-- ==== Sys2Proof/Machine/Lanes.lean ====
section
/-! DEFINITION. Serial lanes: what a write of each LN and UL register does (R335–R345, R352–R354), and the commands of
lane power states, receive adaptation, PRBS and uplink link state. -/

namespace Sys2Proof.Machine

/-- The trees whose key A a lane carries: PON pair n is tree n's. -/
def laneTrees (l : Nat) : List Nat := if l < 48 then [l] else []

/-- Begin full adaptation of a continuous lane (R336): at once, or when the lane leaves L2. -/
def Dev.adaptStart (d : Dev) (l : Nat) : Dev :=
  if d.rd (.ln l) LN_PSTATE.STATE = 2 ∧ !d.on (.ln l) LN_PSTATE.TRANS then d.wr (.ln l) LN_RX_ADAPT.RESTART 1
  else
    (d.wrs (.ln l) [(LN_RX_ADAPT.STATE, 1), (LN_RX_ADAPT.RESTART, 0)]).setLane l { d.lane l with adaptAt := d.now }

/-! ## What a lane and a MAC send when no frame does (R334, R344, R348) -/

/-- What a TX lane sends: nothing (electrical idle), received data again (far-end loopback), its owning block's data, a
PRBS stream of a polynomial of Table SLU–3, or the idle pattern of its kind. -/
inductive LaneTx
  | quiet
  | farEnd
  | data
  | prbs (poly : Nat) (inverted : Bool)
  | idle
  deriving DecidableEq, Repr

/-- R334, with R344 for far-end loopback.  A PON lane without key A still sends. -/
def Dev.laneTx (d : Dev) (l : Nat) : LaneTx :=
  if !d.laneL0 l then .quiet
  else if d.rd (.ln l) LN_LANE_CTRL.LOOPBACK = 2 then .farEnd
  else if d.laneActive l then .data
  else if d.on (.ln l) LN_PRBS.GEN_EN then .prbs (d.rd (.ln l) LN_PRBS.GEN_POLY) (d.on (.ln l) LN_PRBS.GEN_INV)
  else .idle

/-- While LINK_UP = 0 the MAC of port `u` sends remote fault on a local fault, and idle otherwise (R348). -/
def Dev.macRemoteFault (d : Dev) (u : Nat) : Bool :=
  d.portOn u && !d.on (.ulp u) UL_PORT_STAT.LINK_UP && d.on (.ulp u) UL_PORT_STAT.LOCAL_FAULT

/-! ## Register writes -/

/-- A write of LN_LANE_CTRL (R344): a refused loopback refuses the whole write; a changed receive polarity costs the
lane its lock, and a continuous lane adapts again. -/
def Dev.wLaneCtrl (l v : Nat) (d : Dev) : Dev :=
  let lb := LN_LANE_CTRL.LOOPBACK.get v
  let rp := LN_LANE_CTRL.RX_POL.get v
  if lb = 3 ∨ (lb = 2 ∧ l < 48) then d.logErr (.ln l) 0x2e1
  else if lb ≠ 0 ∧ d.laneActive l then d.logErr (.ln l) 0x2e3
  else
    let d1 := d.wrs (.ln l) [(LN_LANE_CTRL.LOOPBACK, lb), (LN_LANE_CTRL.RX_POL, rp),
                             (LN_LANE_CTRL.TX_POL, LN_LANE_CTRL.TX_POL.get v)]
    if rp ≠ d.rd (.ln l) LN_LANE_CTRL.RX_POL then
      let d2 := d1.wrs (.ln l) [(LN_STAT.CDR_LOCK, 0), (LN_PRBS.CHK_LOCK, 0)]
      if 48 ≤ l then d2.adaptStart l else d2
    else d1

/-- A write of LN_TXEQ (R335). -/
def Dev.wTxeq (l v : Nat) (d : Dev) : Dev :=
  if LN_TXEQ.SWING.get v ≤ 24 ∧ LN_TXEQ.POST.get v ≤ 24 ∧ LN_TXEQ.PRE.get v ≤ 16 then
    d.wrs (.ln l) [(LN_TXEQ.SWING, LN_TXEQ.SWING.get v), (LN_TXEQ.POST, LN_TXEQ.POST.get v),
                   (LN_TXEQ.PRE, LN_TXEQ.PRE.get v)]
  else d.logErr (.ln l) 0x2e1

/-- A write of LN_RX_ADAPT (R336): refused on a PON page. -/
def Dev.wRxAdapt (l v : Nat) (d : Dev) : Dev :=
  if l < 48 then d.logErr (.ln l) 0x2e1
  else
    let d1 := d.wr (.ln l) LN_RX_ADAPT.FREEZE (LN_RX_ADAPT.FREEZE.get v)
    if LN_RX_ADAPT.RESTART.get v = 1 then d1.adaptStart l else d1

/-- A write of LN_PSTATE.TARGET (R338, R339, R341). -/
def Dev.wPstate (l v : Nat) (d : Dev) : Dev :=
  let t := LN_PSTATE.TARGET.get v
  if t = 3 then d.logErr (.ln l) 0x2e1
  else if t ≠ 0 ∧ (d.laneActive l ∨ d.prbsOn l) then d.logErr (.ln l) 0x2e0
  else (d.wr (.ln l) LN_PSTATE.TARGET t).laneKick l

/-- Clear both PRBS counters (R342). -/
def Dev.prbsClear (d : Dev) (l : Nat) : Dev :=
  d.wrs (.ln l) [(LN_PRBS_ERR_LO.ERR_LO, 0), (LN_PRBS_ERR_HI.ERR_HI, 0), (LN_PRBS_BITS_LO.BITS_LO, 0),
                 (LN_PRBS_BITS_HI.BITS_HI, 0)]

/-- A write of LN_PRBS (R341, R342): an enable is refused while the owning block is active; a checker that is off
holds no lock. -/
def Dev.wPrbs (l v : Nat) (d : Dev) : Dev :=
  let g := LN_PRBS.GEN_EN.get v
  let c := LN_PRBS.CHK_EN.get v
  if 5 ≤ LN_PRBS.GEN_POLY.get v ∨ 5 ≤ LN_PRBS.CHK_POLY.get v then d.logErr (.ln l) 0x2e1
  else if d.laneActive l ∧
      ((g = 1 ∧ !d.on (.ln l) LN_PRBS.GEN_EN) ∨ (c = 1 ∧ !d.on (.ln l) LN_PRBS.CHK_EN)) then
    d.logErr (.ln l) 0x2e3
  else
    let d1 := d.wrs (.ln l)
      [(LN_PRBS.GEN_EN, g), (LN_PRBS.CHK_EN, c), (LN_PRBS.GEN_POLY, LN_PRBS.GEN_POLY.get v),
       (LN_PRBS.CHK_POLY, LN_PRBS.CHK_POLY.get v), (LN_PRBS.GEN_INV, LN_PRBS.GEN_INV.get v),
       (LN_PRBS.CHK_INV, LN_PRBS.CHK_INV.get v)]
    let d2 := if c = 0 then d1.wr (.ln l) LN_PRBS.CHK_LOCK 0 else d1
    if LN_PRBS.CLR.get v = 1 then d2.prbsClear l else d2

/-- A write of LN_PRBS_INJ (R343). -/
def Dev.wPrbsInj (l v : Nat) (d : Dev) : Dev :=
  if LN_PRBS_INJ.LEN.get v = 0 then d.logErr (.ln l) 0x2e1
  else if LN_PRBS_INJ.INJ.get v = 1 then
    if !d.on (.ln l) LN_PRBS.GEN_EN ∨ d.on (.ln l) LN_PRBS_INJ.PENDING then d.logErr (.ln l) 0x2e2
    else d.wrs (.ln l) [(LN_PRBS_INJ.LEN, LN_PRBS_INJ.LEN.get v), (LN_PRBS_INJ.PENDING, 1)]
  else d.wr (.ln l) LN_PRBS_INJ.LEN (LN_PRBS_INJ.LEN.get v)

/-- Whether a port page of octet `k` has EN = 1. -/
def Dev.octetBusy (d : Dev) (k : Nat) : Bool :=
  (List.range 8).any (fun i => d.on (.ulp (8 * k + i)) PAGE_CTRL.EN)

/-- A write of UL_OCTET_CFG (R345). -/
def Dev.wOctet (v : Nat) (d : Dev) : Dev :=
  if (List.range 4).any (fun k => (UL_OCTET_CFG.MODE k).get v == 3 ||
      ((UL_OCTET_CFG.MODE k).get v != d.rd .ul0 (UL_OCTET_CFG.MODE k) && d.octetBusy k)) then d.logErr .ul0 0x300
  else (List.range 4).foldl (fun d k => d.wr .ul0 (UL_OCTET_CFG.MODE k) ((UL_OCTET_CFG.MODE k).get v)) d

/-- A write of UL_PORT_CFG (R353). -/
def Dev.wPortCfg (u v : Nat) (d : Dev) : Dev :=
  if UL_PORT_CFG.LINK_UP_MS.get v ≤ 1000 ∧ 64 ≤ UL_PORT_CFG.MAX_FRAME.get v ∧ UL_PORT_CFG.MAX_FRAME.get v ≤ 16388 then
    d.wrs (.ulp u) [(UL_PORT_CFG.LINK_UP_MS, UL_PORT_CFG.LINK_UP_MS.get v),
                    (UL_PORT_CFG.MAX_FRAME, UL_PORT_CFG.MAX_FRAME.get v)]
  else d.logErr (.ulp u) 0x301

/-! ## Power states -/

/-- PSTATE_REQUEST: a write of LN_PSTATE. -/
def execPstateRequest (b : By) (l v : Nat) (s : State) : Host.Outcome State Fault Refusal :=
  s.run (.pstateRequest b l v)
    (Dev.watch (laneTrees l) (fun d => d.hostF b (.ln l) LN_PSTATE.TARGET v (Dev.wPstate l v)))

/-- A transition completes (R337, R339): STATE is reached, PSTATE_DONE when it is TARGET, adaptation state discarded in
L2, and a TARGET written meanwhile takes effect now. -/
def Dev.pstateDone (l : Nat) (d : Dev) : Dev :=
  if d.on (.ln l) LN_PSTATE.TRANS then
    let st := (d.lane l).dest
    let d1 := d.wrs (.ln l) [(LN_PSTATE.STATE, st), (LN_PSTATE.TRANS, 0)]
    let d2 := if st = 2 then d1.wrs (.ln l) [(LN_RX_ADAPT.STATE, 0), (LN_STAT.CDR_LOCK, 0), (LN_PRBS.CHK_LOCK, 0)] else d1
    let d3 := if st = d.rd (.ln l) LN_PSTATE.TARGET then d2.raise (.ln l) 0 else d2
    d3.laneKick l
  else d

/-- PSTATE_TRANSITION_DONE. -/
def execPstateTransitionDone (l : Nat) (s : State) : Host.Outcome State Fault Refusal :=
  s.run (.pstateTransitionDone l) (Dev.watch (laneTrees l) (Dev.pstateDone l))

/-! ## Receive adaptation -/

/-- ADAPT_RESTART: a write of LN_RX_ADAPT with RESTART = 1. -/
def execAdaptRestart (b : By) (l v : Nat) (s : State) : Host.Outcome State Fault Refusal :=
  s.run (.adaptRestart b l v) (fun d =>
    d.hostF b (.ln l) LN_RX_ADAPT.RESTART (LN_RX_ADAPT.RESTART.set v 1)
      (Dev.wRxAdapt l (LN_RX_ADAPT.RESTART.set v 1)))

/-- Full adaptation of the lane runs, or waits for its next retry after it failed. -/
def Dev.adapting (d : Dev) (l : Nat) : Bool :=
  48 ≤ l && (d.rd (.ln l) LN_RX_ADAPT.STATE == 1 || d.rd (.ln l) LN_RX_ADAPT.STATE == 3)

/-- Full adaptation converges: the lane tracks (R336). -/
def Dev.adaptDone (l : Nat) (d : Dev) : Dev :=
  if d.adapting l then d.wrs (.ln l) [(LN_RX_ADAPT.STATE, 2), (LN_STAT.SIG_DET, 1), (LN_STAT.CDR_LOCK, 1)] else d

/-- ADAPT_DONE. -/
def execAdaptDone (l : Nat) (s : State) : Host.Outcome State Fault Refusal := s.run (.adaptDone l) (Dev.adaptDone l)

/-- Adaptation has not converged within 5 ms: FAILED, ADAPT_FAIL, class 50; it is tried again (R336). -/
def Dev.adaptFail (l : Nat) (sig : Bool) (d : Dev) : Dev :=
  if d.adapting l then
    ((d.wrs (.ln l) [(LN_RX_ADAPT.STATE, 3), (LN_STAT.SIG_DET, sig.toNat), (LN_STAT.CDR_LOCK, 0)]).raise (.ln l) 1).report
      50 l
  else d

/-- ADAPT_FAIL: whether a signal was present at the RX land. -/
def execAdaptFail (l : Nat) (present : Bool) (s : State) : Host.Outcome State Fault Refusal :=
  s.run (.adaptFail l present) (Dev.adaptFail l present)

/-! ## PRBS (R341–R343) -/

/-- A 48-bit PRBS counter: low and high word. -/
def Dev.prbsCount (d : Dev) (l : Nat) (lo hi : Fld) : Nat := d.rd (.ln l) lo + 2 ^ 32 * d.rd (.ln l) hi

/-- Add to a 48-bit PRBS counter, which saturates. -/
def Dev.prbsAdd (d : Dev) (l : Nat) (lo hi : Fld) (k : Nat) : Dev :=
  let v := min (d.prbsCount l lo hi + k) (2 ^ 48 - 1)
  (d.wr (.ln l) lo v).wr (.ln l) hi (v / 2 ^ 32)

/-- The checker has compared `bits` more bits, `errs` of them in error, while it was locked. -/
def Dev.prbsCompared (d : Dev) (l bits errs : Nat) : Dev :=
  if d.on (.ln l) LN_PRBS.CHK_LOCK then
    (d.prbsAdd l LN_PRBS_BITS_LO.BITS_LO LN_PRBS_BITS_HI.BITS_HI bits).prbsAdd l LN_PRBS_ERR_LO.ERR_LO
      LN_PRBS_ERR_HI.ERR_HI (min errs bits)
  else d

/-- PRBS_INJECT: a write of LN_PRBS_INJ with INJ = 1. -/
def execPrbsInject (b : By) (l v : Nat) (s : State) : Host.Outcome State Fault Refusal :=
  s.run (.prbsInject b l v) (fun d =>
    d.hostF b (.ln l) LN_PRBS_INJ.INJ (LN_PRBS_INJ.INJ.set v 1) (Dev.wPrbsInj l (LN_PRBS_INJ.INJ.set v 1)))

/-- PRBS_INJECT_DONE: the last inverted bit has left. -/
def execPrbsInjectDone (l : Nat) (s : State) : Host.Outcome State Fault Refusal :=
  s.run (.prbsInjectDone l) (fun d => d.wr (.ln l) LN_PRBS_INJ.PENDING 0)

/-- PRBS_CLEAR: a write of LN_PRBS with CLR = 1. -/
def execPrbsClear (b : By) (l v : Nat) (s : State) : Host.Outcome State Fault Refusal :=
  s.run (.prbsClear b l v) (fun d =>
    d.hostF b (.ln l) LN_PRBS.CLR (LN_PRBS.CLR.set v 1) (Dev.wPrbs l (LN_PRBS.CLR.set v 1)))

/-- PRBS_LOCK: 64 consecutive bits matched. -/
def execPrbsLock (l : Nat) (s : State) : Host.Outcome State Fault Refusal :=
  s.run (.prbsLock l) (fun d => if d.on (.ln l) LN_PRBS.CHK_EN then d.wr (.ln l) LN_PRBS.CHK_LOCK 1 else d)

/-- The checker loses lock (R342): what it compared since the counters were last brought up to date, then PRBS_LOST. -/
def Dev.prbsLost (l bits errs : Nat) (d : Dev) : Dev :=
  if d.on (.ln l) LN_PRBS.CHK_LOCK then ((d.prbsCompared l bits errs).wr (.ln l) LN_PRBS.CHK_LOCK 0).raise (.ln l) 2
  else d

/-- PRBS_LOST. -/
def execPrbsLost (l bits errs : Nat) (s : State) : Host.Outcome State Fault Refusal :=
  s.run (.prbsLost l bits errs) (Dev.prbsLost l bits errs)

/-- A read of LN_PRBS_ERR_LO, or of LN_PRBS_BITS_LO (`total`), that reached the page: it latches the high word for the
reader (R342). -/
def Dev.prbsLoad (l : Nat) (total : Bool) (f : Nat) (d : Dev) : Nat × Dev :=
  if total then
    (d.rd (.ln l) LN_PRBS_BITS_LO.BITS_LO,
     d.latch (.ln l) LN_PRBS_BITS_HI.BITS_HI.off f (d.rd (.ln l) LN_PRBS_BITS_HI.BITS_HI))
  else
    (d.rd (.ln l) LN_PRBS_ERR_LO.ERR_LO,
     d.latch (.ln l) LN_PRBS_ERR_HI.ERR_HI.off f (d.rd (.ln l) LN_PRBS_ERR_HI.ERR_HI))

/-- PRBS_ERR_LO_READ: a read of LN_PRBS_ERR_LO, or of LN_PRBS_BITS_LO (`total`), after the checker compared `bits`
more bits. -/
def execPrbsErrLoRead (b : By) (l : Nat) (total : Bool) (bits errs : Nat) (s : State) :
    Host.Outcome State Fault Refusal :=
  s.run (.prbsErrLoRead b l total bits errs) (fun d =>
    (d.prbsCompared l bits errs).hostR b (.ln l)
      (if total then LN_PRBS_BITS_LO.BITS_LO.off else LN_PRBS_ERR_LO.ERR_LO.off) (Dev.prbsLoad l total b.func))

/-! ## Uplink links (R348) -/

/-- The port's lanes are in L0 with CLK_GOOD. -/
def Dev.portLanesGood (d : Dev) (u : Nat) : Bool := (d.portLanes u).all (fun l => d.laneL0 l && d.laneGood l)

/-- Alignment without a fault has held for LINK_UP_MS. -/
def Dev.linkRise (u : Nat) (d : Dev) : Dev :=
  if d.portOn u && d.portLanesGood u && !d.on (.ulp u) UL_PORT_STAT.LINK_UP then
    (d.wrs (.ulp u) [(UL_PORT_STAT.ALIGNED, 1), (UL_PORT_STAT.LOCAL_FAULT, 0), (UL_PORT_STAT.REMOTE_FAULT, 0),
                     (UL_PORT_STAT.LINK_UP, 1)]).raise (.ulp u) 0
  else d

/-- LINK_UP. -/
def execLinkUp (u : Nat) (s : State) : Host.Outcome State Fault Refusal := s.run (.linkUp u) (Dev.linkRise u)

/-- Alignment is lost, or a fault shows: the status bits, REMOTE_FAULT when it is first received, the fall of LINK_UP,
and the frame that was cut short on the line (R348, R350).  Without a loss nothing falls; a port whose link is down then
shows that it is aligned, as in the hold of R348 (log 88). -/
def Dev.linkLoss (u : Nat) (aligned lf rf trunc : Bool) (d : Dev) : Dev :=
  if !d.on (.ulp u) PAGE_CTRL.EN then d
  else if aligned && !lf && !rf then
    if d.on (.ulp u) UL_PORT_STAT.LINK_UP then d
    else d.wrs (.ulp u) [(UL_PORT_STAT.ALIGNED, 1), (UL_PORT_STAT.LOCAL_FAULT, 0), (UL_PORT_STAT.REMOTE_FAULT, 0)]
  else
    let d1 := if rf && !d.on (.ulp u) UL_PORT_STAT.REMOTE_FAULT then d.raise (.ulp u) 2 else d
    let d2 := d1.wrs (.ulp u) [(UL_PORT_STAT.ALIGNED, aligned.toNat), (UL_PORT_STAT.LOCAL_FAULT, lf.toNat),
                               (UL_PORT_STAT.REMOTE_FAULT, rf.toNat)]
    let d3 := if trunc && d.on (.ulp u) UL_PORT_STAT.LINK_UP then d2.cnt (.ulCnt u) 8 else d2
    d3.linkFall u

/-- LINK_DOWN. -/
def execLinkDown (u : Nat) (aligned lf rf trunc : Bool) (s : State) : Host.Outcome State Fault Refusal :=
  s.run (.linkDown u aligned lf rf trunc) (Dev.linkLoss u aligned lf rf trunc)

end Sys2Proof.Machine
end

