-- ==== Sys2Proof/Machine/Power.lean ====
section
/-! DEFINITION. Power, reset and retained state (R377–R399): feeds, the last word, resets and their release order, the
watchdog, the calibration store. -/

namespace Sys2Proof.Machine

/-! ## Feeds (R377, R379, R381) -/

/-- STATE, CARRY and magnitude fields of a feed. -/
def feedFlds (feed : Nat) : Fld × Fld × Page × Fld :=
  if feed = 0 then (PW_FEED_STATUS.STATE_A, PW_FEED_STATUS.CARRY_A, .pw, PW_FEED_A_MV.MAG)
  else (PW_FEED_STATUS.STATE_B, PW_FEED_STATUS.CARRY_B, .pw, PW_FEED_B_MV.MAG)

/-- Set whether a feed is usable. -/
def Dev.setUsable (d : Dev) (feed : Nat) (v : Bool) : Dev :=
  if feed = 0 then { d with pwr := { d.pwr with usableA := v } } else { d with pwr := { d.pwr with usableB := v } }

/-- The state of a feed that was in state `was`, by its magnitude in 10 mV units and its sign (Table PWR–1): LOW is left at
36.5 V rising, HIGH at 75.5 V falling; between two ranges the state stays (DEDUCED, log 86). -/
def feedState (was mag : Nat) (rev : Bool) : Nat :=
  if rev ∧ 200 < mag then 1
  else if mag < 1000 then 0
  else if mag < 3300 then 2
  else if mag < 3600 ∨ (was < 4 ∧ mag < 3650) then 3
  else if 7600 < mag ∨ (was = 5 ∧ 7550 < mag) then 5
  else 4

/-- Whether a feed supplies current (R377): it is usable and the other is not, or its magnitude is not more than 0.5 V
below the other's. -/
def Dev.carries (d : Dev) (feed : Nat) : Bool :=
  let a := d.rd .pw PW_FEED_A_MV.MAG
  let b := d.rd .pw PW_FEED_B_MV.MAG
  if feed = 0 then d.pwr.usableA && (!d.pwr.usableB || decide (b ≤ a + 50))
  else d.pwr.usableB && (!d.pwr.usableA || decide (a ≤ b + 50))

/-- Show which feeds supply current, and count a transfer to the feed that takes the load over (R379), as they stand at a
feed event (log 86). -/
def Dev.feedCarry (d : Dev) : Dev :=
  let a := d.carries 0
  let b := d.carries 1
  let moved := (d.on .pw PW_FEED_STATUS.CARRY_A && !a && b) || (d.on .pw PW_FEED_STATUS.CARRY_B && !b && a)
  let d1 := d.wrs .pw [(PW_FEED_STATUS.CARRY_A, a.toNat), (PW_FEED_STATUS.CARRY_B, b.toNat)]
  if moved then d1.cnt .pwCnt 5 else d1

/-- A feed changes state (Table PWR–1): shown, counted, raised and reported; ABSENT, REVERSED and OUT take its use. -/
def Dev.feedChange (feed mag : Nat) (rev : Bool) (d : Dev) : Dev :=
  let f := feedFlds feed
  let was := d.rd .pw f.1
  let st := feedState was mag rev
  let d1 := d.wrs .pw [(f.1, st), (f.2.2.2, mag)]
  let d3 := (if st < 3 then d1.setUsable feed false else d1).feedCarry
  if was = st then d3
  else
    let d4 := ((d3.cnt .pwCnt feed).raise .pw 0).report 6 feed
    if st = 3 then d4.cnt .pwCnt 2
    else if st = 5 then d4.cnt .pwCnt 3
    else if st = 1 then ((d4.cnt .pwCnt 4).raise .pw 1).report 7 feed
    else d4

/-- FEED_STATE_CHANGE: the magnitude of a feed in 10 mV units, and whether its return is the more negative. -/
def execFeedStateChange (feed mag : Nat) (rev : Bool) (s : State) : Host.Outcome State Fault Refusal :=
  s.run (.feedStateChange feed mag rev) (Dev.feedChange feed mag rev)

/-- A feed has stood at 35.0 V or more for 1 ms: usable; where none was, or after a last word, a power-on is due (R382,
R384). -/
def Dev.feedUsable (feed : Nat) (d : Dev) : Dev :=
  if d.rd .pw (feedFlds feed).1 < 3 ∨ d.rd .pw (feedFlds feed).2.2.2 < 3500 then d
  else
    let due := d.pwr.lw != 0 || !(d.pwr.usableA || d.pwr.usableB)
    let d1 := (d.setUsable feed true).feedCarry
    if due then { d1 with pwr := { d1.pwr with lwPowerOn := true } } else d1

/-- FEED_USABLE. -/
def execFeedUsable (feed : Nat) (s : State) : Host.Outcome State Fault Refusal :=
  s.run (.feedUsable feed) (Dev.feedUsable feed)

/-- The hold-up store is charged, or loses its charge: HOLDUP_OK; its fall is raised and reported, and disarms the last
word. -/
def Dev.holdup (ok : Bool) (d : Dev) : Dev :=
  let was := d.on .pw PW_FEED_STATUS.HOLDUP_OK
  let d1 := d.wr .pw PW_FEED_STATUS.HOLDUP_OK ok.toNat
  if was && !ok then ((d1.wr .rs RS_LW_STAT.ARMED 0).raise .pw 2).report 8 0 else d1

/-- HOLDUP_OK. -/
def execHoldupOk (ok : Bool) (s : State) : Host.Outcome State Fault Refusal := s.run (.holdupOk ok) (Dev.holdup ok)

/-- The spare sector is erased and the store charged (R383): ARMED. -/
def Dev.lwArm (d : Dev) : Dev :=
  if d.on .pw PW_FEED_STATUS.HOLDUP_OK ∧ d.pwr.lw = 0 ∧ d.live .rs ∧ !d.on .rs RS_LW_STAT.ARMED then
    (d.wr .rs RS_LW_STAT.ARMED 1).raise .rs 3
  else d

/-- LW_ARMED. -/
def execLwArmed (s : State) : Host.Outcome State Fault Refusal := s.run .lwArmed Dev.lwArm

/-- Input current of 10,000 mA or more for 10 ms (R416).  The power shown with it is a free value: the event does not
carry it (log 1). -/
def Dev.currentHigh (cur : Nat) (d : Dev) : Dev :=
  if 10000 ≤ cur then ((d.wrs .pw [(PW_INPUT.CURRENT, cur), (PW_INPUT.POWER, d.free)]).freed).report 56 0 else d

/-- INPUT_CURRENT_HIGH. -/
def execInputCurrentHigh (cur : Nat) (s : State) : Host.Outcome State Fault Refusal :=
  s.run (.inputCurrentHigh cur) (Dev.currentHigh cur)

/-! ## Tables of words (R392, R394, Table PWR–3) -/

/-- Word `w` of a table of raw 64-byte entries: entry and field. -/
def rawWord (k : Nat) : Fld := ⟨0, 32 * k, 32, .rw, 0⟩

/-- Read word `w` of a raw table. -/
def Dev.rawRd (d : Dev) (t : Tbl) (w : Nat) : Nat := d.rdT t (w / 16) (rawWord (w % 16))

/-- Every entry of a table as unlisted. -/
def Dev.tblClear (d : Dev) (t : Tbl) : Dev := { d with tbls := d.tbls.keep (fun k => k / 536870912 != t.num) }

/-- Fill a raw table with an image. -/
def Dev.rawLoad (d : Dev) (t : Tbl) (im : Store Nat) : Dev :=
  im.foldl (fun (x : Dev) (e : Nat × Nat) => x.wrT t (e.1 / 16) (rawWord (e.1 % 16)) e.2) (d.tblClear t)

/-- A list of words as a store. -/
def wordStore (l : List Nat) : Store Nat :=
  l.zipIdx.foldl (fun (s : Store Nat) (e : Nat × Nat) => s.put 0 e.2 (e.1 % 2 ^ 32)) []

/-- CRC-32 over words, each least significant byte first (R5, Table HIF–11). -/
def crcWords (l : List Nat) : Nat := crc32 (l.flatMap (fun w => leBytes 4 w))

/-! ## The last word (R380–R383) -/

/-- The event count of a class now: what its open windows have counted (R410). -/
def Dev.ftClassCount (d : Dev) (cls : Nat) : Nat :=
  min 65535 ((List.range (ftRow cls).count).foldl (fun s u => s + d.rdT .ftInst (ftIdx cls u) FT_INST.WCOUNT) 0)

/-- The record of Table PWR–3, but for its CRC. -/
def Dev.lwWords (d : Dev) (magA magB lid : Nat) : List Nat :=
  let sa := d.rd .pw PW_FEED_STATUS.STATE_A
  let sb := d.rd .pw PW_FEED_STATUS.STATE_B
  let a := feedState sa magA (sa == 1)
  let b := feedState sb magB (sb == 1)
  let cause := if a = 0 ∧ b = 0 then 2 else 1
  [0x4c575244, (d.rawRd .rsLwRec 1 + 1) % 2 ^ 32,
   d.time.sec % 2 ^ 32, d.time.sec / 2 ^ 32 % 65536 * 65536 + d.time.frac / 65536, d.time.ns,
   cause + (b * 8 + a) * 2 ^ 8 + magA * 2 ^ 16, magB + lid * 2 ^ 16, (d.now - d.pwr.bootAt) / 1000000000] ++
  (List.range 32).map (fun k => d.rd .rs (RS_BACKUP.DATA k)) ++
  (List.range 32).map (fun k => d.ftClassCount (2 * k) + d.ftClassCount (2 * k + 1) * 65536) ++
  (List.range 512).map (fun k => d.rawRd .rsRetain (16 * d.rd .rs RS_LW_CFG.SRC_OFS64 + k)) ++
  List.replicate 439 0

/-- The domains that stop at detection (Table PWR–2): TE, CL, SC, HBM0 and HBM1. -/
def sagFirst : List Nat := [7, 8, 9, 10] ++ (List.range 48).map (· + 11)

/-- The domains that stop 10 µs later: all but AON and SUP. -/
def sagRest : List Nat := (List.range 177).map (· + 2)

/-- The last-word sequence (Table PWR–2): load shed, the forcing of TXDIS and BRST and the stop of both toggles (by
`Dev.txdis`, `Dev.brst` and `Dev.holdOut`), RELEASE for every active tree, every domain but AON and SUP stopped; the
programming of the record begins where the last word is armed and enabled. -/
def Dev.lastWord (magA magB lid : Nat) (d : Dev) : Dev :=
  if d.pwr.lw ≠ 0 ∨ 3300 ≤ max magA magB then d
  else
    let ws := d.lwWords magA magB lid
    let d1 := { d with pwr := { d.pwr with lw := 1 } }
    let d2 := ((d1.stopDomains sagFirst).giveUpAll).stopDomains sagRest
    if d.on .rs RS_LW_STAT.ARMED && d.on .rs RS_LW_CFG.EN then
      { d2 with pwr := { d2.pwr with lwPend := some (wordStore (ws ++ [crcWords ws])) } }
    else { d2 with pwr := { d2.pwr with lw := 2 } }

/-- LAST_WORD_START: feed magnitudes at detection in 10 mV units, lid temperature in 0.1 °C (two's complement). -/
def execLastWordStart (magA magB lid : Nat) (s : State) : Host.Outcome State Fault Refusal :=
  s.run (.lastWordStart magA magB lid) (Dev.watchAll (Dev.lastWord magA magB lid))

/-- The record is programmed and verified: it is the newer valid one. -/
def Dev.lwDone (d : Dev) : Dev :=
  match d.pwr.lwPend with
  | some im =>
    let d1 := (d.rawLoad .rsLwRec im).wrs .rs [(RS_LW_STAT.VALID, 1), (RS_LW_STAT.ARMED, 0)]
    { d1 with pwr := { d1.pwr with lw := 2, lwPend := none } }
  | none => d

/-- LAST_WORD_RECORD_DONE. -/
def execLastWordRecordDone (s : State) : Host.Outcome State Fault Refusal := s.run .lastWordRecordDone Dev.lwDone

/-! ## Cold and warm resets (R384–R386, R388, R389) -/

/-- A cold or warm reset from a source of RS_STAT.LAST_SOURCE: it restarts a sequence of equal or narrower scope, is
absorbed by a cold reset in force when warm, and gives way to the last word (R389). -/
def Dev.bigReset (cold : Bool) (src : Nat) (d : Dev) : Dev :=
  if d.pwr.lw ≠ 0 ∨ (!cold ∧ d.pwr.scope = 3) then d
  else
    let d1 := (d.resetAll cold).wrs .rs
      [(RS_STAT.LAST_SOURCE, src), (RS_STAT.LAST_SCOPE, if cold then 3 else 2), (RS_STAT.PHASE, if cold then 0 else 1)]
    if cold then { d1 with pwr := { d1.pwr with bootAt := d.now } } else d1

/-- A power-on reset (R384, R385, R392): the retained rail's marker and check code decide RETAIN_VALID; without it the
backup registers and the retained SRAM are 0 and the epochs start from the newer valid record's SEQ. -/
def Dev.powerOn (retain : Bool) (d : Dev) : Dev :=
  if d.pwr.lwPowerOn ∧ d.pwr.lw ≠ 1 then
    let d0 := { d with pwr := { d.pwr with lw := 0, lwPowerOn := false } }
    let d1 := ((d0.bigReset true 1).wr .rs RS_STAT.RETAIN_VALID retain.toNat).wr .pw PW_FEED_STATUS.HOLDUP_OK 0
    let seq := d1.rawRd .rsLwRec 1
    let valid := d1.on .rs RS_LW_STAT.VALID
    let d2 := if valid then d1.cnt .pwCnt 6 seq else d1
    if retain then d2
    else
      let ep := if valid then (seq + 1) % 65536 else 1
      let d3 := { d2 with
        regs := d2.regs.keep (fun k => !keyBackup k),
        pwr := { d2.pwr with epochs := (List.range 17).foldl (fun (e : Store Nat) f => e.put 1 f ep) [] } }
      d3.tblClear .rsRetain
  else d

/-- POWER_ON_RESET: `retain` is what the marker and the check code of the retained rail show. -/
def execPowerOnReset (retain : Bool) (s : State) : Host.Outcome State Fault Refusal :=
  s.run (.powerOnReset retain) (Dev.powerOn retain)

/-- A recognised low pulse on RST_N: a cold reset, or a warm one by PIN_WARM, in force until the pin has been high for
1 µs. -/
def Dev.rstN (d : Dev) : Dev :=
  let cold := !d.on .rs RS_RESET_CTRL.PIN_WARM
  if d.pwr.lw ≠ 0 ∨ (!cold ∧ d.pwr.scope = 3) then d
  else
    let d1 := d.bigReset cold 2
    { d1 with pwr := { d1.pwr with rstN := true } }

/-- RST_N_ASSERT. -/
def execRstNAssert (s : State) : Host.Outcome State Fault Refusal := s.run .rstNAssert Dev.rstN

/-- RST_N_RELEASE. -/
def execRstNRelease (s : State) : Host.Outcome State Fault Refusal :=
  s.run .rstNRelease (fun d => { d with pwr := { d.pwr with rstN := false } })

/-! ## Domain resets (R384–R386, R398, R469) -/

/-- RS_STAT.BUSY: a domain reset in progress. -/
def Dev.rsBusy (d : Dev) : Dev := d.wr .rs RS_STAT.BUSY ((List.range 179).any (fun k => (d.dom k).inRst)).toNat

/-- A domain-scope reset begins: the domain's state is reset and it is held until its memories are initialised; a framer
in it stops and what its tree decided is committed. -/
def Dev.domainReset (src k : Nat) (d : Dev) : Dev :=
  let d1 := d.setDom k { d.dom k with inRst := true }
  let d2 := if 11 ≤ k ∧ k < 59 ∧ d1.rd (.te (k - 11) 0) TE_TX_STAT.FSTATE ≠ 0 then d1.framerEnd (k - 11) else d1
  (d2.resetDomain k).wrs .rs [(RS_STAT.BUSY, 1), (RS_STAT.LAST_SOURCE, src), (RS_STAT.LAST_SCOPE, 1)]

/-- A domain-scope reset completes: the domain is released, unless an escalation holds it. -/
def Dev.domainDone (k : Nat) (d : Dev) : Dev :=
  if (d.dom k).inRst then
    let d1 := if (d.dom k).held then d.setDom k { d.dom k with inRst := false } else d.reachRelease k
    d1.rsBusy
  else d

/-- DOMAIN_RESET_DONE. -/
def execDomainResetDone (m : Nat) (s : State) : Host.Outcome State Fault Refusal :=
  s.run (.domainResetDone m) (Dev.domainDone m)

/-- A domain-scope reset of HI: the rings and job queues of all 16 functions stop as by a function-level reset, their
epochs advance, and HI's pages and tables are reset; the data path keeps running (R385). -/
def Dev.hiReset (d : Dev) : Dev :=
  let d1 := (List.range 16).foldl (fun (x : Dev) f =>
    ((x.setJob f none).wrs (.cxt f) [(CX_JOBQ_CI.CI, 0), (CX_JOBQ_PI.PI, 0)]).ringsReset f) d
  { d1 with pwr := { d1.pwr with epochs := bumpEpochs d1.pwr.epochs (List.range 16) } }.domainReset 3 4

/-- A PCIe hot reset or link-down reset. -/
def Dev.hotReset (d : Dev) : Dev :=
  if d.on .rs RS_RESET_CTRL.HOT_WARM then d.bigReset false 3
  else if d.pwr.lw ≠ 0 ∨ d.pwr.scope ≠ 0 then d
  else d.hiReset

/-- PCIE_HOT_RESET. -/
def execPcieHotReset (s : State) : Host.Outcome State Fault Refusal := s.run .pcieHotReset (Dev.watchAll Dev.hotReset)

/-- The lasting states that hold a domain (R411, R469). -/
def Dev.holders (d : Dev) (k : Nat) : List (Nat × Nat) :=
  (d.ft.lasting.filter (fun l => l.act == 5 && ftDomain (ftRow l.cls).scope l.unit == some k)).map (fun l => (l.cls, l.unit))

/-- Whether OP 3 names a domain it may reset. -/
def opDomain (k : Nat) : Bool := (11 ≤ k && k < 139) || (147 ≤ k && k < 179)

/-- A write of RS_RESET_CTRL (R398). -/
def Dev.wResetCtrl (v : Nat) (d : Dev) : Dev :=
  let op := RS_RESET_CTRL.OP.get v
  let k := RS_RESET_CTRL.DOMAIN.get v
  let d1 := d.wrs .rs [(RS_RESET_CTRL.DOMAIN, k), (RS_RESET_CTRL.HOT_WARM, RS_RESET_CTRL.HOT_WARM.get v),
                       (RS_RESET_CTRL.PIN_WARM, RS_RESET_CTRL.PIN_WARM.get v)]
  match op with
  | 0 => d1
  | 1 => d1.bigReset true 6
  | 2 => d1.bigReset false 6
  | 3 =>
    if !opDomain k || d.on .rs RS_STAT.BUSY then d.logErr .rs 0x340
    else if d.pwr.scope ≠ 0 ∨ d.pwr.lw ≠ 0 then d1
    else d1.domainReset 6 k
  | 4 =>
    if (d.holders k).isEmpty then d.logErr .rs 0x340
    else (d.holders k).foldl (fun (x : Dev) e => x.ftEnd e.1 e.2) d1
  | _ => d.logErr .rs 0x340

/-- A write of RS_RESET_CTRL with an OP, under the watch on key A. -/
def Dev.resetOp (b : By) (v op : Nat) (d : Dev) : Dev :=
  d.watchAll (fun d => d.hostF b .rs RS_RESET_CTRL.OP (RS_RESET_CTRL.OP.set v op)
    (Dev.wResetCtrl (RS_RESET_CTRL.OP.set v op)))

/-- RESET_COLD: OP 1. -/
def execResetCold (b : By) (v : Nat) (s : State) : Host.Outcome State Fault Refusal :=
  s.run (.resetCold b v) (Dev.resetOp b v 1)

/-- RESET_WARM: OP 2. -/
def execResetWarm (b : By) (v : Nat) (s : State) : Host.Outcome State Fault Refusal :=
  s.run (.resetWarm b v) (Dev.resetOp b v 2)

/-- RESET_DOMAIN: OP 3. -/
def execResetDomain (b : By) (v : Nat) (s : State) : Host.Outcome State Fault Refusal :=
  s.run (.resetDomain b v) (Dev.resetOp b v 3)

/-- RELEASE_ESCALATED: OP 4. -/
def execReleaseEscalated (b : By) (v : Nat) (s : State) : Host.Outcome State Fault Refusal :=
  s.run (.releaseEscalated b v) (Dev.resetOp b v 4)

/-! ## Calibration (R394–R396) -/

/-- The active bank: valid, and of higher sequence number modulo 2^32; `none` when neither is valid. -/
def Dev.activeBank (d : Dev) : Option Nat :=
  let a := d.pwr.bank0
  let b := d.pwr.bank1
  if a.valid && (!b.valid || (a.seq + 2 ^ 32 - b.seq) % 2 ^ 32 < 2 ^ 31) then some 0 else if b.valid then some 1 else none

/-- A physical bank. -/
def Dev.bank (d : Dev) (k : Nat) : Bank := if k = 0 then d.pwr.bank0 else d.pwr.bank1

/-- Set a physical bank. -/
def Dev.setBank (d : Dev) (k : Nat) (v : Bank) : Dev :=
  if k = 0 then { d with pwr := { d.pwr with bank0 := v } } else { d with pwr := { d.pwr with bank1 := v } }

/-- Show the active bank and its sequence number. -/
def Dev.calShow (d : Dev) : Dev :=
  match d.activeBank with
  | some k => d.wrs .rs [(RS_CAL_STAT.BANK, k), (RS_CAL_SEQ.SEQ, (d.bank k).seq)]
  | none => d

/-- The read of the active bank at a cold or warm reset: its values come into force and its image into RS_CAL_IMG; with
neither bank valid the built-in defaults, with CAL_DEFAULT and class 10.  An abandoned commit shows in INCOMPLETE. -/
def Dev.calRead (d : Dev) : Dev :=
  let d1 := d.wr .rs RS_CAL_STAT.INCOMPLETE d.pwr.abandoned.toNat
  match d1.activeBank with
  | some k =>
    let d2 := { d1 with pwr := { d1.pwr with applied := (d1.bank k).image } }
    (d2.rawLoad .rsCalImg (d2.bank k).image).calShow
  | none => (d1.wr .rs RS_STAT.CAL_DEFAULT 1).report 10 0

/-- The image that a commit writes: RS_CAL_IMG with the header that the module writes itself. -/
def Dev.calImage (d : Dev) (seq : Nat) : Store Nat :=
  let body := (List.range 4092).map (fun w => d.rawRd .rsCalImg (w + 4))
  wordStore ([0x4343414c, seq, crcWords body, 0] ++ body)

/-- RS_CAL_CRC: over RS_CAL_IMG bytes 16–16,383. -/
def Dev.calCrc (d : Dev) : Nat := crcWords ((List.range 4092).map (fun w => d.rawRd .rsCalImg (w + 4)))

/-- A write of RS_CAL_CMD: COMMIT starts on the other bank, whose verify mark goes; RELOAD replaces RS_CAL_IMG; refused
while a command is pending. -/
def Dev.wCalCmd (v : Nat) (d : Dev) : Dev :=
  let op := RS_CAL_CMD.OP.get v
  if d.rd .rs RS_CAL_CMD.STAT = 1 then d.logErr .rs 0x342
  else
    let d1 := d.wr .rs RS_CAL_CMD.OP op
    if op = 1 then
      let k := 1 - d.activeBank.getD 0
      let seq := (match d.activeBank with | some a => (d.bank a).seq + 1 | none => 1) % 2 ^ 32
      let d2 := (d1.wr .rs RS_CAL_CMD.STAT 1).setBank k { image := d.calImage seq, seq := seq, valid := false }
      { d2 with pwr := { d2.pwr with commit := some k } }
    else if op = 2 then
      let d2 := d1.wr .rs RS_CAL_CMD.STAT 0
      match d.activeBank with
      | some k => d2.rawLoad .rsCalImg (d.bank k).image
      | none => d2
    else (d1.wr .rs RS_CAL_CMD.STAT 3).logErr .rs 0x342

/-- CAL_COMMIT. -/
def execCalCommit (b : By) (v : Nat) (s : State) : Host.Outcome State Fault Refusal :=
  s.run (.calCommit b v) (fun d =>
    d.hostF b .rs RS_CAL_CMD.OP (RS_CAL_CMD.OP.set v 1) (Dev.wCalCmd (RS_CAL_CMD.OP.set v 1)))

/-- CAL_RELOAD. -/
def execCalReload (b : By) (v : Nat) (s : State) : Host.Outcome State Fault Refusal :=
  s.run (.calReload b v) (fun d =>
    d.hostF b .rs RS_CAL_CMD.OP (RS_CAL_CMD.OP.set v 2) (Dev.wCalCmd (RS_CAL_CMD.OP.set v 2)))

/-- A commit ends: its bank is marked and becomes the active one, or the verify failed and the mark stays unwritten. -/
def Dev.calDone (ok : Bool) (d : Dev) : Dev :=
  match d.pwr.commit with
  | none => d
  | some k =>
    let d1 := ({ d with pwr := { d.pwr with commit := none } }).wr .rs RS_CAL_CMD.STAT 0
    if ok then ((d1.setBank k { d1.bank k with valid := true }).calShow).raise .rs 1
    else ((d1.wr .rs RS_CAL_STAT.VERIFY_FAIL 1).raise .rs 2).report 10 0

/-- CAL_DONE. -/
def execCalDone (ok : Bool) (s : State) : Host.Outcome State Fault Refusal := s.run (.calDone ok) (Dev.calDone ok)

/-- A write of RS_CAL_STAT: INCOMPLETE and VERIFY_FAIL by W1C; a cleared INCOMPLETE stays cleared after a reset. -/
def Dev.wCalStat (v : Nat) (d : Dev) : Dev :=
  let d1 := (d.wrFld .rs RS_CAL_STAT.VERIFY_FAIL v).wrFld .rs RS_CAL_STAT.INCOMPLETE v
  if RS_CAL_STAT.INCOMPLETE.get v = 1 then { d1 with pwr := { d1.pwr with abandoned := false } } else d1

/-! ## The release order (R386, R387) -/

/-- The domains of step 7 in order: TM, HY, PKT with BP, CX, BW, BD and PX, CL, SC, TE, LN, UL. -/
def step7 : List Nat := [5, 2, 6, 7, 8] ++ (List.range 168).map (· + 11)

/-- A step without domains of its own completes. -/
def Dev.phaseTo (d : Dev) (p : Nat) : Dev := d.wr .rs RS_STAT.PHASE p

/-- The next step of Table PWR–6, when none waits for CLK_GOOD and the reset's source is released. -/
def Dev.releaseStep (d : Dev) : Dev :=
  if d.pwr.scope = 0 ∨ d.pwr.rstN ∨ d.pwr.lw ≠ 0 ∨ d.pwr.relQ ≠ [] then d
  else
    match d.rd .rs RS_STAT.PHASE with
    | 0 =>
      let d1 := (d.releaseDom 0).wrT .ckDomainCtrl 0 CK_DOMAIN_CTRL.CUR_SRC 1
      ({ d1 with clk := { d1.clk with aonWait := true } }).phaseTo 1
    | 1 => (((d.releaseDom 1).calRead).cmpStart).phaseTo 2
    | 2 => (d.releaseDom 3).phaseTo 3
    | 3 => Dev.relRun [4] d
    | 4 =>
      ((List.range 17).foldl (fun (x : Dev) i =>
        if x.onT .ckLoop i CK_LOOP.LOCKED || x.onT .ckLoop i CK_LOOP.FAILED || !x.onT .ckLoop i CK_LOOP.EN then x
        else x.loopLock i) d).phaseTo 5
    | 5 => Dev.relRun [9, 10] d
    | _ => Dev.relRun step7 d

/-- RELEASE_STEP. -/
def execReleaseStep (s : State) : Host.Outcome State Fault Refusal := s.run .releaseStep Dev.releaseStep

/-! ## The watchdog (R393) -/

/-- A write of RS_WDT: refused where it would change PERIOD_MS or WDT_COLD of a running watchdog, or names a period below
10 ms; EN is only ever set; KICK restarts the count. -/
def Dev.wWdt (v : Nat) (d : Dev) : Dev :=
  let en := d.on .rs RS_WDT.EN
  let per := RS_WDT.PERIOD_MS.get v
  let cold := RS_WDT.WDT_COLD.get v
  if per < 10 ∨ (en ∧ (per ≠ d.rd .rs RS_WDT.PERIOD_MS ∨ cold ≠ d.rd .rs RS_WDT.WDT_COLD)) then d.logErr .rs 0x341
  else
    let d1 := d.wrs .rs [(RS_WDT.PERIOD_MS, per), (RS_WDT.WDT_COLD, cold), (RS_WDT.EN, if en then 1 else RS_WDT.EN.get v)]
    if RS_WDT.KICK.get v = 1 ∨ (!en ∧ RS_WDT.EN.get v = 1) then
      { d1 with pwr := { d1.pwr with wdtStart := d.now, wdtWarned := false } }
    else d1

/-- WATCHDOG_KICK: a write of RS_WDT with KICK = 1. -/
def execWatchdogKick (b : By) (v : Nat) (s : State) : Host.Outcome State Fault Refusal :=
  s.run (.watchdogKick b v) (fun d =>
    d.hostF b .rs RS_WDT.KICK (RS_WDT.KICK.set v 1) (Dev.wWdt (RS_WDT.KICK.set v 1)))

/-- 75% of PERIOD_MS has passed without a kick. -/
def Dev.wdtWarn (d : Dev) : Dev :=
  if d.on .rs RS_WDT.EN && !d.pwr.wdtWarned then
    (({ d with pwr := { d.pwr with wdtWarned := true } }).raise .rs 0).report 9 0
  else d

/-- WATCHDOG_WARN. -/
def execWatchdogWarn (s : State) : Host.Outcome State Fault Refusal := s.run .watchdogWarn Dev.wdtWarn

/-- The whole period has passed without a kick: a warm reset, or a cold one by WDT_COLD. -/
def Dev.wdtExpire (d : Dev) : Dev :=
  if d.on .rs RS_WDT.EN then d.bigReset (d.on .rs RS_WDT.WDT_COLD) 4 else d

/-- WATCHDOG_EXPIRY. -/
def execWatchdogExpiry (s : State) : Host.Outcome State Fault Refusal := s.run .watchdogExpiry Dev.wdtExpire

end Sys2Proof.Machine
end

