-- ==== Sys2Proof/Machine/Ranging.lean ====
section
/-! DEFINITION. The ranging sequencer's registers, commands and events (R104–R130). -/

namespace Sys2Proof.Machine

/-! ## Configuration registers (R106, R109, R110, R126) -/

/-- Length of a discovery quiet window in nanoseconds (R109). -/
def discNs (diff rand : Nat) : Nat := max 40000 (9800 * diff + 1000 * rand + 4000)

/-- A write of TE_RANGE_CFG: R106 refuses with 0x140, a field out of range or a window over 420 µs with 0x141. -/
def Dev.wRangeCfg (n v : Nat) (d : Dev) : Dev :=
  let p : Page := .te n 2
  let km := TE_RANGE_CFG.MAX_KM.get v
  let diff := TE_RANGE_CFG.DIFF_KM.get v
  let t := TE_RANGE_CFG.TEQD_NS.get v
  let differs := km != d.rd p TE_RANGE_CFG.MAX_KM || diff != d.rd p TE_RANGE_CFG.DIFF_KM ||
    t != d.rd p TE_RANGE_CFG.TEQD_NS
  if (differs && d.on (.te n 0) TE_TX_CTRL.FRAMER_EN) || decide (t < 37000 + 9800 * km ∨ 1000000 < t) then
    d.logErr p 0x140
  else if km < 1 ∨ 60 < km ∨ min 40 km < diff ∨ 420000 < discNs diff (d.rd p TE_DISC_CFG.RAND_SPAN_US) then
    d.logErr p 0x141
  else d.wrs p [(TE_RANGE_CFG.MAX_KM, km), (TE_RANGE_CFG.DIFF_KM, diff), (TE_RANGE_CFG.TEQD_NS, t)]

/-- A write of TE_DISC_CFG. -/
def Dev.wDiscCfg (n v : Nat) (d : Dev) : Dev :=
  let p : Page := .te n 2
  let per := TE_DISC_CFG.PERIOD_MS.get v
  let rand := TE_DISC_CFG.RAND_SPAN_US.get v
  let prof := TE_DISC_CFG.DISC_PROFILE.get v
  if per < 10 ∨ 60000 < per ∨ 48 < rand ∨ 420000 < discNs (d.rd p TE_RANGE_CFG.DIFF_KM) rand ∨
      !d.onT (.teBurstProfile n) prof TE_BURST_PROFILE.VALID ∨
      d.onT (.teBurstProfile n) prof TE_BURST_PROFILE.RECALL_REQ then d.logErr p 0x141
  else
    let d1 := d.wrs p
      [(TE_DISC_CFG.PERIOD_MS, per), (TE_DISC_CFG.RAND_SPAN_US, rand), (TE_DISC_CFG.DISC_PROFILE, prof),
       (TE_DISC_CFG.AUTO_ASSIGN, TE_DISC_CFG.AUTO_ASSIGN.get v), (TE_DISC_CFG.AUTO_AUTH, TE_DISC_CFG.AUTO_AUTH.get v),
       (TE_DISC_CFG.DISC_EN, TE_DISC_CFG.DISC_EN.get v)]
    d1.commitNow n

/-- ONUs whose ranging grants have failed as often as RANGE_TRIES now says are lost (R118, Table RNG–2). -/
def Dev.rangeLimit (d : Dev) (n : Nat) : Dev :=
  let due := (d.sq n).rng.filter (fun e => d.onuSt n e.1 == 2 && decide (d.rd (.te n 2) TE_DRIFT_CFG.RANGE_TRIES ≤ e.2.fails))
  if d.standby n then d else due.foldl (fun (x : Dev) e => x.rangeFail n e.1) d

/-- A write of TE_DRIFT_CFG. -/
def Dev.wDriftCfg (n v : Nat) (d : Dev) : Dev :=
  let p : Page := .te n 2
  let hard := TE_DRIFT_CFG.HARD_UI.get v
  let soft := TE_DRIFT_CFG.SOFT_UI.get v
  if hard < 2 ∨ 64 < hard ∨ soft < 1 ∨ hard ≤ soft ∨ TE_DRIFT_CFG.LOB_BURSTS.get v = 0 ∨
      TE_DRIFT_CFG.RANGE_TRIES.get v = 0 then d.logErr p 0x141
  else
    ((d.wrs p [(TE_DRIFT_CFG.HARD_UI, hard), (TE_DRIFT_CFG.SOFT_UI, soft),
      (TE_DRIFT_CFG.LOB_BURSTS, TE_DRIFT_CFG.LOB_BURSTS.get v), (TE_DRIFT_CFG.AUTO_RERANGE, TE_DRIFT_CFG.AUTO_RERANGE.get v),
      (TE_DRIFT_CFG.RANGE_TRIES, TE_DRIFT_CFG.RANGE_TRIES.get v)]).rangeLimit n).commitNow n

/-- A write of TE_ROGUE_CFG. -/
def Dev.wRogueCfg (n v : Nat) (d : Dev) : Dev :=
  if TE_ROGUE_CFG.HUNT_OBS.get v = 0 then d.logErr (.te n 2) 0x141
  else d.wrs (.te n 2) [(TE_ROGUE_CFG.HUNT_OBS, TE_ROGUE_CFG.HUNT_OBS.get v), (TE_ROGUE_CFG.HUNT_EN, TE_ROGUE_CFG.HUNT_EN.get v)]

/-! ## Host commands (R125, R127) -/

/-- A write of TE_ONU_CMD: discarded while a command is pending, refused with an undefined OP, else pending until the
next commit. -/
def Dev.wOnuCmd (n v : Nat) (d : Dev) : Dev :=
  let p : Page := .te n 2
  let op := TE_ONU_CMD.OP.get v
  if d.rd p TE_ONU_CMD.STAT = 1 then d.logErr p 0x142
  else if op = 0 ∨ 8 ≤ op then d.logErr p 0x144
  else
    (d.wrs p [(TE_ONU_CMD.OP, op), (TE_ONU_CMD.INDEX, TE_ONU_CMD.INDEX.get v), (TE_ONU_CMD.STAT, 1)]).commitNow n

/-- The write of TE_ONU_CMD that issues one operation. -/
def Dev.onuCmd (b : By) (n v op : Nat) (d : Dev) : Dev :=
  d.hostF b (.te n 2) TE_ONU_CMD.OP (TE_ONU_CMD.OP.set v op) (Dev.wOnuCmd n (TE_ONU_CMD.OP.set v op))

/-- ONU_AUTHORISE. -/
def execOnuAuthorise (b : By) (n v : Nat) (s : State) : Host.Outcome State Fault Refusal :=
  s.run (.onuAuthorise b n v) (Dev.onuCmd b n v 1)
/-- ONU_RERANGE. -/
def execOnuRerange (b : By) (n v : Nat) (s : State) : Host.Outcome State Fault Refusal :=
  s.run (.onuRerange b n v) (Dev.onuCmd b n v 2)
/-- ONU_DEACTIVATE. -/
def execOnuDeactivate (b : By) (n v : Nat) (s : State) : Host.Outcome State Fault Refusal :=
  s.run (.onuDeactivate b n v) (Dev.onuCmd b n v 3)
/-- ONU_DISABLE. -/
def execOnuDisable (b : By) (n v : Nat) (s : State) : Host.Outcome State Fault Refusal :=
  s.run (.onuDisable b n v) (Dev.onuCmd b n v 4)
/-- ONU_ENABLE. -/
def execOnuEnable (b : By) (n v : Nat) (s : State) : Host.Outcome State Fault Refusal :=
  s.run (.onuEnable b n v) (Dev.onuCmd b n v 5)
/-- ONU_RELEASE. -/
def execOnuRelease (b : By) (n v : Nat) (s : State) : Host.Outcome State Fault Refusal :=
  s.run (.onuRelease b n v) (Dev.onuCmd b n v 6)
/-- HUNT_ABORT. -/
def execHuntAbort (b : By) (n v : Nat) (s : State) : Host.Outcome State Fault Refusal :=
  s.run (.huntAbort b n v) (Dev.onuCmd b n v 7)

/-! ## Discovery (R107–R113) -/

/-- Discovery is pending on the tree of group port `n` (R108, R126, R129). -/
def Dev.discPending (d : Dev) (n : Nat) : Bool :=
  d.seqActs n && n == d.groupPort n && d.on (.te n 2) TE_DISC_CFG.DISC_EN &&
    (List.range 256).any (fun j => d.onuSt n j == 6 || (d.onuSt n j == 0 && !d.onT (.teOnu n) j TE_ONU.MCAST)) &&
    d.inService (d.lead n) && d.rd (.te (d.lead n) 0) TE_TX_STAT.FSTATE == 2 && d.on (.te (d.lead n) 1) TE_RX_CTRL.RX_EN &&
    (d.sq n).hunt.isNone

/-- A discovery window opens (R107–R110): its quiet window ends with the upstream frame whose map carries the
serial-number grant, the first one that lets all of it lie ahead; EqD_pre is announced to the tree.  Where it would cross
a quiet window already reserved, no window opens in this frame, as no map grants in a quiet window (DESIGN CHOICE,
log 68). -/
def Dev.discOpen (n : Nat) (d : Dev) : Dev :=
  let m := d.lead n
  let c := d.blocks m
  let rand := d.rd (.te n 2) TE_DISC_CFG.RAND_SPAN_US
  let w := nsToBlocks c (discNs (d.rd (.te n 2) TE_RANGE_CFG.DIFF_KM) rand)
  let k := (w + c - 1) / c
  let q := d.sq n
  if !d.discPending n || q.win.isSome ||
      q.quiet.any (fun z => z.port == m && spansMeet z.first z.last ((k * c : Nat) - (w : Nat) : Int) (k * c : Nat)) then d
  else
    let g : Grant := { wireId := bcastOnu, start := c - nsToBlocks c (1000 * rand + 3000), size := 4, prof := 0,
                       dbru := false, ploamu := false, seq := true, alloc := none, onu := bcastOnu, tenant := 0, kind := 3 }
    let z : Quiet := { port := m, first := ((k * c : Nat) : Int) - w, last := (k * c : Nat), frame := k - 1,
                       grant := some g, prof := d.rd (.te n 2) TE_DISC_CFG.DISC_PROFILE }
    let d1 := d.setSq n { q with quiet := q.quiet ++ [z], discSince := some d.now,
                                 win := some { sfc := 0, serials := [], overflow := false, resent := [] } }
    ((d1.wr (.te n 2) TE_DISC_STAT.OPEN 1).cnt (.teRngCnt n) 0).ploam n bcastOnu .rangingTime
      (beBytes 4 (d.eqdUnits n (d.eqdPre n)))

/-- DISCOVERY_WINDOW_OPEN. -/
def execDiscoveryWindowOpen (n : Nat) (s : State) : Host.Outcome State Fault Refusal :=
  s.run (.discoveryWindowOpen n) (Dev.discOpen n)

/-- Record a serial number that the sequencer did not place (Table RNG–12). -/
def Dev.snUnknown (d : Dev) (n reason serial sfc : Nat) : Dev :=
  let i := d.rd (.te n 2) TE_DISC_STAT.UNK_NEXT
  ((d.wrTs (.teSnUnk n) i [(TE_SN_UNK.REASON, reason), (TE_SN_UNK.SFC, sfc), (TE_SN_UNK.SERIAL, serial)]).wr (.te n 2)
    TE_DISC_STAT.UNK_NEXT (i + 1)).raise (.te n 2) 1

/-- The first entry with SN_VALID = 1 and a serial number, in one of the states. -/
def Dev.snEntry (d : Dev) (n serial : Nat) (sts : List Nat) : Option Nat :=
  (List.range 256).find? (fun j => sts.contains (d.onuSt n j) && d.onT (.teOnu n) j TE_ONU.SN_VALID &&
    d.rdT (.teOnu n) j TE_ONU.SERIAL == serial)

/-- The lowest EMPTY entry without a serial number, not multicast and not already chosen (Table RNG–1 case 4). -/
def Dev.snFree (d : Dev) (n : Nat) : Option Nat :=
  (List.range 256).find? (fun j => d.onuSt n j == 0 && !d.onT (.teOnu n) j TE_ONU.SN_VALID &&
    !d.onT (.teOnu n) j TE_ONU.MCAST && !(d.sq n).trans.any (fun t => t.onu == j && t.dest == 1))

/-- Table RNG–1: the handling of an accepted serial number. -/
def Dev.snHandle (d : Dev) (n serial rnd rtd : Nat) (w : DiscWin) : Dev :=
  let move (j : Nat) (c4 : Bool) : Dev := d.planNow n
    { onu := j, dest := 1, cause := 2, rank := 4, serial := serial, rtd := rtd, rnd := rnd, case4 := c4 }
  match d.snEntry n serial [7] with
  | some j =>
    let d1 := if w.resent.contains serial then d else
      (d.setSq n { d.sq n with win := some { w with resent := serial :: w.resent } }).disableSn n j true
    d1.snUnknown n 3 serial w.sfc
  | none =>
    match d.snEntry n serial [1, 2, 3, 4, 5] with
    | some _ => (d.snUnknown n 2 serial w.sfc).report 39 n
    | none =>
      match d.snEntry n serial [0, 6] with
      | some j => move j false
      | none =>
        match (if d.on (.te n 2) TE_DISC_CFG.AUTO_ASSIGN then d.snFree n else none) with
        | some j => move j true
        | none => d.snUnknown n 1 serial w.sfc

/-- Whether a candidate is a serial-number burst (R111): its 64 bits match the discovery profile's delimiter, its header is
correctable and names the unassigned ONU-ID, and its message passes its integrity check under the default key. -/
def Dev.snGood (d : Dev) (n bits hdr id : Nat) (bytes : List Byte) (mic : Nat) : Bool :=
  let m := d.lead n
  let prof := d.rd (.te n 2) TE_DISC_CFG.DISC_PROFILE
  decide (bitDiff bits (d.rdT (.teBurstProfile n) prof TE_BURST_PROFILE.DELIMITER) ≤ (d.rxCfgAt m).tol) && hdr != 0 &&
    id == bcastOnu && d.ploamMic none bytes == mic

/-- An accepted serial-number burst (R104, R111–R113): `err` is A less T, TEQD and S_d in 1/64 UI, `rnd` the random delay
in nanoseconds.  A serial number accepted before in the window is counted as a duplicate and as no further acceptance
(DESIGN CHOICE, log 69). -/
def Dev.snAccept (n serial rnd : Nat) (err : Int) (d : Dev) : Dev :=
  match (d.sq n).win with
  | none => d
  | some w =>
    if 16 ≤ w.serials.length then
      if w.overflow then d
      else (d.setSq n { d.sq n with win := some { w with overflow := true } }).snUnknown n 4 serial w.sfc
    else if w.serials.contains serial then d.cnt (.teRngCnt n) 3
    else
      let w1 : DiscWin := { w with serials := w.serials ++ [serial] }
      let c := d.blocks (d.lead n)
      let rtd : Int := (d.teqdUi n : Int) + wholeUi err - d.eqdPre n - nsToUi c rnd
      ((d.setSq n { d.sq n with win := some w1 }).cnt (.teRngCnt n) 1).snHandle n serial rnd (toBits 32 rtd) w1

/-- SN_BURST_ACCEPT. -/
def execSnBurstAccept (n bits hdr id serial rnd : Nat) (err : Int) (bytes : List Byte) (mic : Nat) (s : State) :
    Host.Outcome State Fault Refusal :=
  s.run (.snBurstAccept n bits hdr id serial rnd err bytes mic) (fun d =>
    if d.snGood n bits hdr id bytes mic then Dev.snAccept n serial rnd err d else d)

/-- A discovery window ends (R112): a collision is one in which energy was detected under R101 and nothing accepted. -/
def Dev.discEnd (n amp dur : Nat) (d : Dev) : Dev :=
  match (d.sq n).win with
  | none => d
  | some w =>
    let d1 := (d.setSq n { d.sq n with win := none }).wrs (.te n 2)
      [(TE_DISC_STAT.OPEN, 0), (TE_DISC_STAT.SN_LAST, w.serials.length)]
    if d.isEnergy (d.lead n) amp dur && w.serials.isEmpty then d1.cnt (.teRngCnt n) 2 else d1

/-- DISCOVERY_WINDOW_END. -/
def execDiscoveryWindowEnd (n amp dur : Nat) (s : State) : Host.Outcome State Fault Refusal :=
  s.run (.discoveryWindowEnd n amp dur) (Dev.discEnd n amp dur)

/-- An entry has been DISCOVERED for 1,000 ms without AUTH (Table RNG–2). -/
def Dev.discoveredTimeout (n j : Nat) (d : Dev) : Dev :=
  if d.onuSt n j = 1 ∧ !d.onT (.teOnu n) j TE_ONU.AUTH ∧ !d.standby n then d.planNow n (Trans.plain j 0 4 4) else d

/-- DISCOVERED_TIMEOUT. -/
def execDiscoveredTimeout (n j : Nat) (s : State) : Host.Outcome State Fault Refusal :=
  s.run (.discoveredTimeout n j) (Dev.discoveredTimeout n j)

/-! ## Ranging (R118) -/

/-- An accepted ranging burst, whose slot is at a place: measured, or the confirmation of its EqD. -/
def Dev.rangingAccept (m k : Nat) (d : Dev) : Dev :=
  let n := d.groupPort m
  d.withSlot m k [.payload] (fun s d =>
    match (if s.kind = 2 && !s.taken && d.onuSt n s.onu == 2 && d.live (.te n 2) && !d.standby n then d.rng n s.onu
           else none) with
    | none => d
    | some r =>
      let d1 := d.setSlot m k { s with taken := true }
      if r.wait then d1
      else if r.confirm ∧ s.arrErr.natAbs ≤ marginUi s.cfg.margin then d1.planNow n (Trans.plain s.onu 3 5 4)
      else d1.measure n s.onu r (wholeUi s.arrErr))

/-- RANGING_BURST_ACCEPT. -/
def execRangingBurstAccept (n slotk : Nat) (s : State) : Host.Outcome State Fault Refusal :=
  s.run (.rangingBurstAccept n slotk) (Dev.rangingAccept n slotk)

/-- An acknowledgement of Ranging_Time, if its integrity code fits and its sequence number is that of such a message
(R63, R65): the confirming step begins, or drift sampling resumes with the maps handed over from now on (R118, R120,
R292). -/
def Dev.rangingAck (n j : Nat) (bytes : List Byte) (mic : Nat) (d : Dev) : Dev :=
  let r := d.usPloamOk n j bytes mic
  if !r.1 then r.2
  else
    match r.2.rng n j with
    | none => r.2
    | some g =>
      if !g.wait || !g.seqs.contains (ploamSeqOf bytes) then r.2
      else if r.2.onuSt n j = 2 then
        r.2.setRng n j { g with wait := false, confirm := true, used := r.2.rdT (.teOnu n) j TE_ONU.EQD }
      else
        let q := r.2.sq n
        r.2.setSq n { q with rng := q.rng.del j, resume := q.resume.ins j (r.2.nextMap n) }

/-- RANGING_TIME_ACK. -/
def execRangingTimeAck (n j : Nat) (bytes : List Byte) (mic : Nat) (s : State) : Host.Outcome State Fault Refusal :=
  s.run (.rangingTimeAck n j bytes mic) (Dev.rangingAck n j bytes mic)

/-- Whether a Ranging_Time to an ONU waits at the framer: its eight frames have not begun. -/
def Dev.rangingWaits (d : Dev) (n j : Nat) : Bool :=
  (d.fr (d.lead n)).seqQ.any (fun m => m.type == .rangingTime && m.onu == j)

/-- Eight frames have passed without an acknowledgement: Ranging_Time is sent again, or after RANGE_TRIES sends the ONU
is lost, or drifts when it was OPERATING (Table RNG–2). -/
def Dev.ackTimeout (n j : Nat) (d : Dev) : Dev :=
  match (if d.live (.te n 2) && !d.standby n then d.rng n j else none) with
  | none => d
  | some r =>
    if !r.wait || d.rangingWaits n j then d
    else if r.sends < d.rd (.te n 2) TE_DRIFT_CFG.RANGE_TRIES then
      (d.setRng n j { r with sends := r.sends + 1 }).rangingTime n j
    else if d.onuSt n j = 2 then d.rangeFail n j
    else d.planNow n (Trans.plain j 4 8 4)

/-- RANGING_ACK_TIMEOUT. -/
def execRangingAckTimeout (n j : Nat) (s : State) : Host.Outcome State Fault Refusal :=
  s.run (.rangingAckTimeout n j) (Dev.ackTimeout n j)

/-! ## The rogue hunt (R124) -/

/-- A round of a hunt has been listened to. -/
def Dev.huntNext (n : Nat) (d : Dev) : Dev :=
  match (if d.live (.te n 2) && !d.standby n then (d.sq n).hunt else none) with
  | none => d
  | some h =>
    if !h.listening then d
    else
      let d1 := d.wr (.te n 2) TE_SEQ_STAT.ROUND (d.rd (.te n 2) TE_SEQ_STAT.ROUND + 1)
      let d2 :=
        if h.confirming then
          if h.energy then (d1.huntRelease n h.suspects).huntEnd n 3 else d1.huntEnd n 2
        else if h.energy then
          (d1.huntRelease n h.half).huntRound n (h.suspects.filter (fun j => !h.half.contains j))
            (h.isolated.filter (fun j => !h.half.contains j))
        else d1.huntRound n h.half h.isolated
      d2.commitNow n

/-- HUNT_ROUND_END. -/
def execHuntRoundEnd (n : Nat) (s : State) : Host.Outcome State Fault Refusal :=
  s.run (.huntRoundEnd n) (Dev.huntNext n)

end Sys2Proof.Machine
end

