-- ==== Sys2Proof/Machine/Receiver.lean ====
section
/-! DEFINITION. The burst receiver's registers and events (R80–R103). -/

namespace Sys2Proof.Machine

/-! ## Registers (R84, R99, R102) -/

/-- A write of TE_RX_CTRL: RX_EN = 0 lets a burst in PAYLOAD close and discards every other slot; RX_EN = 1 wakes the
lane (R338). -/
def Dev.wRxCtrl (n v : Nat) (d : Dev) : Dev :=
  let p : Page := .te n 1
  let was := d.on p TE_RX_CTRL.RX_EN
  let en := TE_RX_CTRL.RX_EN.get v
  let d1 := d.wrs p [(TE_RX_CTRL.RX_EN, en), (TE_RX_CTRL.PREARM_EN, TE_RX_CTRL.PREARM_EN.get v),
    (TE_RX_CTRL.LISTEN_EN, TE_RX_CTRL.LISTEN_EN.get v), (TE_RX_CTRL.RECALL_EN, TE_RX_CTRL.RECALL_EN.get v)]
  if en = 0 then
    let r := d1.rx n
    d1.setRx n { r with cur := r.cur.filter (fun s => s.st == .payload),
                        next := r.next.filter (fun s => s.st == .payload), pre := [] }
  else if was then d1 else d1.laneWake n

/-- RX_DISABLE: a write of TE_RX_CTRL with RX_EN = 0. -/
def execRxDisable (b : By) (n v : Nat) (s : State) : Host.Outcome State Fault Refusal :=
  s.run (.rxDisable b n v) (fun d =>
    d.hostF b (.te n 1) TE_RX_CTRL.RX_EN (TE_RX_CTRL.RX_EN.set v 0) (Dev.wRxCtrl n (TE_RX_CTRL.RX_EN.set v 0)))

/-- A write of TE_RX_CFG: refused whole with 0x122 when a field is out of range (R102). -/
def Dev.wRxCfg (n v : Nat) (d : Dev) : Dev :=
  if TE_RX_CFG.RECALL_AGE.get v = 0 ∨ 8 < TE_RX_CFG.DELIM_TOL.get v ∨ TE_RX_CFG.WIN_MARGIN.get v < 9 then
    d.logErr (.te n 1) 0x122
  else
    d.wrs (.te n 1) [(TE_RX_CFG.RECALL_AGE, TE_RX_CFG.RECALL_AGE.get v), (TE_RX_CFG.DELIM_TOL, TE_RX_CFG.DELIM_TOL.get v),
                     (TE_RX_CFG.WIN_MARGIN, TE_RX_CFG.WIN_MARGIN.get v)]

/-- A write of TE_RX_BRST. -/
def Dev.wRxBrst (n v : Nat) (d : Dev) : Dev :=
  let lo := TE_RX_BRST.BRST_MIN.get v
  let w := TE_RX_BRST.BRST_WIDTH.get v
  if lo = 0 ∨ w < lo then d.logErr (.te n 1) 0x122
  else d.wrs (.te n 1) [(TE_RX_BRST.BRST_MIN, lo), (TE_RX_BRST.BRST_WIDTH, w)]

/-- A write of TE_RX_LISTEN. -/
def Dev.wRxListen (n v : Nat) (d : Dev) : Dev :=
  if TE_RX_LISTEN.ENERGY_MIN.get v = 0 ∨ TE_RX_LISTEN.IDLE_MIN.get v = 0 then d.logErr (.te n 1) 0x122
  else
    d.wrs (.te n 1) [(TE_RX_LISTEN.ENERGY_MIN, TE_RX_LISTEN.ENERGY_MIN.get v),
      (TE_RX_LISTEN.ENERGY_THR, TE_RX_LISTEN.ENERGY_THR.get v), (TE_RX_LISTEN.IDLE_MIN, TE_RX_LISTEN.IDLE_MIN.get v)]

/-! ## The states of a burst (Table BRX–5) -/

/-- BURST_LOCK_START: the slot at a place leaves ARMED for LOCK; the shadow tap bank, with what the burst starts from,
becomes the live one. -/
def execBurstLockStart (n slotk : Nat) (s : State) : Host.Outcome State Fault Refusal :=
  s.run (.burstLockStart n slotk) (fun d =>
    d.withSlot n slotk [.armed] (fun x d =>
      let d1 := d.setSlot n slotk { x with st := .lock }
      d1.setRx n { d1.rx n with shadow := x.taps, live := x.taps }))

/-- SEARCH_WINDOW_OPEN: the slot goes from LOCK to SEARCH, whether or not the DSP has declared lock by then. -/
def execSearchWindowOpen (n slotk : Nat) (locked : Bool) (s : State) : Host.Outcome State Fault Refusal :=
  s.run (.searchWindowOpen n slotk locked) (fun d =>
    d.withSlot n slotk [.lock] (fun x d => d.setSlot n slotk { x with st := .search, locked := locked }))

/-- Half-width of a burst's arrival window in 1/64 UI (R93, R118, R185, R211): a ranging burst is searched for over its
quiet window, a probe over SKEW_MAX_US and 2 µs, a burst of a standby that acquires over 7.5 µs. -/
def Dev.window (d : Dev) (m : Nat) (s : Slot) : Option Nat :=
  let c := d.blocks m
  if s.kind = 2 then none
  else if d.acquiring m then some (64 * nsToUi c 7500)
  else if s.kind = 4 then
    match d.groupOf m with
    | some g => some (64 * (d.skewMax g + nsToUi c 2000))
    | none => none
  else some (marginUi s.cfg.margin)

/-- A candidate for the delimiter: the 64 bits received, whose last lies `err` in 1/64 UI after D, and the header that
follows: `hdr` 0 uncorrectable, 1 good, 2 corrected (R93, R94).  One that differs too much from the profile's DELIMITER or
lies outside the window is ignored; so is one on a member out of service, whose bursts are lost (R190). -/
def Dev.delimMatch (n k bits hdr id : Nat) (err : Int) (gasp : Bool) (d : Dev) : Dev :=
  d.withSlot n k [.search] (fun x d =>
    let diff := bitDiff bits (d.rdT (.teBurstProfile n) x.prof TE_BURST_PROFILE.DELIMITER)
    let far : Bool := match d.window n x with
      | some w => decide (w < err.natAbs)
      | none => false
    if x.cfg.tol < diff ∨ far = true ∨ d.inService n = false then d
    else if hdr = 0 then d.setSlot n k { x with lastUncorr := true }
    else if id = x.onu then
      let y : Slot := { x with st := .payload, corrected := hdr == 2, delimErr := diff, arrErr := err, locked := true }
      let d1 := d.setSlot n k y
      let d2 := if hdr = 2 then d1.cnt (.teUsCnt n) 2 else d1
      if gasp then d2.reportOnu 40 (d.groupPort n) x.onu else d2
    else if d.acquiring n then d
    else
      let g := d.groupPort n
      let known := x.foreignIds.contains id && d.attributable g id
      let d1 := d.setSlot n k { x with foreign := true, foreignIds := x.foreignIds ++ [id], lastUncorr := false }
      let d2 := d1.raise (.te n 1) 0
      if known then d2 else d2.rogue n (some id))

/-- DELIMITER_MATCH. -/
def execDelimiterMatch (n slotk bits hdr id : Nat) (err : Int) (gasp : Bool) (s : State) :
    Host.Outcome State Fault Refusal :=
  s.run (.delimiterMatch n slotk bits hdr id err gasp) (Dev.delimMatch n slotk bits hdr id err gasp)

/-- SEARCH_WINDOW_CLOSE: the burst closes from SEARCH. -/
def execSearchWindowClose (n slotk : Nat) (locked : Bool) (s : State) : Host.Outcome State Fault Refusal :=
  s.run (.searchWindowClose n slotk locked) (fun d =>
    d.withSlot n slotk [.search] (fun x d =>
      let y := { x with locked := x.locked || locked }
      d.closeBad n slotk y y.outcome))

/-- BURST_PAYLOAD_END: the burst closes as accepted, with the state to which the equaliser converged; on a member that went
out of service it is lost (R190). -/
def execBurstPayloadEnd (n slotk ffe dfe dc freq gain thresh phase : Nat) (s : State) :
    Host.Outcome State Fault Refusal :=
  s.run (.burstPayloadEnd n slotk ffe dfe dc freq gain thresh phase) (fun d =>
    d.withSlot n slotk [.payload] (fun x d =>
      if !d.inService n then d.closeBad n slotk x x.outcome
      else d.closeGood n slotk x { ffe := ffe, dfe := dfe, dc := dc, freq := freq, gain := gain, thresh := thresh, phase := phase }))

/-! ## Burst reset (R99) -/

/-- The pulse after the burst closed at a place of this frame: shorter where the next lock begins sooner, omitted where
BRST_MIN does not fit. -/
def Dev.brstPulse (n k : Nat) (d : Dev) : Dev :=
  match (d.rx n).done[k]? with
  | none => d
  | some s =>
    if !d.rxOn n then d
    else
      match d.brstRoom n s with
      | none => d.emit (.brst n s.cfg.brstWidth)
      | some a =>
        if a < s.cfg.brstMin then (d.cnt (.teUsCnt n) 18).raise (.te n 1) 2 else d.emit (.brst n (min a s.cfg.brstWidth))

/-- BRST_PULSE. -/
def execBrstPulse (n slotk : Nat) (s : State) : Host.Outcome State Fault Refusal :=
  s.run (.brstPulse n slotk) (Dev.brstPulse n slotk)

/-! ## FEC (R96–R98) -/

/-- The bursts whose codewords may decode: those received and those closed in this frame or the one before. -/
def Dev.decoding (d : Dev) (n : Nat) : List Slot := d.slots n ++ (d.rx n).done ++ (d.rx n).old

/-- A codeword of the burst at a place: `corr` corrected symbols or bits, or uncorrectable; the trailer's mismatching bits
come with the last.  Without upstream FEC nothing is decoded, and what was received is taken as it is (R96). -/
def Dev.fecDecode (n k corr : Nat) (bad : Bool) (bip : Nat) (items : List UsItem) (d : Dev) : Dev :=
  match (d.decoding n)[k]? with
  | none => d
  | some s =>
    if !d.live (.te n 1) || !d.inService n || (s.st != .payload && s.st != .closed) then d
    else
      let d1 := if s.fec then d.cnt (.teUsCnt n) 7 else d
      let d2 :=
        if !s.fec then d1
        else if bad then (d1.cnt (.teUsCnt n) 9).addT (.teOnuLine n) s.onu TE_ONU_LINE.FEC_UNCORR
        else if 0 < corr then (d1.cnt (.teUsCnt n) 8).addT (.teOnuLine n) s.onu TE_ONU_LINE.FEC_CORR corr
        else d1
      let r := items.foldl (Dev.usItem n (bad && s.fec)) (s, d2.addT (.teOnuLine n) s.onu TE_ONU_LINE.BIP bip)
      r.2.setDecoding n k r.1

/-- FEC_CODEWORD_DECODE. -/
def execFecCodewordDecode (n slotk corr : Nat) (bad : Bool) (bip : Nat) (items : List UsItem) (s : State) :
    Host.Outcome State Fault Refusal :=
  s.run (.fecCodewordDecode n slotk corr bad bip items) (Dev.fecDecode n slotk corr bad bip items)

/-! ## Idle-window listening (R100, R101, R124) -/

/-- The ONU-ID found in a listened span: 64 bits that match the delimiter of any valid profile, and a header after them
that is correctable (R101). -/
def Dev.heardId (d : Dev) (m : Nat) (found : Option (Nat × Nat × Nat)) : Option Nat :=
  match found with
  | none => none
  | some (bits, hdr, id) =>
    let hit := (List.range 16).any (fun p => d.onT (.teBurstProfile m) p TE_BURST_PROFILE.VALID &&
      bitDiff bits (d.rdT (.teBurstProfile m) p TE_BURST_PROFILE.DELIMITER) ≤ (d.rxCfgAt m).tol)
    if hdr ≠ 0 ∧ hit = true then some id else none

/-- The `k`-th idle span of the arriving frame has been listened to: amplitude and duration of the strongest signal in it,
and the delimiter and header found in it.  No span is listened to in an open discovery window; a hunt listens whatever
LISTEN_EN holds. -/
def Dev.listen (n k amp dur : Nat) (found : Option (Nat × Nat × Nat)) (d : Dev) : Dev :=
  let g := d.groupPort n
  let q := d.sq g
  match (d.idleSpans n)[k]? with
  | none => d
  | some sp =>
    if !d.rxOn n || q.win.isSome || !(d.on (.te n 1) TE_RX_CTRL.LISTEN_EN || q.hunt.isSome) then d
    else
      let d1 := d.cnt (.teUsCnt n) 16
      if !d.isEnergy n amp dur then d1
      else
        let d2 := d1.setSq g { q with
          heard := some (sp.1, dur), hunt := q.hunt.map (fun h => { h with energy := h.energy || h.listening }) }
        let d3 := (d2.cnt (.teUsCnt n) 17).raise (.te n 1) 1
        if (d.bw g).takeover = 0 then d3.rogue n (d.heardId n found) else d3.cnt .pxCnt (g * 16 + 7)

/-- IDLE_SPAN_LISTEN. -/
def execIdleSpanListen (n k amp dur : Nat) (found : Option (Nat × Nat × Nat)) (s : State) :
    Host.Outcome State Fault Refusal :=
  s.run (.idleSpanListen n k amp dur found) (Dev.listen n k amp dur found)

end Sys2Proof.Machine
end

