-- ==== Sys2Proof/Machine/View.lean ====
section
/-! DEFINITION. What a host read shows: the register fields and the table fields that the spec derives from other state,
and the whole word at an offset, each a function of the device with no effect on it.  The reads that have an effect are
commands of their own. -/

namespace Sys2Proof.Machine

/-- 1 for true. -/
def flag (b : Bool) : Nat := b.toNat

/-! ## Registers -/

/-- Whether the block of a page holds work or has transactions outstanding (PAGE_STAT.BUSY): the work that the model
keeps for it (DEDUCED, log 21). -/
def Dev.pageBusy (d : Dev) (p : Page) : Bool :=
  d.on p TBL_STAT.BUSY ||
  match p with
  | .te n i =>
    if i = 0 then
      (d.fr n).ready != [] || (d.fr n).rem.isSome || (d.fr n).seqQ != [] || (d.fr n).hostQ != [] || (d.fr n).ann != []
    else if i = 1 then (d.rx n).cur != [] || (d.rx n).next != []
    else (d.sq n).trans != [] || (d.sq n).rng != [] || (d.sq n).hunt.isSome
  | .bw0 => (List.range 48).any (fun n => (d.bw n).running)
  | .bwt n => (d.bw n).running
  | .hy0 => (List.range 48).any (fun n => (d.hy n).snapped)
  | .bd => (List.range 24).any (fun g => (d.bd g).held != [] || (d.bd g).inq != [])
  | .cl i => i == 0 && d.path.cl != []
  | .bp i => i == 0 && (d.path.bp.inq != [] || d.path.bp.reqs != [] || d.path.bp.tub != [])
  | .sc i => i == 0 && d.path.sc.q != []
  | .cx0 => d.path.cx.ds != [] || d.path.cx.cut != [] || d.path.cx.us != [] || d.path.cx.dec != [] || d.path.cx.job != []
  | .cxt t => (d.path.cx.job.get none t).isSome
  | .hir f => (List.range 16).any (fun r => (d.ring f r).taken != [])
  | .ulp u => d.path.mac.has u
  | .ln l => d.on (.ln l) LN_PSTATE.TRANS
  | .gl => false | .ck => false | .rs => d.pwr.commit.isSome | .pw => false | .ft => false | .tm _ => false
  | .hi0 => d.hif.heldPloam != [] || d.hif.heldOmci != []
  | .cv _ => false | .bw1 => false | .hy1 => false | .px0 => false | .pxl _ => false | .cx1 => false | .ul0 => false
  | .pm0 => false | .pmg _ => false | .tn => false | .hdr _ => false

/-- A field of the common page header (R30–R42, R466). -/
def Dev.hdrRead (d : Dev) (p : Page) (f : Fld) : Nat :=
  if f = PAGE_ID.BLOCK then p.blockCode
  else if f = PAGE_ID.INDEX then p.index
  else if f = PAGE_CAP.INSTANCE then p.cap.inst
  else if f = PAGE_CAP.TABLES then p.cap.tables
  else if f = PAGE_CAP.INT_SRC then p.cap.intSrc
  else if f = PAGE_CAP.GRANTABLE then flag p.cap.grantable
  else if f = PAGE_CAP.GATEABLE then flag p.cap.gateable
  else if f = PAGE_CAP.SOFTRST then flag p.cap.softrst
  else if f = PAGE_CAP.QUIESCE then flag p.cap.quiesce
  else if f = PAGE_CTRL.SOFT_RST then flag (d.fab.blkRst.contains p.num)
  else if f = PAGE_STAT.IN_RESET then flag (d.inReset p)
  else if f = PAGE_STAT.CLK_GOOD then flag (d.clkGood p)
  else if f = PAGE_STAT.BUSY then flag (d.pageBusy p)
  else if f = INT_PEND.PEND then d.pend p
  else if f = INT_FORCE.FORCE then d.rd p INT_RAW.RAW -- DESIGN CHOICE, log 61
  else d.rd p f

/-- Milliseconds to the next discovery window (Table RNG–6). -/
def Dev.msToNext (d : Dev) (n : Nat) : Nat :=
  match (d.sq n).discSince with
  | some t =>
    if d.discPending n then (t + d.rd (.te n 2) TE_DISC_CFG.PERIOD_MS * 1000000 - d.now + 999999) / 1000000 else 0
  | none => 0

/-- Bit `k` counted over 48 trees, of the word of a pair of 32-bit registers that starts at `base`. -/
def treeBits (k : Nat) (g : Nat → Bool) : Nat :=
  (List.range 32).foldl (fun v i => if 32 * k + i < 48 ∧ g (32 * k + i) then v + 2 ^ i else v) 0

/-- A field that a page derives from other state, by page. -/
def Dev.blockRead (d : Dev) (func : Nat) (p : Page) (f : Fld) : Nat :=
  match p with
  | .gl =>
    if f = GL_ID.ORDER then flag Config.orderT
    else if f = GL_REV.DIE_MAJOR then Config.dieMajor % 256
    else if f = GL_REV.DIE_MINOR then Config.dieMinor % 256
    else if f = GL_REV.ASSEMBLY then Config.assembly % 256
    else if f = GL_INT_SUMMARY.SUBSYS then d.intSummary 0 / 2 % 2 ^ 14
    else if f = GL_INT_SUMMARY.GL then d.intSummary 0 % 2
    else if f = GL_TE_SUM_LO.TE_LO then d.teSummary % 2 ^ 32
    else if f = GL_TE_SUM_HI.TE_HI then d.teSummary / 2 ^ 32
    else d.rd p f
  | .hdr t =>
    if f = TN_SELF.EPOCH then d.epoch t
    else if f = TN_SELF.TENANT then t
    else if f = TN_INT_SUMMARY.SUM then d.intSummary t
    else if f = TN_SEP_COUNT.SUM then
      min ((List.range 8).foldl (fun s e => s + d.rdT .tnSepCnt (t * 8 + e) CNT.COUNT) 0) (2 ^ 32 - 1)
    else d.rd p f
  | .rs =>
    if f = RS_KEYS.QUENCH_ALL then flag d.quenchAll
    else if f = RS_CAL_CRC.CRC then d.calCrc
    else if f.off = 0x15c then flag (d.holdLand 0) + 2 * flag (d.holdLand 1)
    else if f.off = 0x144 ∨ f.off = 0x148 then flag (d.keyB ((f.off - 0x144) / 4 * 32 + f.lo))
    else if f.off = 0x14c ∨ f.off = 0x150 then flag (d.ctl ((f.off - 0x14c) / 4 * 32 + f.lo))
    else d.rd p f
  | .ft =>
    if f = FT_STAT.FAULT_LOW then flag d.faultLow
    else if f = FT_STAT.MISMATCH then flag (d.on .rs RS_KEYS.MISMATCH)
    else if f = FT_STAT.RING_FULL then
      flag ((d.rd .ft FT_RING_PI.PI + 8192 - d.rd .ft FT_RING_CI.CI) % 8192 == 4096)
    else if f = FT_STAT.LASTING_N then d.lastingN
    else d.rd p f
  | .tm i =>
    if i = 0 ∧ f = TM_TOD0.SEC_LO then d.time.sec % 2 ^ 32
    else if i = 0 ∧ f.off = 0x104 then
      f.get (d.latched p 0x104 func (d.time.sec / 2 ^ 32 % 65536 * 65536 + d.time.frac / 65536))
    else if i = 0 ∧ f = TM_TOD2.NS then d.latched p 0x108 func d.time.ns
    else d.rd p f
  | .cv u => if f = CV_RESULT.CHECK then d.cvResult u else d.rd p f
  | .te n i =>
    if i = 0 then
      if f = TE_TX_STAT.KEY_A then flag (d.keyA n)
      else if f = TE_TX_STAT.KEY_B then flag (d.keyB n)
      else if f = TE_TX_STAT.QUIESCE_IDLE then flag (d.on p PAGE_CTRL.QUIESCE_REQ)
      else if f = TE_SFC_HI.SFC_HI then f.get (d.latched p f.off func (d.sfc n / 2 ^ 32))
      else d.rd p f
    else if i = 1 then
      if f = TE_RX_STAT.RX_RUN then flag (d.rxOn n)
      else if f = TE_RX_STAT.ARMED_CUR then ((d.rx n).cur.filter (fun s => s.st != .closed)).length
      else if f = TE_RX_STAT.ARMED_NEXT then (d.rx n).next.length
      else d.rd p f
    else
      if f = TE_DISC_STAT.MS_TO_NEXT then d.msToNext n
      else if f = TE_SEQ_STAT.OPERATING_N then d.operatingN n
      else d.rd p f
  | .hy0 =>
    if f.off = 0x108 ∨ f.off = 0x10c then flag (d.hy ((f.off - 0x108) / 4 * 32 + f.lo)).safe else d.rd p f
  | .bd =>
    if f = BD_STAT.DEGRADED then
      (List.range 24).foldl (fun v g =>
        if (List.range (d.grpSize g)).any (fun s => d.memberState g s != 0) then v + 2 ^ g else v) 0
    else d.rd p f
  | .px0 =>
    if f.off = 0x104 ∨ f.off = 0x108 then
      flag (let n := (f.off - 0x104) / 4 * 32 + f.lo
            d.isProtected n && d.ctl n)
    else if f.off = 0x10c ∨ f.off = 0x110 then
      flag (let n := (f.off - 0x10c) / 4 * 32 + f.lo
            d.isProtected n && (d.pxState n == 4 || d.pxState n == 5))
    else d.rd p f
  | .pxl k => if f = PX_LINK_STAT.HOLD_OUT then flag (d.holdOut k) else d.rd p f
  | .cx0 => if f = CX_STAT.CORES_BUSY then d.coresBusy else d.rd p f
  | .ln l =>
    if f = LN_STAT.CLK_GOOD then flag (d.laneGood l)
    else if f = LN_PRBS_ERR_HI.ERR_HI ∨ f = LN_PRBS_BITS_HI.BITS_HI then f.get (d.latched p f.off func (d.rd p f))
    else d.rd p f
  | .ulp u => if f = UL_PORT_STAT.RATE then d.portRate u else d.rd p f
  | .pmg _ =>
    if (0x100 ≤ f.off ∧ f.off < 0x300) ∧ f.off % 8 = 4 then f.get (d.latched p f.off func (d.rd p f)) else d.rd p f
  | .ck => d.rd p f | .pw => d.rd p f | .hi0 => d.rd p f | .hir _ => d.rd p f | .bw0 => d.rd p f | .bw1 => d.rd p f
  | .bwt _ => d.rd p f | .hy1 => d.rd p f | .cl _ => d.rd p f | .bp _ => d.rd p f | .sc _ => d.rd p f
  | .cx1 => d.rd p f | .cxt _ => d.rd p f | .ul0 => d.rd p f | .pm0 => d.rd p f | .tn => d.rd p f

/-- A register field as function `func` reads it. -/
def Dev.read (d : Dev) (func : Nat) (p : Page) (f : Fld) : Nat :=
  if f.off < 0x100 then d.hdrRead p f else d.blockRead func p f

/-- The register at an offset of a page: its fields at their bits; a reserved bit or register reads 0 (R6). -/
def Dev.readWord (d : Dev) (func : Nat) (p : Page) (off : Nat) : Nat :=
  (p.at off).foldl (fun v f => v + f.put (d.read func p f)) 0


/-! ## Table entries -/

/-- Largest minus smallest valid skew of a group, in nanoseconds rounded down; the acting lead's is 0 (R187). -/
def Dev.skewSpread (d : Dev) (g : Nat) : Nat :=
  let l := (d.listedT .bdSkew BD_SKEW.VALID).filter (fun e => e.1 / 1024 == g)
  let v := l.map (fun e => d.skew g (e.1 / 256 % 4) (e.1 % 256))
  let hi := v.foldl (fun (a : Int) x => max a x) 0
  let lo := v.foldl (fun (a : Int) x => min a x) 0
  (hi - lo).toNat * 125000 / (d.blocks (2 * g) * 128)

/-- Probes still to issue on a group. -/
def Dev.probesPending (d : Dev) (g : Nat) : Nat :=
  (List.range 4).foldl (fun s k => s + (d.mem g k).probes.length) 0

/-- The key context that entry `i` of tenant `t`'s job page shows (R294). -/
def Dev.winCtx (d : Dev) (t i : Nat) : Nat := d.rdT .cxJobWin t CX_JOB_WIN.BASE + i

/-- A field of a table entry as it is read: the fields that the spec derives from other state, and the stored ones. -/
def Dev.view (d : Dev) (t : Tbl) (i : Nat) (f : Fld) : Nat :=
  match t with
  | .bdGroup =>
    if f = BD_GROUP.SKEW_SPREAD_NS then min (d.skewSpread i) 65535
    else if f = BD_GROUP.PROBES_PENDING then d.probesPending i
    else d.rdT t i f
  | .bdSkew =>
    if d.grpSize (i / 1024) ≠ 0 ∧ i / 256 % 4 = d.rdT .bdGroup (i / 1024) BD_GROUP.ACTING_LEAD then
      (if f = BD_SKEW.VALID then 1 else 0)
    else d.rdT t i f
  | .pxRole =>
    if f = PX_ROLE.WTR_LEFT then
      (if d.pxState i = 5 ∧ d.isProtected i then
        min 65535 (((d.px i).wtrAt + d.rdT t i PX_ROLE.WTR_S * 1000000000 - d.now + 999999999) / 1000000000) else 0)
    else d.rdT t i f
  | .bpPoolCfg => if f = BP_POOL_CFG.SHARED_USED then d.sharedUsed i else d.rdT t i f
  | .bpDesc =>
    if f = BP_DESC.POOL then ((d.descAt i).map Prod.fst).getD 0
    else if f = BP_DESC.TIER then ((d.descAt i).map Prod.snd).getD 0
    else d.rdT t i f
  | .scNode => if f = SC_NODE.CREDIT then d.creditShown (.node i) else d.rdT t i f
  | .scQueue =>
    if f = SC_QUEUE.CREDIT then d.creditShown (.queue i)
    else if f = SC_QUEUE.DEPTH_PKT then (d.queue i).frames.length
    else if f = SC_QUEUE.ACTIVE then flag (d.queueActive i)
    else d.rdT t i f
  | .scPolicer =>
    if f = SC_POLICER.TC then bucketTokens (d.rdT t i SC_POLICER.CBS) (d.bucketNow i).1
    else if f = SC_POLICER.TP then bucketTokens (d.rdT t i SC_POLICER.PBS) (d.bucketNow i).2
    else d.rdT t i f
  | .cxTkey n => d.rdT .cxKey (d.winCtx n i) f
  | .tnTenant => if f = TN_TENANT.EPOCH then d.epoch i else d.rdT t i f
  | .ftInst =>
    if f = FT_INST.W_LEFT_MS then
      (let k := d.ftKey (i / 256) (i % 256)
       if d.onT t i FT_INST.WOPEN then (k.wStart + k.wMs * 1000000 - d.now + 999999) / 1000000 else 0)
    else d.rdT t i f
  | .pmAccess => d.rd (.pmg i) PAGE_OWNER.READ_MASK
  | .teOnu n => if d.groupPort n = n then d.rdT t i f else 0
  | _ => d.rdT t i f

/-- The fields of one entry as a window command sees them: those of a CL_NODE entry depend on its KIND, which takes the
entry as sixteen words whose reserved bits read 0. -/
def Dev.viewEntry (d : Dev) (t : Tbl) (i : Nat) : Nat :=
  t.fields.foldl (fun v f => v + f.put (d.view t i f)) 0

/-- The per-second shadow of a counter table's entry (R442). -/
def Dev.shadEntry (d : Dev) (t : Tbl) (i : Nat) : Nat :=
  t.fields.foldl (fun v f => v + f.put (d.shads.get 0 (t.key i f))) 0

/-- The sixteen words of an entry. -/
def entryWords (e : Nat) : List Nat := (List.range 16).map (fun k => e / 2 ^ (32 * k) % 2 ^ 32)

/-- An entry from its words. -/
def wordsEntry (l : List Nat) : Nat := l.zipIdx.foldl (fun v x => v + x.1 % 2 ^ 32 * 2 ^ (32 * x.2)) 0

end Sys2Proof.Machine
end

