-- ==== Sys2Proof/Machine/TblOps.lean ====
section
/-! DEFINITION. Table entries as the indirect window writes them (R39, R43, R302): the rule that refuses an entry image,
table by table, and what an accepted image changes. -/

namespace Sys2Proof.Machine

/-! ## Access to the fields of an entry -/

/-- Access of a field of entry `i`: the field map's, but for entries that a chapter makes read-only (R297, R359, R398) and
for a tenant's key contexts (R294). -/
def Tbl.acc (t : Tbl) (i : Nat) (f : Fld) : Acc :=
  match t with
  | .rsLwRec => .ro
  | .cxTkey _ => if f.acc = .rw then .rwt else f.acc
  | .tnTenant => if i = 0 ∧ f = TN_TENANT.EN then .ro else f.acc
  | .ckLoop => if i < 6 ∧ f = CK_LOOP.EN then .ro else f.acc
  | _ => f.acc

/-- A field that takes the module's value whatever is written (R39). -/
def Tbl.computed (t : Tbl) (i : Nat) (f : Fld) : Bool :=
  match t with
  | .teBurstProfile _ => f == TE_BURST_PROFILE.OH_BLOCKS
  | .cxKey => f == CX_KEY.TAG_P
  | .cxTkey _ => f == CX_KEY.TAG_P
  | .rsCalImg => i == 0 && f.lo < 128
  | _ => false

/-- A stored field that the chapter reserves in entry `i`: bytes 6,544 and up of the calibration image (Table PWR–9).  It
reads 0, and what is written to it is ignored (R6). -/
def Tbl.reserved (t : Tbl) (i : Nat) (f : Fld) : Bool :=
  match t with
  | .rsCalImg => 6544 ≤ 64 * i + f.lo / 8
  | _ => false

/-- Entries of a table: a tenant's key window has as many as CX_JOB_WIN gives it (R294). -/
def Dev.tblSize (d : Dev) (t : Tbl) : Nat :=
  match t with
  | .cxTkey n => d.rdT .cxJobWin n CX_JOB_WIN.COUNT
  | _ => t.size

/-- The image changes a read-only field. -/
def Dev.roDiffers (d : Dev) (t : Tbl) (i e : Nat) : Bool :=
  t.fields.any (fun f => t.acc i f == .ro && !t.computed i f && f.get e != d.view t i f)

/-- The image changes a field that only T0 may write (R302). -/
def Dev.rwDiffers (d : Dev) (t : Tbl) (i e : Nat) : Bool :=
  t.fields.any (fun f => t.acc i f == .rw && !t.computed i f && f.get e != d.view t i f)

/-- The error of an image that changes a read-only field: 0x006, or the code that the table's chapter gives (R133, R236,
R257, R274, R277, R280, R420). -/
def Tbl.roCode (t : Tbl) (e : Nat) : Nat :=
  match t with
  | .bwAlloc => if BW_ALLOC.VALID.get e = 1 then 0x180 else 6
  | .clFlow => if CL_FLOW.VALID.get e = 1 then 0x221 else 6
  | .bpAccount => 0x241
  | .scNode => 0x260
  | .scQueue => 0x260
  | .scPolicer => if SC_POLICER.EN.get e = 1 then 0x261 else 6
  | .cxKey => 0x280
  | .cxTkey _ => 0x280
  | .ftClass => 0x360
  | _ => 6

/-- Tables that no WRITE, RMW or CLEAR_RANGE changes (R173, R194, R255, R419). -/
def Tbl.sealed : Tbl → Bool
  | .hyAlloc => true | .hyOnu => true | .hyProf => true | .hyCeil => true | .bdSkew => true | .bpDesc => true
  | .ftEvent => true | .ftInst => true
  | _ => false

/-- Tables that no WRITE or RMW changes, whatever its image: BP_TUB_LOG and TE_SN_UNK (R255, R126). -/
def Tbl.noWrite : Tbl → Bool
  | .bpTubLog => true | .teSnUnk _ => true
  | t => t.sealed || t.isCounter

/-- Logs: read-only, and a CLEAR_RANGE over the whole table clears them (R172, R255, R295). -/
def Tbl.isLog : Tbl → Bool
  | .hyViolLog => true | .bpTubLog => true | .cxKeyLog => true
  | _ => false

/-! ## Rules by table -/

/-- The lowest preamble of R87 in bytes: upstream rate by line mode, cold or recalled (Table BRX–3). -/
def preambleMin (mode recalled : Nat) : Nat :=
  if recalled = 0 then (if mode = 0 then 256 else if mode = 1 then 320 else if mode = 2 then 640 else 1280)
  else (if mode ≤ 1 then 32 else if mode = 2 then 48 else 96)

/-- The ONUs of the tree of group port `n` in states from DISCOVERED to LOST map a profile index to profile `i` (R88). -/
def Dev.profMapped (d : Dev) (n i : Nat) : Bool :=
  (d.listedT (.teOnu n) TE_ONU.STATE).any (fun e => e.2 != 7 &&
    (List.range 4).any (fun k => d.rdT (.teOnu n) e.1 TE_ONU.PROF_MAP / 16 ^ k % 16 == i))

/-- TE_BURST_PROFILE (R87, R88, R177). -/
def Dev.profileCheck (d : Dev) (n i e : Nat) : Nat :=
  let f := fun (x : Fld) => x.get e
  let mode := d.rd (.te n 0) TE_MODE.LINE_MODE
  if d.groupPort n ≠ n then 6
  else if f TE_BURST_PROFILE.VALID = 1 then
    if 8 * f TE_BURST_PROFILE.PREAMBLE_REP < preambleMin mode (f TE_BURST_PROFILE.RECALL_REQ) ∨
        f TE_BURST_PROFILE.GUARD < 16 ∨ (f TE_BURST_PROFILE.FEC_EN = 0 ∧ mode ≠ 0) then 6
    else if d.onT (.teBurstProfile n) i TE_BURST_PROFILE.VALID && d.rwDiffers (.teBurstProfile n) i e then 0x120
    else 0
  else if d.profMapped n i then 0x121
  else 0

/-- A valid flow, a valid key context or an active scheduler node names multicast pseudo-index `j` of tree `n` (R129). -/
def Dev.mcastNamed (d : Dev) (n j : Nat) : Bool :=
  (d.listedT .clFlow CL_FLOW.VALID).any (fun e =>
      d.rdT .clFlow e.1 CL_FLOW.TREE == n && d.rdT .clFlow e.1 CL_FLOW.ONU == j) ||
    (d.listedT .cxKey CX_KEY.VALID).any (fun e =>
      d.rdT .cxKey e.1 CX_KEY.TAG_TREE == n && d.rdT .cxKey e.1 CX_KEY.TAG_ONU == j) ||
    d.onT .scNode (816 + n * 256 + j) SC_NODE.ACTIVE

/-- TE_ONU (R128, R129, R177). -/
def Dev.onuCheck (d : Dev) (n j e : Nat) : Nat :=
  let f := fun (x : Fld) => x.get e
  let r := fun (x : Fld) => d.rdT (.teOnu n) j x
  let moved := fun (x : Fld) => f x != r x
  if d.groupPort n ≠ n then 6
  else if (moved TE_ONU.SERIAL || moved TE_ONU.SN_VALID) && r TE_ONU.STATE != 0 then 6
  else if moved TE_ONU.PROF_MAP &&
      (List.range 4).any (fun k => !d.onT (.teBurstProfile n) (f TE_ONU.PROF_MAP / 16 ^ k % 16) TE_BURST_PROFILE.VALID) then 6
  else if r TE_ONU.MCAST = 0 ∧ f TE_ONU.MCAST = 1 ∧
      (r TE_ONU.STATE ≠ 0 ∨ r TE_ONU.SN_VALID = 1 ∨ f TE_ONU.SN_VALID = 1) then 6
  else if r TE_ONU.MCAST = 1 ∧ f TE_ONU.MCAST = 0 ∧ d.mcastNamed n j then 6
  else if r TE_ONU.MCAST = 1 ∧
      (moved TE_ONU.SERIAL || moved TE_ONU.SN_VALID || moved TE_ONU.AUTH || moved TE_ONU.PROF_MAP) then 6
  else 0

/-- Whether a CLEAR_RANGE of a TE_ONU entry is refused (R128, R129). -/
def Dev.onuClearBad (d : Dev) (n j : Nat) : Bool :=
  let st := d.onuSt n j
  d.groupPort n != n || !(st == 0 || st == 6 || st == 7) || (d.onT (.teOnu n) j TE_ONU.MCAST && d.mcastNamed n j)

/-- BW_ALLOC (R129, R133). -/
def Dev.allocCheck (d : Dev) (i e : Nat) : Nat :=
  let f := fun (x : Fld) => x.get e
  let r := fun (x : Fld) => d.rdT .bwAlloc i x
  let n := f BW_ALLOC.TREE
  let j := f BW_ALLOC.ONU
  let ty := f BW_ALLOC.TYPE
  if f BW_ALLOC.VALID = 1 ∧
      (ty = 0 ∨ 5 < ty ∨ 47 < n ∨ d.groupPort n ≠ n ∨ f BW_ALLOC.TENANT ≠ d.onuTenant (n * 256 + j) ∨
       (ty = 1 ∧ f BW_ALLOC.FIXED_BLK = 0) ∨
       (ty = 5 ∧ (f BW_ALLOC.FIXED_BLK = 0 ∨ f BW_ALLOC.PER_COUNT = 0 ∨ 8 < f BW_ALLOC.PER_COUNT)) ∨
       (ty = 3 ∧ f BW_ALLOC.MAX_BLK < f BW_ALLOC.ASSURED_BLK) ∨ ((ty = 3 ∨ ty = 4) ∧ f BW_ALLOC.WEIGHT = 0) ∨
       f BW_ALLOC.WIRE_ID < 1024 ∨
       (d.listedT .bwAlloc BW_ALLOC.VALID).any (fun x => x.1 != i && d.rdT .bwAlloc x.1 BW_ALLOC.TREE == n &&
         d.rdT .bwAlloc x.1 BW_ALLOC.WIRE_ID == f BW_ALLOC.WIRE_ID) ∨
       (r BW_ALLOC.VALID = 1 ∧ (n ≠ r BW_ALLOC.TREE ∨ j ≠ r BW_ALLOC.ONU ∨ f BW_ALLOC.WIRE_ID ≠ r BW_ALLOC.WIRE_ID)) ∨
       d.onT (.teOnu n) j TE_ONU.MCAST) then 0x180
  else 0

/-- CL_PROFILE (R235). -/
def Dev.clProfileCheck (e : Nat) : Nat :=
  let f := fun (x : Fld) => x.get e
  let top := if f CL_PROFILE.DIR = 0 then 131071 else 16383
  let act := fun (a : Nat) => a == 0 || a == 1 || a == 2 || a == 4
  if f CL_PROFILE.VALID = 1 ∧
      (65535 < f CL_PROFILE.RULES ∨ 256 < f CL_PROFILE.RANGE_COUNT ∨ f CL_PROFILE.RANGE_COUNT % 16 ≠ 0 ∨
       f CL_PROFILE.NODE_COUNT = 0 ∨ 262144 < f CL_PROFILE.NODE_COUNT ∨ f CL_PROFILE.LAYERS = 0 ∨
       12 < f CL_PROFILE.LAYERS ∨ f CL_PROFILE.DEPTH4 < 16 ∨ 64 < f CL_PROFILE.DEPTH4 ∨
       f CL_PROFILE.ROOT < f CL_PROFILE.NODE_BASE ∨
       f CL_PROFILE.NODE_BASE + f CL_PROFILE.NODE_COUNT ≤ f CL_PROFILE.ROOT ∨
       262144 < f CL_PROFILE.NODE_BASE + f CL_PROFILE.NODE_COUNT ∨
       1024 < f CL_PROFILE.RANGE_BASE + f CL_PROFILE.RANGE_COUNT ∨
       (f CL_PROFILE.RANGE_COUNT ≠ 0 ∧ f CL_PROFILE.RULES < 4096) ∨
       !act (f CL_PROFILE.INC_ACT) ∨ !act (f CL_PROFILE.MAL_ACT) ∨
       top < f CL_PROFILE.INC_TARGET ∨ top < f CL_PROFILE.MAL_TARGET) then 0x220
  else 0

/-- CL_NODE (Table CLS–10, Table CLS–11, R230). -/
def nodeCheck (e : Nat) : Nat :=
  let kind := e / 2 ^ 510 % 4
  let nt := e / 2 ^ 483 % 8
  let act := e / 2 ^ 477 % 8
  let mt := e / 2 ^ 437 % 2 ^ 18
  if kind = 3 then 6
  else if kind = 1 then
    if 1535 < e / 2 ^ 490 % 2048 ∨
        (List.range (nt - 1)).any (fun k => decide (nodeThresh e (k + 1) < nodeThresh e k)) then 6 else 0
  else if kind = 2 then
    if 6 ≤ act ∨ 131071 < e / 2 ^ 456 % 2 ^ 18 ∨ mt > (if e / 2 ^ 455 % 2 = 0 then 131071 else 16383) then 6 else 0
  else 0

/-- The fields of a CL_NODE entry as (lowest bit, width): the rest is reserved. -/
def nodeFields (kind : Nat) : List (Nat × Nat) :=
  if kind = 2 then [(510, 2), (480, 16), (477, 3), (456, 18), (455, 1), (437, 18), (429, 8)]
  else [(510, 2), (490, 11), (486, 4), (483, 3), (368, 112)] ++ (List.range 8).map (fun k => (32 * k, 18))

/-- A CL_NODE entry with its reserved bits 0 (R6). -/
def nodeImage (e : Nat) : Nat :=
  (nodeFields (e / 2 ^ 510 % 4)).foldl (fun v x => v + e / 2 ^ x.1 % 2 ^ x.2 * 2 ^ x.1) 0

/-- CL_FLOW (R129, R236). -/
def Dev.flowCheck (d : Dev) (i e : Nat) : Nat :=
  let f := fun (x : Fld) => x.get e
  let r := fun (x : Fld) => d.rdT .clFlow i x
  let n := f CL_FLOW.TREE
  let pt := d.rdT .clProfile (f CL_FLOW.US_PROFILE) CL_PROFILE.TENANT
  if f CL_FLOW.VALID = 1 ∧
      (47 < n ∨ d.groupPort n ≠ n ∨ f CL_FLOW.TENANT ≠ d.onuTenant (n * 256 + f CL_FLOW.ONU) ∨
       f CL_FLOW.XGEM_PORT = 0xffff ∨
       (d.listedT .clFlow CL_FLOW.VALID).any (fun x => x.1 != i && d.rdT .clFlow x.1 CL_FLOW.TREE == n &&
         d.rdT .clFlow x.1 CL_FLOW.XGEM_PORT == f CL_FLOW.XGEM_PORT) ∨
       (r CL_FLOW.VALID = 1 ∧
         (n ≠ r CL_FLOW.TREE ∨ f CL_FLOW.ONU ≠ r CL_FLOW.ONU ∨ f CL_FLOW.XGEM_PORT ≠ r CL_FLOW.XGEM_PORT)) ∨
       (f CL_FLOW.US_EN = 1 ∧ pt ≠ 0 ∧ pt ≠ f CL_FLOW.TENANT) ∨
       (f CL_FLOW.US_EN = 1 ∧ d.onT (.teOnu n) (f CL_FLOW.ONU) TE_ONU.MCAST)) then 0x221
  else 0

/-- BP_POOL_CFG (R256): with page 0 disabled, every buffer free and none retired, and the sums of the result. -/
def Dev.poolCheck (d : Dev) (p e : Nat) : Nat :=
  let s := fun q => if q = p then BP_POOL_CFG.SRAM_BUFS.get e else d.poolSram q
  let a := fun q =>
    if q = p then BP_POOL_CFG.SRAM_BUFS.get e + BP_POOL_CFG.HBM_BUFS.get e else d.poolAll q
  let r := fun q (x : Fld) => d.rdT .bpPoolCfg q x
  if d.on (.bp 0) PAGE_CTRL.EN ∨
      !(List.range 5).all (fun q => r q BP_POOL_CFG.FREE_SRAM == r q BP_POOL_CFG.SRAM_BUFS &&
        r q BP_POOL_CFG.FREE_HBM == r q BP_POOL_CFG.HBM_BUFS && r q BP_POOL_CFG.RETIRED == 0) ∨
      134217728 < (List.range 5).foldl (fun v q => v + s q * poolSize q) 0 ∨
      1048576 < (List.range 5).foldl (fun v q => v + a q) 0 then 0x240
  else 0

/-- BP_ACCOUNT (R257). -/
def Dev.accountCheck (d : Dev) (a e : Nat) : Nat :=
  if (List.range 5).any (fun p =>
      let new := (BP_ACCOUNT.RES p).get e
      let old := d.rdT .bpAccount a (BP_ACCOUNT.RES p)
      decide ((BP_ACCOUNT.MAX p).get e < new ∨ (old < new ∧ d.poolAll p < d.resSum p - old + new))) then 0x241
  else 0

/-- SC_NODE and SC_QUEUE (Table SCH–4, Table SCH–5). -/
def shapeCheck (weight burst : Nat) : Nat := if weight = 0 ∨ burst < 64 then 0x260 else 0

/-- SC_AGG (Table SCH–6). -/
def Dev.aggCheck (d : Dev) (a e : Nat) : Nat :=
  let t := SC_AGG.TENANT.get e
  if (t ≠ d.rdT .scAgg a SC_AGG.TENANT ∧ d.queueActive (aggQ a)) ∨ (16368 ≤ a ∧ t ≠ a - 16368) then 0x260 else 0

/-- SC_POLICER (R274). -/
def policerCheck (e : Nat) : Nat :=
  let f := fun (x : Fld) => x.get e
  if f SC_POLICER.EN = 1 ∧
      (f SC_POLICER.PIR < f SC_POLICER.CIR ∨ f SC_POLICER.PBS < f SC_POLICER.CBS ∨ f SC_POLICER.PBS = 0) then 0x261
  else 0

/-- CX_KEY (R280, R284): `job` says that the write comes through a tenant job page. -/
def Dev.keyCheck (d : Dev) (c e : Nat) (job : Bool) : Nat :=
  let f := fun (x : Fld) => x.get e
  let r := fun (x : Fld) => d.rdT .cxKey c x
  let moved := fun (x : Fld) => f x != r x
  let q := c / 2 * 2 + (1 - c % 2)
  let n := f CX_KEY.TAG_TREE
  if f CX_KEY.SOFT_LOG2 < 20 ∨ 46 < f CX_KEY.SOFT_LOG2 ∨ f CX_KEY.HARD_LOG2 ≤ f CX_KEY.SOFT_LOG2 ∨
      47 < f CX_KEY.HARD_LOG2 ∨ 47 < n ∨ (f CX_KEY.ALG = 0 ∧ f CX_KEY.KEY % 2 ^ 128 ≠ 0) then 0x280
  else if r CX_KEY.ACTIVE_DS = 1 ∧
      (moved CX_KEY.KEY || moved CX_KEY.KIND || moved CX_KEY.ALG || moved CX_KEY.TAG_TENANT || moved CX_KEY.TAG_TREE ||
        moved CX_KEY.TAG_ONU) then 0x280
  else if (f CX_KEY.KIND == 3) != job then 0x280
  else if (moved CX_KEY.ACT_SFC ∨ (f CX_KEY.VALID = 1 ∧ r CX_KEY.VALID = 0)) ∧ d.onT .cxKey q CX_KEY.ACTIVE_DS ∧
      d.onT .cxKey q CX_KEY.VALID ∧ !d.onT .cxKey q CX_KEY.FROZEN ∧ f CX_KEY.ACT_SFC ≤ d.sfc (d.lead n) + 1 then 0x281
  else 0

/-- A context named in CX_ONU_KEYS is KIND 2 and its tag names the ONU (R291). -/
def Dev.mgmtKeyOk (d : Dev) (g c : Nat) : Bool :=
  d.rdT .cxKey c CX_KEY.KIND == 2 && d.rdT .cxKey c CX_KEY.TAG_TREE * 256 + d.rdT .cxKey c CX_KEY.TAG_ONU == g

/-- CX_ONU_KEYS (R291). -/
def Dev.onuKeysCheck (d : Dev) (g e : Nat) : Nat :=
  if (CX_ONU_KEYS.PLOAM_V.get e = 1 ∧ !d.mgmtKeyOk g (CX_ONU_KEYS.PLOAM_IK.get e)) ∨
      (CX_ONU_KEYS.OMCI_V.get e = 1 ∧ !d.mgmtKeyOk g (CX_ONU_KEYS.OMCI_IK.get e)) then 0x282
  else 0

/-- CX_JOB_WIN (R294): fields out of range (0x006, Table REG–10); windows that overlap, or include a context in use of
KIND 0 to 2 (0x284).  A context that is not VALID is in no use: every context resets to KIND 0, and only a window lets
one become KIND 3 (R280; DEDUCED, log 22). -/
def Dev.winCheck (d : Dev) (t e : Nat) : Nat :=
  let b := CX_JOB_WIN.BASE.get e
  let k := CX_JOB_WIN.COUNT.get e
  if b % 2 = 1 ∨ 1024 < k ∨ 32768 < b + k then 6
  else if
      (List.range 16).any (fun u => u != t &&
        (let b' := d.rdT .cxJobWin u CX_JOB_WIN.BASE
         let k' := d.rdT .cxJobWin u CX_JOB_WIN.COUNT
         decide (k ≠ 0 ∧ k' ≠ 0 ∧ b < b' + k' ∧ b' < b + k))) ∨
      (d.listedT .cxKey CX_KEY.VALID).any (fun x => b ≤ x.1 && x.1 < b + k && d.rdT .cxKey x.1 CX_KEY.KIND != 3) then 0x284
  else 0

/-- The pages whose PAGE_OWNER differs from its reset value. -/
def Dev.ownedPages (d : Dev) : List Page :=
  (d.regs.filter (fun e => e.1 / 32 % 4096 == 0x80)).filterMap (fun e => Page.ofNum (e.1 / 131072))

/-- TN_TENANT (R300): EN = 0 for a tenant that still has something. -/
def Dev.tenantCheck (d : Dev) (t e : Nat) : Nat :=
  if TN_TENANT.EN.get e = 0 ∧ t ≠ 0 ∧
      ((d.listedT .tnOwner TN_OWNER.TENANT).any (fun x => x.2 == t) ||
       d.ownedPages.any (fun p => p != .hir t && p != .hdr t &&
         (d.owner p == t || hasBit (d.rd p PAGE_OWNER.READ_MASK) t)) ||
       d.onT .cxJobWin t CX_JOB_WIN.COUNT || decide (t ≤ d.hif.numVfs)) then 0x2a0
  else 0

/-- TN_OWNER (R299): the ONU is still named under its current tenant, or its tree is dedicated to another. -/
def Dev.ownerCheck (d : Dev) (g e : Nat) : Nat :=
  let old := d.onuTenant g
  let new := TN_OWNER.TENANT.get e
  let n := g / 256
  let j := g % 256
  if new ≠ old ∧
      ((d.listedT .bwAlloc BW_ALLOC.VALID).any (fun x => d.rdT .bwAlloc x.1 BW_ALLOC.TREE == n &&
         d.rdT .bwAlloc x.1 BW_ALLOC.ONU == j && d.rdT .bwAlloc x.1 BW_ALLOC.TENANT == old) ||
       (d.listedT .clFlow CL_FLOW.VALID).any (fun x => d.rdT .clFlow x.1 CL_FLOW.TREE == n &&
         d.rdT .clFlow x.1 CL_FLOW.ONU == j && d.rdT .clFlow x.1 CL_FLOW.TENANT == old) ||
       (d.listedT .cxKey CX_KEY.VALID).any (fun x => d.rdT .cxKey x.1 CX_KEY.TAG_TREE == n &&
         d.rdT .cxKey x.1 CX_KEY.TAG_ONU == j && d.rdT .cxKey x.1 CX_KEY.TAG_TENANT == old) ||
       d.onT .scNode (816 + g) SC_NODE.ACTIVE ||
       (d.mates n).any (fun m => (List.range 3).any (fun p =>
         d.owner (.te m p) != 0 && d.owner (.te m p) != new))) then 0x2a1
  else 0

/-- TN_SLOT (R303). -/
def slotCheck (i e : Nat) : Nat :=
  let ok := match Page.ofNum (TN_SLOT.PAGE.get e) with
    | some p => p.cap.grantable
    | none => false
  if TN_SLOT.VALID.get e = 1 ∧ (i % 512 = 0 ∨ !ok) then 0x2a2 else 0

/-- TM_ANN (R327). -/
def Dev.annCheck (d : Dev) (i e : Nat) : Nat :=
  let f := fun (x : Fld) => x.get e
  let n := i / 8
  if f TM_ANN.ARM = 1 ∧
      ((d.onT .tmAnn i TM_ANN.ARM && d.rwDiffers .tmAnn i e) ∨ f TM_ANN.SEND_SFC < d.sfc (d.lead n) + 2 ∨
       f TM_ANN.TARGET_SFC ≤ f TM_ANN.SEND_SFC ∨ 1048576 < f TM_ANN.TARGET_SFC - f TM_ANN.SEND_SFC ∨
       f TM_ANN.LEN = 0 ∨ 40 < f TM_ANN.LEN ∨ (f TM_ANN.SFC_EN = 1 ∧ f TM_ANN.LEN < f TM_ANN.SFC_OFS + 8) ∨
       (f TM_ANN.TOD_EN = 1 ∧ f TM_ANN.LEN < f TM_ANN.TOD_OFS + 10) ∨ d.groupPort n ≠ n) then 0x2c3
  else if f TM_ANN.XGEM_PORT = 0xffff then 6
  else 0

/-- FT_CLASS (R413, R420). -/
def ftClassCheck (c e : Nat) : Nat :=
  let a := FT_CLASS.ACTION.get e
  let w := FT_CLASS.W_MS.get e
  let sc := (ftRow c).scope
  if FT_CLASS.N.get e = 0 ∨ w = 0 ∨ 3600000 < w ∨ 6 ≤ a ∨ ((a = 2 ∨ a = 5) ∧ (sc ≤ 1 ∨ sc = 5)) then 0x360 else 0

/-- Units of an event of Table HIF–10; 0 for an event that has none. -/
def pmUnits (ev : Nat) : Nat :=
  if 1 ≤ ev ∧ ev ≤ 4 then 48 else if ev = 5 then 768 else if ev = 6 ∨ ev = 9 ∨ ev = 10 then 16384
  else if ev = 7 ∨ ev = 8 ∨ ev = 11 ∨ ev = 12 then 131072 else if ev = 13 ∨ ev = 14 then 32
  else if ev = 15 ∨ ev = 16 ∨ ev = 22 then 1408 else if ev = 17 then 65536 else if ev = 18 then 32768
  else if ev = 19 then 256 else if ev = 20 then 16 else if ev = 21 then 147456 else if ev = 23 then 5 else 0

/-- PM_SEL: the event is defined and its unit exists. -/
def pmSelCheck (e : Nat) : Nat :=
  let ev := PM_SEL.EVENT.get e
  if 23 < ev ∨ (ev ≠ 0 ∧ pmUnits ev ≤ PM_SEL.INSTANCE.get e) then 0x3c0 else 0

/-! ## PAGE_OWNER (R45, R304, R427, R466) -/

/-- Whether a PAGE_OWNER write is refused: R45, the fixed pages of R427 and R466, the families of R304. -/
def Dev.ownerBad (d : Dev) (p : Page) (owner mask : Nat) : Bool :=
  !hasBit mask owner || (owner != 0 && !p.cap.grantable) ||
    match p with
    | .hdr _ => true
    | .hir f => owner != f || mask != (1 ||| 2 ^ f)
    | .cxt u => !(owner == 0 || owner == u) || clrBit (clrBit mask 0) u != 0
    | .te n _ =>
      owner != 0 && (clrBit (clrBit mask 0) owner != 0 ||
        !(List.range 256).all (fun j => d.onuTenant (d.groupPort n * 256 + j) == owner))
    | _ => false

/-! ## The rule of an image, and what an accepted image changes -/

/-- The code with which entry image `e` of table `t` is refused for what the table's chapter says; 0 accepted. -/
def Dev.chapterCheck (d : Dev) (t : Tbl) (i e : Nat) : Nat :=
  match t with
  | .teBurstProfile n => d.profileCheck n i e
  | .teOnu n => d.onuCheck n i e
  | .bwAlloc => d.allocCheck i e
  | .bdGroup => d.groupCheck i e
  | .pxRole => d.roleCheck i e
  | .clProfile => Dev.clProfileCheck e
  | .clRange =>
    if CL_RANGE.HI.get e < CL_RANGE.LO.get e ∨ 1279 < CL_RANGE.OFFSET.get e + CL_RANGE.WIDTHM1.get e then 6 else 0
  | .clNode => nodeCheck e
  | .clFlow => d.flowCheck i e
  | .bpPoolCfg => d.poolCheck i e
  | .bpAccount => d.accountCheck i e
  | .scNode => shapeCheck (SC_NODE.WEIGHT.get e) (SC_NODE.BURST.get e)
  | .scQueue => shapeCheck (SC_QUEUE.WEIGHT.get e) (SC_QUEUE.BURST.get e)
  | .scAgg => d.aggCheck i e
  | .scPolicer => policerCheck e
  | .cxKey => d.keyCheck i e false
  | .cxTkey n => d.keyCheck (d.winCtx n i) e true
  | .cxOnuKeys => d.onuKeysCheck i e
  | .cxJobWin => d.winCheck i e
  | .tnTenant => d.tenantCheck i e
  | .tnOwner => d.ownerCheck i e
  | .tnSlot => slotCheck i e
  | .tmAnn => d.annCheck i e
  | .ckDomainCtrl => d.ckCheck i (CK_DOMAIN_CTRL.SRC.get e) (CK_DOMAIN_CTRL.GATE.get e)
  | .ckLoop => d.loopCheck i (CK_LOOP.EN.get e)
  | .ftClass => ftClassCheck i e
  | .pmSel => pmSelCheck e
  | .pmAccess => if d.ownerBad (.pmg i) (d.owner (.pmg i)) (PM_ACCESS.READ_MASK.get e) then 0x3c1 else 0
  | _ => 0

/-- The code with which a WRITE or RMW of image `e` by function `func` is refused; 0 accepted. -/
def Dev.imageCheck (d : Dev) (func : Nat) (t : Tbl) (i e : Nat) : Nat :=
  if t.noWrite then 6
  else if func ≠ 0 ∧ d.rwDiffers t i e then 6
  else if d.roDiffers t i e then t.roCode e
  else d.chapterCheck t i e

/-- The fields of an image that the host writes, as it stores them. -/
def Tbl.written (t : Tbl) (i e : Nat) : List (Fld × Nat) :=
  (t.fields.filter (fun f => t.acc i f != .ro && !t.computed i f && !t.reserved i f)).map (fun f => (f, f.get e))


/-- What the engine has kept for an allocation is forgotten when it becomes valid (R134). -/
def Dev.allocForget (d : Dev) (n i : Nat) : Dev :=
  let b := d.bw n
  d.setBw n { b with recQ := b.recQ.del i, recM := b.recM.del i, convQ := b.convQ.del i, convM := b.convM.del i,
                     lastM := b.lastM.del i }

/-- An accepted BW_ALLOC image (R134, R158). -/
def Dev.allocApply (d : Dev) (i e : Nat) : Dev :=
  let fresh := decide (BW_ALLOC.VALID.get e = 1 ∧ d.rdT .bwAlloc i BW_ALLOC.VALID = 0)
  let d1 := d.wrTs .bwAlloc i (Tbl.bwAlloc.written i e)
  let d2 :=
    if fresh then
      (d1.wrTs .bwAlloc i [(BW_ALLOC.LAST_Q, 0), (BW_ALLOC.LAMBDA, 0), (BW_ALLOC.NEED, 0), (BW_ALLOC.GRANTED, 0),
                           (BW_ALLOC.REPORT_AGE, 255)]).allocForget (BW_ALLOC.TREE.get e) i
    else d1
  (d2.wrTs .hyAlloc i
    [(HY_ALLOC.VALID, BW_ALLOC.VALID.get e), (HY_ALLOC.WIRE_ID, BW_ALLOC.WIRE_ID.get e),
     (HY_ALLOC.TREE, BW_ALLOC.TREE.get e), (HY_ALLOC.ONU, BW_ALLOC.ONU.get e),
     (HY_ALLOC.TENANT, BW_ALLOC.TENANT.get e)]).undamage (Tbl.hyAlloc.key i HY_ALLOC.VALID)

/-- An accepted TE_BURST_PROFILE image: OH_BLOCKS, the shadow entry, and the copies of a group (R158, R177).  A profile that
is valid is announced to the tree's ONUs (R63; when is a DESIGN CHOICE, log 65). -/
def Dev.profileApply (d : Dev) (n i e : Nat) : Dev :=
  let oh := (TE_BURST_PROFILE.GUARD.get e + 8 * TE_BURST_PROFILE.PREAMBLE_REP.get e + 8 + 15) / 16
  let d1 := (d.wrTs (.teBurstProfile n) i ((Tbl.teBurstProfile n).written i e)).wrT (.teBurstProfile n) i
    TE_BURST_PROFILE.OH_BLOCKS oh
  let d2 := (d1.wrTs .hyProf (n * 16 + i)
    [(HY_PROF.VALID, TE_BURST_PROFILE.VALID.get e), (HY_PROF.OH_BLOCKS, oh)]).copyProfile n i
  let d3 := (d2.mates n).foldl (fun (x : Dev) m => x.undamage (Tbl.hyProf.key (m * 16 + i) HY_PROF.VALID)) d2
  if TE_BURST_PROFILE.VALID.get e = 1 then
    d3.ploam n bcastOnu .burstProfile (beBytes 1 i ++ leBytes 32 (d3.entry (.teBurstProfile n) i))
  else d3

/-- An accepted TE_ONU image (R128, R158); AUTH = 1 may decide a transition (R114, Table RNG–2). -/
def Dev.onuApply (d : Dev) (n j e : Nat) : Dev :=
  (((d.wrTs (.teOnu n) j ((Tbl.teOnu n).written j e)).wrT .hyOnu (n * 256 + j) HY_ONU.PROF_MAP
    (TE_ONU.PROF_MAP.get e)).undamage (Tbl.hyOnu.key (n * 256 + j) HY_ONU.PROF_MAP)).commitNow n

/-- CLEAR_RANGE of a TE_ONU entry: EMPTY with all fields 0, the shadow entry with it, decided transitions discarded
(R128). -/
def Dev.onuClear (d : Dev) (n j : Nat) : Dev :=
  let d1 := d.wrTs (.teOnu n) j ((Tbl.teOnu n).fields.map (fun f => (f, 0)))
  let d2 := (d1.wrTs .hyOnu (n * 256 + j) [(HY_ONU.STATE, 0), (HY_ONU.PROF_MAP, 0)]).undamage
    (Tbl.hyOnu.key (n * 256 + j) HY_ONU.PROF_MAP)
  let d3 := d2.undamage (Tbl.hyOnu.key (n * 256 + j) HY_ONU.STATE)
  let q := d3.sq n
  d3.setSq n { q with trans := q.trans.filter (fun t => t.onu != j), drift := q.drift.keep (fun k => k % 256 != j),
                      rng := q.rng.del j, discAt := q.discAt.del j, case4 := q.case4.del j, resume := q.resume.del j,
                      own := q.own.keep (fun k => k / 256 != j), awaits := q.awaits.filter (fun k => k / 256 != j) }

/-- An accepted BP_POOL_CFG image (R240, R256). -/
def Dev.poolApply (d : Dev) (p e : Nat) : Dev :=
  let s := BP_POOL_CFG.SRAM_BUFS.get e
  let h := BP_POOL_CFG.HBM_BUFS.get e
  let d1 := d.wrTs .bpPoolCfg p [(BP_POOL_CFG.SRAM_BUFS, s), (BP_POOL_CFG.HBM_BUFS, h), (BP_POOL_CFG.FREE_SRAM, s),
                                 (BP_POOL_CFG.FREE_HBM, h)]
  { d1 with tbls := d1.tbls.keep (fun k => k / 536870912 != Tbl.bpDesc.num || k % 512 != BP_DESC.GEN.lo) }

/-- An accepted CX_KEY image (R280): TAG_P is computed; a new KEY starts its counts afresh. -/
def Dev.keyApply (d : Dev) (c e : Nat) : Dev :=
  let fresh := decide (CX_KEY.KEY.get e ≠ d.rdT .cxKey c CX_KEY.KEY)
  let tag := keyTag (CX_KEY.TAG_TENANT.get e) (CX_KEY.TAG_TREE.get e) (CX_KEY.TAG_ONU.get e)
  let d1 := (d.wrTs .cxKey c (Tbl.cxKey.written c e)).wrT .cxKey c CX_KEY.TAG_P (tag / 2 ^ 19)
  if fresh then
    d1.wrTs .cxKey c [(CX_KEY.USAGE, 0), (CX_KEY.HWM_SFC, 0), (CX_KEY.SOFT_HIT, 0), (CX_KEY.FROZEN, 0),
                      (CX_KEY.FREEZE_CAUSE, 0)]
  else d1

/-- An accepted SC_POLICER image: changed rates or bursts, or EN set, fill both buckets (R274). -/
def Dev.policerApply (d : Dev) (i e : Nat) : Dev :=
  let moved := fun (x : Fld) => x.get e != d.rdT .scPolicer i x
  let fill := moved SC_POLICER.CIR || moved SC_POLICER.PIR || moved SC_POLICER.CBS || moved SC_POLICER.PBS ||
    (SC_POLICER.EN.get e == 1 && moved SC_POLICER.EN)
  let d1 := d.wrTs .scPolicer i (Tbl.scPolicer.written i e)
  if fill then d1.setBucket i 0 0 else d1

/-- An accepted TN_TENANT image: EN = 0 clears the window's slots (R300). -/
def Dev.tenantApply (d : Dev) (t e : Nat) : Dev :=
  let d1 := d.wrTs .tnTenant t (Tbl.tnTenant.written t e)
  if t ≠ 0 ∧ TN_TENANT.EN.get e = 0 then
    { d1 with tbls := d1.tbls.keep (fun k => k / 536870912 != Tbl.tnSlot.num || k / 512 % 1048576 / 512 != t) }
  else d1

/-- An accepted TN_OWNER image, with the tenants' ONU counts (Table TNT–6). -/
def Dev.onuMove (d : Dev) (g e : Nat) : Dev :=
  let old := d.onuTenant g
  let new := TN_OWNER.TENANT.get e
  if old = new then d
  else
    let d1 := (d.wrT .tnOwner g TN_OWNER.TENANT new).wrT .tnTenant old TN_TENANT.ONU_COUNT
      (d.rdT .tnTenant old TN_TENANT.ONU_COUNT - 1)
    d1.wrT .tnTenant new TN_TENANT.ONU_COUNT (d1.rdT .tnTenant new TN_TENANT.ONU_COUNT + 1)

/-- Write an accepted image. -/
def Dev.imageApply (d : Dev) (t : Tbl) (i e : Nat) : Dev :=
  match t with
  | .teBurstProfile n => d.profileApply n i e
  | .teOnu n => d.onuApply n i e
  | .bwAlloc => d.allocApply i e
  | .bwCeil =>
    ((d.wrTs t i (t.written i e)).wrT .hyCeil i HY_CEIL.CEIL_BLK (BW_CEIL.CEIL_BLK.get e)).undamage
      (Tbl.hyCeil.key i HY_CEIL.CEIL_BLK)
  | .bdGroup => d.groupApply i e
  | .pxRole => d.roleApply i e
  | .clNode => d.wrTs t i (t.written i (nodeImage e))
  | .bpPoolCfg => d.poolApply i e
  | .scNode =>
    (d.wrTs t i ((t.written i e).filter (fun x => x.1 != SC_NODE.RATE && x.1 != SC_NODE.BURST))).reshape (.node i)
      (SC_NODE.RATE.get e) (SC_NODE.BURST.get e)
  | .scQueue =>
    (d.wrTs t i ((t.written i e).filter (fun x => x.1 != SC_QUEUE.RATE && x.1 != SC_QUEUE.BURST))).reshape (.queue i)
      (SC_QUEUE.RATE.get e) (SC_QUEUE.BURST.get e)
  | .scPolicer => d.policerApply i e
  | .cxKey => d.keyApply i e
  | .cxTkey n => d.keyApply (d.winCtx n i) e
  | .tnTenant => d.tenantApply i e
  | .tnOwner => d.onuMove i e
  | .tmAnn =>
    (let d1 := d.wrTs t i (t.written i e)
     if TM_ANN.ARM.get e = 1 then d1.wrT t i TM_ANN.DONE 0 else d1)
  | .ckDomainCtrl => d.ckApply i (CK_DOMAIN_CTRL.SRC.get e) (CK_DOMAIN_CTRL.GATE.get e)
  | .ckLoop => d.loopApply i (CK_LOOP.EN.get e)
  | .pmAccess => d.wr (.pmg i) PAGE_OWNER.READ_MASK (PM_ACCESS.READ_MASK.get e)
  | _ => d.wrTs t i (t.written i e)

/-! ## CLEAR_RANGE -/

/-- The reset content of an entry as an image: reset values of the RW and RWT fields, the others as stored (R39). -/
def Dev.clearImage (d : Dev) (t : Tbl) (i : Nat) : Nat :=
  t.fields.foldl (fun v f => v + f.put (if t.acc i f == .ro then d.view t i f else t.rst i f)) 0

/-- The code with which a CLEAR_RANGE by `func` is refused at entry `i`; 0 accepted. -/
def Dev.clearCheck (d : Dev) (func : Nat) (t : Tbl) (i : Nat) : Nat :=
  if t.sealed then 6
  else if func ≠ 0 ∧ !t.fields.all (fun f => t.acc i f == .rwt) ∧ !(match t with | .cxTkey _ => true | _ => false) then 6
  else if t.isCounter || t.isLog then 0
  else
    match t with
    | .teOnu n => if d.onuClearBad n i then 6 else 0
    | .ckDomainCtrl => 6
    | .ckLoop => 6
    | .scNode => if d.onT t i SC_NODE.ACTIVE then 6 else d.chapterCheck t i (d.clearImage t i)
    | .scQueue => if d.queueActive i then 6 else d.chapterCheck t i (d.clearImage t i)
    | .cxKey => if d.onT t i CX_KEY.ACTIVE_DS then 6 else d.chapterCheck t i (d.clearImage t i)
    | .cxTkey n => if d.onT .cxKey (d.winCtx n i) CX_KEY.ACTIVE_DS then 6 else d.chapterCheck t i (d.clearImage t i)
    | _ => d.chapterCheck t i (d.clearImage t i)

/-- Reset one entry. -/
def Dev.clearEntry (d : Dev) (t : Tbl) (i : Nat) : Dev :=
  match t with
  | .teOnu n => d.onuClear n i
  | .teSnUnk _ => d.wrTs t i (t.fields.map (fun f => (f, 0)))
  | .scSample =>
    d.wrTs t i ((t.fields.filter (fun f => f.acc == .ro)).map (fun f => (f, t.rst i f)))
  | _ => d.imageApply t i (d.clearImage t i)

/-- Empty a log: its records, its count and its full mark. -/
def Dev.clearLog (d : Dev) (t : Tbl) : Dev :=
  let d1 := d.tblClear t
  match t with
  | .hyViolLog =>
    { d1.wrs .hy0 [(HY_STAT.LOG_COUNT, 0), (HY_STAT.LOG_FULL, 0)] with eng := { d1.eng with violAt := 0 } }
  | .bpTubLog => (d1.wrs (.bp 0) [(BP_STAT.TUB_COUNT, 0), (BP_STAT.TUB_FULL, 0)]).setBp { d1.path.bp with tubAt := 0 }
  | .cxKeyLog => (d1.wrs .cx0 [(CX_STAT.LOG_COUNT, 0), (CX_STAT.LOG_FULL, 0)]).setCx { d1.path.cx with logAt := 0 }
  | _ => d1

/-- CLEAR_RANGE of `k` entries from `i`, each checked already: counters go to 0 together; a log is cleared by a range
over the whole of it and kept by any other. -/
def Dev.clearRange (d : Dev) (t : Tbl) (i k : Nat) : Dev :=
  if t.isCounter then
    { d with tbls := d.tbls.keep (fun q => q / 536870912 != t.num ||
        !(i ≤ q / 512 % 1048576 && q / 512 % 1048576 < i + k)) }
  else if t.isLog then (if i = 0 ∧ k = t.size then d.clearLog t else d)
  else (List.range k).foldl (fun (x : Dev) m => x.clearEntry t (i + m)) d

end Sys2Proof.Machine
end

