-- ==== Sys2Proof/Machine/Tables.lean ====
section
/-! DEFINITION. The indirect table window (R39–R44): the commands of TBL_CMD, their completion, and the commands that are
one window write of one entry.  A command acts on its table when it is accepted; completion shows its outcome
(DESIGN CHOICE, log 8). -/

namespace Sys2Proof.Machine

/-! ## Starting a command -/

/-- A page's tables, in number order. -/
def Page.tableAt (p : Page) (k : Nat) : Option Tbl := p.tables[k]?

/-- The table that TBL_SEL names, and whether it is the per-second shadow (R442). -/
def Dev.tblPick (d : Dev) (p : Page) : Option (Tbl × Bool) :=
  let k := d.rd p TBL_SEL.TABLE
  if k < 128 then (p.tableAt k).map (fun t => (t, false))
  else
    match p.tableAt (k - 128) with
    | some t => if t.isCounter then some (t, true) else none
    | none => none

/-- TBL_DATA0–15 as one entry. -/
def Dev.tblData (d : Dev) (p : Page) : Nat := wordsEntry ((List.range 16).map (fun k => d.rd p (TBL_DATA.D k)))

/-- Put sixteen words into TBL_DATA0–15. -/
def Dev.setTblData (d : Dev) (p : Page) (l : List Nat) : Dev :=
  l.zipIdx.foldl (fun (x : Dev) (e : Nat × Nat) => x.wr p (TBL_DATA.D e.2) e.1) d

/-- What a refused window write shows: OVERRUN and error 0x004 (R42). -/
def Dev.overrun (d : Dev) (p : Page) : Dev := (d.wr p TBL_STAT.OVERRUN 1).logErr p 4

/-- A command that completes with an error; after error 0x005 TBL_DATA is to read 0 (R43). -/
def TblCmd.fail (code : Nat) : TblCmd :=
  { code := code, data := List.replicate 16 0, isRead := code == 5, drain := false, late := [] }

/-- A command that completes without an error. -/
def TblCmd.ok : TblCmd := { code := 0, data := [], isRead := false, drain := false, late := [] }

/-- The image of an RMW: the entry's words with those enabled in `arg` replaced by TBL_DATA's (R39, R40). -/
def rmwImage (arg cur data : Nat) : Nat :=
  wordsEntry ((List.range 16).map (fun k => (if hasBit arg k then data else cur) / 2 ^ (32 * k) % 2 ^ 32))

/-- A WRITE or RMW of image `e` to a table entry by function `func`: refused with a code, or taken; a CL_PROFILE write
completes with the walks under the previous entry (R229), a BP_ACCOUNT write takes effect as it completes (R254).  A
refused PM_ACCESS write is logged in HI_ERR too. -/
def Dev.tblPut (func : Nat) (t : Tbl) (i e : Nat) (d : Dev) : TblCmd × Dev :=
  match d.imageCheck func t i e with
  | 0 =>
    if t = .bpAccount then ({ TblCmd.ok with late := [(i, e)] }, d)
    else ({ TblCmd.ok with drain := t == .clProfile }, d.imageApply t i e)
  | c + 1 =>
    (TblCmd.fail (c + 1),
     if c + 1 = 0x3c1 then d.hiErr 5 func false (t.page.num * 4096 + TBL_CMD.OP.off) else d)

/-- An entry found uncorrectable on a read (error 0x005): also reported to FT (R43). -/
def Dev.tblBad (t : Tbl) (i : Nat) (d : Dev) : TblCmd × Dev := (TblCmd.fail 5, d.memError t i)

/-- Run one command by function `func` on the selection, index and data in force: the command as it will complete, and
the device with its effect.  The checks come in the order of R43 and R44. -/
def Dev.tblRun (func : Nat) (p : Page) (op arg : Nat) (bad : Bool) (d : Dev) : TblCmd × Dev :=
  let i := d.rd p TBL_INDEX.INDEX
  if 4 < op then (TblCmd.fail 3, d)
  else if op = 0 then (TblCmd.ok, d)
  else
    match d.tblPick p with
    | none => (TblCmd.fail 2, d)
    | some (t, shadow) =>
      if d.tblSize t ≤ i ∨ (op = 4 ∧ d.tblSize t ≤ i + arg) then (TblCmd.fail 1, d)
      else if shadow then
        if op = 1 then
          if bad then d.tblBad t i else ({ TblCmd.ok with data := entryWords (d.shadEntry t i), isRead := true }, d)
        else (TblCmd.fail 6, d)
      else if op = 1 then
        if bad then d.tblBad t i else ({ TblCmd.ok with data := entryWords (d.viewEntry t i), isRead := true }, d)
      else if op = 2 then d.tblPut func t i (d.tblData p)
      else if op = 3 then
        if bad then d.tblBad t i else d.tblPut func t i (rmwImage arg (d.viewEntry t i) (d.tblData p))
      else
        match ((List.range (arg + 1)).map (fun k => d.clearCheck func t (i + k))).find? (· != 0) with
        | some c => (TblCmd.fail c, d)
        | none =>
          if t = .bpAccount then
            ({ TblCmd.ok with late := (List.range (arg + 1)).map (fun k => (i + k, d.clearImage t (i + k))) }, d)
          else ({ TblCmd.ok with drain := t == .clProfile }, d.clearRange t i (arg + 1))

/-- What an accepted command shows in TBL_CMD and TBL_STAT while it is in progress. -/
def Dev.tblStart (d : Dev) (p : Page) (op arg : Nat) : Dev :=
  d.wrs p [(TBL_CMD.ARG, arg), (TBL_CMD.OP, op), (TBL_STAT.BUSY, 1), (TBL_STAT.DONE, 0), (TBL_STAT.OVERRUN, 0)]

/-- Keep a command for its completion. -/
def Dev.tblKeep (d : Dev) (p : Page) (c : TblCmd) : Dev :=
  { d with fab := { d.fab with tcmd := d.fab.tcmd.put none p.num (some c) } }

/-- A write of TBL_CMD by function `func`: discarded while a command is in progress (R42), otherwise accepted.  The fixed
header page takes none (R466). -/
def Dev.tblOp (func : Nat) (p : Page) (v : Nat) (bad : Bool) (d : Dev) : Dev :=
  match p with
  | .hdr _ => d
  | _ =>
    if d.on p TBL_STAT.BUSY then d.overrun p
    else
      let op := TBL_CMD.OP.get v
      let arg := TBL_CMD.ARG.get v
      let r := (d.tblStart p op arg).tblRun func p op arg bad
      r.2.tblKeep p r.1

/-- A host write of TBL_CMD, by its page's number. -/
def Dev.tblCmd (b : By) (pg v : Nat) (bad : Bool) (d : Dev) : Dev :=
  match d.pageOf (viaOf b pg) pg with
  | some p => d.hostF (viaOf b pg) p TBL_CMD.OP v (p.guarded (Dev.tblOp b.func p v bad))
  | none => d.unmapped b pg TBL_CMD.OP.off false

/-- TBL_NOP. -/
def execTblNop (b : By) (pg v : Nat) (s : State) : Host.Outcome State Fault Refusal :=
  s.run (.tblNop b pg v) (Dev.tblCmd b pg (TBL_CMD.OP.set v 0) false)

/-- TBL_READ; `bad` when the entry is found uncorrectable. -/
def execTblRead (b : By) (pg v : Nat) (bad : Bool) (s : State) : Host.Outcome State Fault Refusal :=
  s.run (.tblRead b pg v bad) (Dev.tblCmd b pg (TBL_CMD.OP.set v 1) bad)

/-- TBL_WRITE. -/
def execTblWrite (b : By) (pg v : Nat) (s : State) : Host.Outcome State Fault Refusal :=
  s.run (.tblWrite b pg v) (Dev.tblCmd b pg (TBL_CMD.OP.set v 2) false)

/-- TBL_RMW; `bad` when the entry is found uncorrectable. -/
def execTblRmw (b : By) (pg v : Nat) (bad : Bool) (s : State) : Host.Outcome State Fault Refusal :=
  s.run (.tblRmw b pg v bad) (Dev.tblCmd b pg (TBL_CMD.OP.set v 3) bad)

/-- TBL_CLEAR_RANGE. -/
def execTblClearRange (b : By) (pg v : Nat) (s : State) : Host.Outcome State Fault Refusal :=
  s.run (.tblClearRange b pg v) (Dev.tblCmd b pg (TBL_CMD.OP.set v 4) false)

/-! ## Completion (R41, R43, R47) -/

/-- Write the fields of PAGE_OWNER, with the message of R51 when INT_PEND is not zero after it. -/
def Dev.setOwner (d : Dev) (p : Page) (w : OwnerWrite) : Dev :=
  let d1 := d.wrs p [(PAGE_OWNER.VECTOR, w.vector), (PAGE_OWNER.OWNER, w.owner), (PAGE_OWNER.READ_MASK, w.mask)]
  if d1.pend p ≠ 0 then d1.msixPage p else d1

/-- The PAGE_OWNER write that waited for a command takes effect. -/
def Dev.ownerLate (d : Dev) (p : Page) : Dev :=
  match d.fab.ownerPend.get none p.num with
  | some w => { d with fab := { d.fab with ownerPend := d.fab.ownerPend.del p.num } }.setOwner p w
  | none => d

/-- What TBL_STAT.ERR shows for a code: a common error code itself, 15 for a block code. -/
def tblErr (code : Nat) : Nat := if code ≤ 6 then code else 15

/-- The command in progress on a page completes. -/
def Dev.tblEnd (p : Page) (c : TblCmd) (d : Dev) : Dev :=
  let d1 := { d with fab := { d.fab with tcmd := d.fab.tcmd.del p.num } }
  let d2 := c.late.foldl (fun (x : Dev) e => x.imageApply .bpAccount e.1 e.2)
    (if c.isRead then d1.setTblData p c.data else d1)
  let d3 := d2.wrs p [(TBL_STAT.BUSY, 0), (TBL_STAT.DONE, 1), (TBL_STAT.CODE, c.code), (TBL_STAT.ERR, tblErr c.code)]
  (if c.code = 0 then d3.raise p 31 else (d3.logErr p c.code).raise p 30).ownerLate p

/-- The command in progress on a page completes, unless it waits for walks to end. -/
def Dev.tblDone (pg : Nat) (d : Dev) : Dev :=
  match Page.ofNum pg, d.fab.tcmd.get none pg with
  | some p, some c => if c.drain then d else d.tblEnd p c
  | _, _ => d

/-- TBL_CMD_DONE. -/
def execTblCmdDone (pg : Nat) (s : State) : Host.Outcome State Fault Refusal := s.run (.tblCmdDone pg) (Dev.tblDone pg)

/-- The walks under the previous CL_PROFILE entry have ended: the write completes (R229). -/
def Dev.drainDone (d : Dev) : Dev :=
  match d.fab.tcmd.get none (Page.cl 1).num with
  | some c => if c.drain then d.tblEnd (.cl 1) c else d
  | none => d

/-- CL_PROFILE_DRAIN_DONE. -/
def execClProfileDrainDone (s : State) : Host.Outcome State Fault Refusal := s.run .clProfileDrainDone Dev.drainDone

/-! ## Commands that are a window write of one entry -/

/-- A table's number on its page. -/
def Tbl.slot (t : Tbl) : Nat := t.page.tables.findIdx (· == t)

/-- Load the window with a table, an index and an entry. -/
def Dev.tblLoad (d : Dev) (p : Page) (sel i e : Nat) : Dev :=
  (d.wrs p [(TBL_SEL.TABLE, sel), (TBL_INDEX.INDEX, i)]).setTblData p (entryWords e)

/-- Load the window and run one command, unless one is in progress. -/
def Dev.tblSend (p : Page) (sel i op arg e : Nat) (func : Nat) (d : Dev) : Dev :=
  if d.on p TBL_STAT.BUSY then d.overrun p
  else
    let r := ((d.tblLoad p sel i e).tblStart p op arg).tblRun func p op arg false
    r.2.tblKeep p r.1

/-- A host's window write of one entry of a page: the access checks of a write of TBL_CMD. -/
def Dev.hostSend (b : By) (p : Page) (sel i op arg e : Nat) (d : Dev) : Dev :=
  d.hostF b p TBL_CMD.OP 0 (p.guarded (Dev.tblSend p sel i op arg e b.func))

/-- GROUP_FORM: a WRITE of BD_GROUP entry `gs` (R176). -/
def execGroupForm (b : By) (gs e : Nat) (s : State) : Host.Outcome State Fault Refusal :=
  s.run (.groupForm b gs e) (Dev.hostSend b .bd Tbl.bdGroup.slot gs 2 0 e)

/-- A field of entry `i` set by an RMW of its word 0, whose other fields are written as they are read. -/
def Dev.sendField (b : By) (t : Tbl) (i : Nat) (f : Fld) (v : Nat) (d : Dev) : Dev :=
  Dev.hostSend b t.page t.slot i 3 1 (f.set (d.viewEntry t i % 2 ^ 32) v) d

/-- GROUP_DISSOLVE: SIZE = 0 of BD_GROUP entry `gs` (R178). -/
def execGroupDissolve (b : By) (gs : Nat) (s : State) : Host.Outcome State Fault Refusal :=
  s.run (.groupDissolve b gs) (Dev.sendField b .bdGroup gs BD_GROUP.SIZE 0)

/-- GROUP_LINE_MODE: LINE_MODE of BD_GROUP entry `gs` (R178). -/
def execGroupLineMode (b : By) (gs mode : Nat) (s : State) : Host.Outcome State Fault Refusal :=
  s.run (.groupLineMode b gs mode) (Dev.sendField b .bdGroup gs BD_GROUP.LINE_MODE mode)

/-- PX_ROLE_WRITE: a WRITE of PX_ROLE entry `n` (R216). -/
def execPxRoleWrite (b : By) (n e : Nat) (s : State) : Host.Outcome State Fault Refusal :=
  s.run (.pxRoleWrite b n e) (Dev.hostSend b .px0 Tbl.pxRole.slot n 2 0 e)

/-- SOURCE_SWITCH: SRC of CK_DOMAIN_CTRL entry `m` (R364). -/
def execSourceSwitch (b : By) (m src : Nat) (s : State) : Host.Outcome State Fault Refusal :=
  s.run (.sourceSwitch b m src) (Dev.sendField b .ckDomainCtrl m CK_DOMAIN_CTRL.SRC src)

/-- GATE_REQUEST: GATE = 1 of CK_DOMAIN_CTRL entry `m` (R367). -/
def execGateRequest (b : By) (m : Nat) (s : State) : Host.Outcome State Fault Refusal :=
  s.run (.gateRequest b m) (Dev.sendField b .ckDomainCtrl m CK_DOMAIN_CTRL.GATE 1)

/-- UNGATE: GATE = 0 of CK_DOMAIN_CTRL entry `m` (R369). -/
def execUngate (b : By) (m : Nat) (s : State) : Host.Outcome State Fault Refusal :=
  s.run (.ungate b m) (Dev.sendField b .ckDomainCtrl m CK_DOMAIN_CTRL.GATE 0)

end Sys2Proof.Machine
end

