-- ==== Sys2Proof/Machine/Registers.lean ====
section
/-! DEFINITION. Host accesses to registers: the common page header (R30–R37, R45–R52, R466, R467), block-scope resets
(R35, R385), and the write of any register word, which leads to the behaviour its chapter gives that register. -/

namespace Sys2Proof.Machine

/-! ## Interrupt registers (R36, R51) -/

/-- The message of R51 after a write that leaves INT_PEND not zero. -/
def Dev.resignal (d : Dev) (p : Page) : Dev := if d.pend p = 0 then d else d.msixPage p

/-- A W1C write of INT_RAW. -/
def Dev.wIntRaw (p : Page) (v : Nat) (d : Dev) : Dev :=
  (d.wr p INT_RAW.RAW (clrBits (d.rd p INT_RAW.RAW) (v % 2 ^ 32))).resignal p

/-- A write of INT_EN. -/
def Dev.wIntEn (p : Page) (v : Nat) (d : Dev) : Dev := (d.wr p INT_EN.EN (v % 2 ^ 32 &&& p.intMask)).resignal p

/-- A write of INT_FORCE: the bits of INT_RAW as events set them, and nothing else (R36). -/
def Dev.wIntForce (p : Page) (v : Nat) (d : Dev) : Dev :=
  (d.wr p INT_RAW.RAW (d.rd p INT_RAW.RAW ||| (v % 2 ^ 32 &&& p.intMask))).pendEdge p (d.pend p)

/-- A host write to a header register of a page given by its number; the fixed header page changes by none (R466). -/
def Dev.hostHdr (b : By) (pg : Nat) (fld : Fld) (v : Nat) (k : Page → Dev → Dev) (d : Dev) : Dev :=
  match d.pageOf (viaOf b pg) pg with
  | none => d.unmapped b pg fld.off false
  | some (.hdr t) => d.hostF (viaOf b pg) (.hdr t) fld v id
  | some p => d.hostF (viaOf b pg) p fld v (k p)

/-- INT_RAW_CLEAR. -/
def execIntRawClear (b : By) (pg v : Nat) (s : State) : Host.Outcome State Fault Refusal :=
  s.run (.intRawClear b pg v) (Dev.hostHdr b pg INT_RAW.RAW v (fun p => Dev.wIntRaw p v))

/-- INT_FORCE_WRITE. -/
def execIntForceWrite (b : By) (pg v : Nat) (s : State) : Host.Outcome State Fault Refusal :=
  s.run (.intForceWrite b pg v) (Dev.hostHdr b pg INT_FORCE.FORCE v (fun p => Dev.wIntForce p v))

/-- The mask bit of a vector is written; masking keeps what is pending. -/
def Dev.setMask (d : Dev) (f v : Nat) (masked keep : Bool) : Dev :=
  { d with hif := { d.hif with
    msix := d.hif.msix.put Msix.init (vecKey f v)
      { masked := masked, pending := keep && (d.hif.msix.get Msix.init (vecKey f v)).pending } } }

/-- A vector of a function that is there is unmasked: a message when its pending bit is set (R51, R431). -/
def Dev.unmask (f v : Nat) (d : Dev) : Dev :=
  if d.present f then
    let d1 := d.setMask f v false false
    if (d.hif.msix.get Msix.init (vecKey f v)).masked && d.msixPending f v then d1.emit (.msix f v) else d1
  else d

/-- MSIX_VECTOR_UNMASK. -/
def execMsixVectorUnmask (f vec : Nat) (s : State) : Host.Outcome State Fault Refusal :=
  s.run (.msixVectorUnmask f vec) (Dev.unmask f vec)

/-! ## ERR_COUNT (R37) -/

/-- A read of a register of a page named by its number, with the read's effect `k`; an unmapped offset reads 0 and is
logged (R28). -/
def Dev.readAt (b : By) (pg off : Nat) (k : Page → Dev → Nat × Dev) (d : Dev) : Dev :=
  match d.pageOf (viaOf b pg) pg with
  | none => (d.unmapped b pg off true).rdata b 0
  | some p => d.hostR (viaOf b pg) p off (k p)

/-- A read of ERR_COUNT that reached the page returns and clears the count and re-arms ERR_FIRST. -/
def Dev.errCountLoad (p : Page) (d : Dev) : Nat × Dev :=
  (d.rd p ERR_COUNT.COUNT, d.wrs p [(ERR_COUNT.COUNT, 0), (ERR_FIRST.CODE, 0), (ERR_FIRST.TIME, 0)])

/-- A read of ERR_COUNT. -/
def Dev.errCountRead (b : By) (pg : Nat) (d : Dev) : Dev := d.readAt b pg ERR_COUNT.COUNT.off Dev.errCountLoad

/-- ERR_COUNT_READ. -/
def execErrCountRead (b : By) (pg : Nat) (s : State) : Host.Outcome State Fault Refusal :=
  s.run (.errCountRead b pg) (Dev.errCountRead b pg)

/-! ## PAGE_OWNER (R45, R47) -/

/-- A write of PAGE_OWNER that reached the page: refused and logged, deferred while a table command is in progress, or
taken at once. -/
def Dev.wOwner (b : By) (p : Page) (v : Nat) (d : Dev) : Dev :=
  let w : OwnerWrite :=
    { vector := PAGE_OWNER.VECTOR.get v, owner := PAGE_OWNER.OWNER.get v, mask := PAGE_OWNER.READ_MASK.get v }
  if b.func ≠ 0 ∨ d.ownerBad p w.owner w.mask then d.hiErr 5 b.func false (ofsOf b p PAGE_OWNER.OWNER.off)
  else if d.on p TBL_STAT.BUSY then
    { d with fab := { d.fab with ownerPend := d.fab.ownerPend.put none p.num (some w) } }
  else d.setOwner p w

/-- A host write of PAGE_OWNER. -/
def Dev.hostOwner (b : By) (pg v : Nat) (d : Dev) : Dev :=
  match d.pageOf (viaOf b pg) pg with
  | none => d.unmapped b pg PAGE_OWNER.OWNER.off false
  | some p => d.hostW (viaOf b pg) p PAGE_OWNER.OWNER.off (Dev.wOwner (viaOf b pg) p v)

/-- PAGE_OWNER_WRITE. -/
def execPageOwnerWrite (b : By) (pg v : Nat) (s : State) : Host.Outcome State Fault Refusal :=
  s.run (.pageOwnerWrite b pg v) (Dev.hostOwner b pg v)

/-! ## Block-scope reset (R35, Table PWR–5) -/

/-- The profile that counts a frame at the classifier's inputs. -/
def Dev.clInProf (d : Dev) (x : ClIn) : Nat :=
  if x.up then d.rdT .clFlow x.flow CL_FLOW.US_PROFILE else d.rdT .clPortProf x.port CL_PORT_PROF.PROFILE

/-- What a block gives up in a block-scope reset beside the fields of its page: work in flight, as its chapter states.
A framer goes to DISABLED at once, with the control bit of its tree (R73, R198); the engine starts every tree afresh
(R155); the Hardy has no previous map (R163); distribution and reordering stop (R194); the classifier's frames are
dropped and counted (R234); a lane and a port fall (R340, R348). -/
def Dev.blockDrop (d : Dev) (p : Page) : Dev :=
  match p with
  | .te n i =>
    if i = 0 then
      let d1 := d.framerOffNow n
      (d1.setFr n { d1.fr n with oc := 0, ocPend := none, disRun := 0 }).setCtl n false
    else if i = 1 then { d with te := { d.te with rx := d.te.rx.del n } }
    else { d with te := { d.te with sq := d.te.sq.del n } }
  | .bw0 => { d.bwRestart with eng := { d.bwRestart.eng with traceAt := 0 } }
  | .hy0 =>
    (List.range 48).foldl (fun (x : Dev) n => x.setHy n { HyTree.init with damaged := (x.hy n).damaged.filter (· != hyOwnKey) })
      { d with eng := { d.eng with violAt := 0 } }
  | .bd =>
    (List.range 24).foldl (fun (x : Dev) g =>
      let y := (x.setBd g { x.bd g with dsSeq := [], us := [], held := [], inq := [] }).setCut g []
      (y.members g).foldl (fun (z : Dev) m => z.setFr m { z.fr m with ready := [] }) y) d
  | .cl _ =>
    let d1 := d.path.cl.foldl (fun (x : Dev) f => x.cnt .clCnt (d.clInProf f * 8 + 3)) d
    { d1 with path := { d1.path with cl := [] } }
  | .ln l => { d.wrT .ckDomainCtrl (59 + l) CK_DOMAIN_CTRL.CLK_GOOD 0 with lanes := d.lanes.del l }
  | .ulp u =>
    let d1 := d.linkFall u
    let d2 := (d1.path.mac.get [] u).foldl (fun (x : Dev) f => (x.tsqLost u f.req).release f.handle f.tag) d1
    { d2 with path := { d2.path with mac := d2.path.mac.del u } }
  | .cv u => { d with hif := { d.hif with cvReg := d.hif.cvReg.del u } }
  | _ => d

/-- A block-scope reset starts: the page's fields but PAGE_OWNER and the RWS ones return to reset, those that the
calibration store gives to its values, a table command in progress is abandoned whole, and the block is held in reset
until it ends. -/
def Dev.blockReset (d : Dev) (p : Page) : Dev :=
  let d1 := ((d.blockDrop p).resetPage p).calPage p
  { d1 with fab := { d1.fab with blkRst := if d1.fab.blkRst.contains p.num then d1.fab.blkRst else p.num :: d1.fab.blkRst } }

/-- A block-scope reset ends: SOFT_RST clears itself. -/
def Dev.blockDone (pg : Nat) (d : Dev) : Dev :=
  { d with fab := { d.fab with blkRst := d.fab.blkRst.filter (· != pg) } }

/-- BLOCK_RESET_DONE. -/
def execBlockResetDone (pg : Nat) (s : State) : Host.Outcome State Fault Refusal :=
  s.run (.blockResetDone pg) (Dev.blockDone pg)

/-! ## PAGE_CTRL (R32–R34, R346, R467) -/

/-- EN of a page is written: its block starts or stops taking work. -/
def Dev.setEnable (p : Page) (en : Nat) (d : Dev) : Dev :=
  let was := d.rd p PAGE_CTRL.EN
  let d1 := d.wr p PAGE_CTRL.EN en
  match p with
  | .te n i =>
    if i = 0 then d1.framerKick n
    else if i = 2 ∧ d1.groupPort n = n then d1.commitNow n
    else d1
  | .ln l => d1.laneKick l
  | .sc i => if i = 0 then d1.drainOut else d1
  | .ulp u =>
    if en = 0 then d1.linkFall u
    else if was = 0 then (d1.portLanes u).foldl (fun (x : Dev) l => x.laneWake l) d1
    else d1
  | _ => d1

/-- QUIESCE_REQ of a page is written (R34): 1 returns what waits at a framer to the hold (R70); 0 clears QUIESCED, and a
sequencer's held decisions are committed (R126). -/
def Dev.setQuiesce (p : Page) (q : Nat) (d : Dev) : Dev :=
  let d1 := d.wr p PAGE_CTRL.QUIESCE_REQ q
  if q = 0 then
    let d2 := d1.wr p PAGE_STAT.QUIESCED 0
    match p with
    | .te n i => if i = 2 ∧ d2.groupPort n = n then d2.commitNow n else d2
    | .sc i => if i = 0 then d2.drainOut else d2
    | _ => d2
  else
    match p with
    | .te n i => if i = 0 then d1.giveBack n else d1
    | _ => d1

/-- A write of PAGE_CTRL by T0: fields that the page does not implement keep their values; EN = 1 on a port page that is
no valid port refuses the write (R346). -/
def Dev.wPageCtrl (p : Page) (v : Nat) (d : Dev) : Dev :=
  let en := PAGE_CTRL.EN.get v
  let bad := match p with
    | .ulp u => decide (en = 1) && !d.validPort u
    | _ => false
  if bad then d.logErr p 0x302
  else
    let d1 := if p.cap.quiesce then d.setQuiesce p (PAGE_CTRL.QUIESCE_REQ.get v) else d
    let d2 := if p.enFixed then d1 else d1.setEnable p en
    if PAGE_CTRL.SOFT_RST.get v = 1 ∧ p.cap.softrst then d2.blockReset p else d2

/-- A host write of PAGE_CTRL. -/
def Dev.hostCtrl (b : By) (pg v : Nat) (d : Dev) : Dev :=
  Dev.hostHdr b pg PAGE_CTRL.EN v (fun p => p.guarded (Dev.wPageCtrl p v)) d

/-- PAGE_ENABLE_WRITE. -/
def execPageEnableWrite (b : By) (pg v : Nat) (s : State) : Host.Outcome State Fault Refusal :=
  s.run (.pageEnableWrite b pg v) (Dev.hostCtrl b pg v)

/-- QUIESCE_REQUEST: a write of PAGE_CTRL with QUIESCE_REQ = 1. -/
def execQuiesceRequest (b : By) (pg v : Nat) (s : State) : Host.Outcome State Fault Refusal :=
  s.run (.quiesceRequest b pg v) (Dev.hostCtrl b pg (PAGE_CTRL.QUIESCE_REQ.set v 1))

/-- QUIESCE_RELEASE: a write of PAGE_CTRL with QUIESCE_REQ = 0. -/
def execQuiesceRelease (b : By) (pg v : Nat) (s : State) : Host.Outcome State Fault Refusal :=
  s.run (.quiesceRelease b pg v) (Dev.hostCtrl b pg (PAGE_CTRL.QUIESCE_REQ.set v 0))

/-- SOFT_RST: a write of PAGE_CTRL with SOFT_RST = 1. -/
def execSoftRst (b : By) (pg v : Nat) (s : State) : Host.Outcome State Fault Refusal :=
  s.run (.softRst b pg v) (Dev.hostCtrl b pg (PAGE_CTRL.SOFT_RST.set v 1))

/-- A receiver still has bursts that were armed before the request (R85). -/
def Dev.burstsOut (d : Dev) (p : Page) : Bool :=
  match p with
  | .te n i => i == 1 && ((d.rx n).cur.any (fun x => x.st != .closed) || (d.rx n).next.any (fun x => x.st != .closed))
  | _ => false

/-- The outstanding transactions of a page that is asked to quiesce are complete. -/
def Dev.quiesced (pg : Nat) (d : Dev) : Dev :=
  match Page.ofNum pg with
  | some p => if d.live p && d.on p PAGE_CTRL.QUIESCE_REQ && !d.burstsOut p then d.wr p PAGE_STAT.QUIESCED 1 else d
  | none => d

/-- QUIESCE_REACHED. -/
def execQuiesceReached (pg : Nat) (s : State) : Host.Outcome State Fault Refusal :=
  s.run (.quiesceReached pg) (Dev.quiesced pg)

/-! ## Registers with ranges of their own -/

/-- A write refused whole unless its fields are in range. -/
def Dev.wRanged (b : By) (p : Page) (off v : Nat) (ok : Bool) (code : Nat) (d : Dev) : Dev :=
  if ok then d.wrPlain b p off v else d.logErr p code

/-- A write of SC_SAMPLE_CFG: PERIOD_US restarts the scan (R275). -/
def Dev.wSample (b : By) (v : Nat) (d : Dev) : Dev :=
  let u := SC_SAMPLE_CFG.PERIOD_US.get v
  if 1 ≤ u ∧ u ≤ 1000 then
    let d1 := d.wrPlain b (.sc 0) 0x100 v
    d1.setSc { d1.path.sc with scanAt := d.now, threshP := 0 }
  else d.logErr (.sc 0) 0x263

/-- A write of TM_SERVO: a changed source, port, transport or domain discards a waiting Sync (Table TIM–4). -/
def Dev.wServo (b : By) (v : Nat) (d : Dev) : Dev :=
  if TM_SERVO.TRANSPORT.get v = 3 then d.logErr (.tm 0) 0x2c1
  else
    let moved := [TM_SERVO.SRC, TM_SERVO.PORT, TM_SERVO.TRANSPORT, TM_SERVO.DOMAIN].any (fun f =>
      d.rd (.tm 0) f != f.get v)
    let d1 := d.wrPlain b (.tm 0) 0x11c v
    if moved then d1.syncDrop else d1

/-- A write of CX_JOBQ_BASE or CX_JOBQ_CFG (Table CPH–6). -/
def Dev.wJobq (b : By) (t off v : Nat) (d : Dev) : Dev :=
  let p : Page := .cxt t
  let fixed := [CX_JOBQ_BASE.LO, CX_JOBQ_BASE.HI, CX_JOBQ_CFG.SIZE_LOG2].any (fun f => f.off == off && d.rd p f != f.get v)
  let size := CX_JOBQ_CFG.SIZE_LOG2.get v
  d.wRanged b p off v (!(d.on p CX_JOBQ_CFG.EN && fixed) && (off != 0x108 || (4 ≤ size && size ≤ 12))) 0x283

/-- A write of FT_RING_CI: a value beyond PI is refused. -/
def Dev.wFtCi (v : Nat) (d : Dev) : Dev :=
  let ci := FT_RING_CI.CI.get v
  if (d.rd .ft FT_RING_PI.PI + 8192 - d.rd .ft FT_RING_CI.CI) % 8192 < (ci + 8192 - d.rd .ft FT_RING_CI.CI) % 8192 then
    d.logErr .ft 0x362
  else d.wr .ft FT_RING_CI.CI ci

/-- A register that a group port shares (R177): refused on another member, copied by an accepted write of the group
port. -/
def Dev.shared (n i : Nat) (l : List Fld) (k : Dev → Dev) (d : Dev) : Dev :=
  if d.groupPort n ≠ n then d.logErr (.te n i) 0x1e0 else (k d).copyRegs n i l

/-! ## The write of any register word -/

/-- A write of a header register. -/
def Dev.wHeader (b : By) (p : Page) (off v : Nat) (d : Dev) : Dev :=
  if off = 0x008 then (if b.func = 0 then Dev.wPageCtrl p v d else d)
  else if off = 0x010 then (if d.mayWrite b.func p INT_RAW.RAW then d.wIntRaw p v else d)
  else if off = 0x014 then (if d.mayWrite b.func p INT_EN.EN then d.wIntEn p v else d)
  else if off = 0x01c then (if d.mayWrite b.func p INT_FORCE.FORCE then d.wIntForce p v else d)
  else if b.func ≠ d.owner p then d
  else if off = 0x030 then d.tblOp b.func p v false
  else if off = 0x028 ∨ off = 0x02c ∨ (0x040 ≤ off ∧ off < 0x080) then
    if d.on p TBL_STAT.BUSY then d.overrun p
    else if off = 0x028 then d.wr p TBL_SEL.TABLE (TBL_SEL.TABLE.get v)
    else if off = 0x02c then d.wr p TBL_INDEX.INDEX (TBL_INDEX.INDEX.get v)
    else d.wr p (TBL_DATA.D ((off - 0x40) / 4)) (v % 2 ^ 32)
  else d

/-- A write of a tree engine's register. -/
def Dev.wTe (b : By) (n i off v : Nat) (d : Dev) : Dev :=
  let p : Page := .te n i
  if i = 0 then
    if off = 0x100 then d.wLineMode n v
    else if off = TE_TX_CTRL.TX_EN.off then d.wTxCtrl n v
    else if off = 0x10c then d.shared n 0 sharedRegs0 (Dev.wPhase n v)
    else if off = 0x118 ∨ off = 0x11c then d.shared n 0 sharedRegs0 (fun d => d.wrPlain b p off v)
    else if off = 0x124 then d.wOcHi n v
    else if off = 0x128 then d.wTodCtrl n v
    else if off = 0x12c then d.wTodTarget n v TE_TOD_SF_LO.SF_LO
    else if off = 0x130 then d.wTodTarget n v TE_TOD_SF_HI.SF_HI
    else d.wrPlain b p off v
  else if i = 1 then
    if off = 0x100 then d.wRxCtrl n v
    else if off = 0x104 then d.wRxCfg n v
    else if off = 0x108 then d.wRxBrst n v
    else if off = 0x10c then d.wRxListen n v
    else d.wrPlain b p off v
  else
    if off = 0x100 then d.shared n 2 sharedRegs2 (Dev.wRangeCfg n v)
    else if off = 0x104 then d.wDiscCfg n v
    else if off = 0x10c then d.wDriftCfg n v
    else if off = 0x110 then d.wRogueCfg n v
    else if off = 0x114 then d.wOnuCmd n v
    else d.wrPlain b p off v

/-- A write of a TM register. -/
def Dev.wTm (b : By) (i off v : Nat) (d : Dev) : Dev :=
  let p : Page := .tm i
  if i = 0 then
    if off = 0x118 then d.wTodCmd v
    else if off = 0x11c then d.wServo b v
    else if off = 0x124 then
      d.wRanged b p off v (TM_SERVO_LIM.MAX_PPM.get v != 0 && 100 ≤ TM_SERVO_LIM.TIMEOUT_MS.get v) 0x2c1
    else if off = 0x130 then d.wOfsIn v
    else d.wrPlain b p off v
  else if i = 1 ∧ off = 0x304 then
    let lead := TM_LAUNCH.LEAD_US4.get v
    let late := TM_LAUNCH.LATE_US4.get v
    d.wRanged b p off v (TM_LAUNCH.MAX_MS.get v != 0 && 8 ≤ lead && late ≤ 1015 && late + 6 ≤ lead) 0x2c2
  else d.wrPlain b p off v

/-- A write of a lane's register. -/
def Dev.wLane (b : By) (l off v : Nat) (d : Dev) : Dev :=
  if off = 0x100 then d.wLaneCtrl l v
  else if off = 0x104 then d.wTxeq l v
  else if off = 0x108 then d.wRxAdapt l v
  else if off = 0x10c then d.wPstate l v
  else if off = 0x114 then d.wPrbs l v
  else if off = 0x118 then d.wPrbsInj l v
  else d.wrPlain b (.ln l) off v

/-- A write of an RS register.  RS_LW_CFG with SRC_OFS64 above 992 is not taken: no error is stated (DESIGN CHOICE,
log 23). -/
def Dev.wRs (b : By) (off v : Nat) (d : Dev) : Dev :=
  if off = 0x100 then d.wResetCtrl v
  else if off = 0x108 then d.wWdt v
  else if off = 0x10c then d.wCalCmd v
  else if off = 0x110 then d.wCalStat v
  else if off = 0x11c then (if RS_LW_CFG.SRC_OFS64.get v ≤ 992 then d.wrPlain b .rs off v else d)
  else if off = 0x140 then d.qrel v
  else if off = RS_SUP_CTRL.CMP_TEST.off then (if RS_SUP_CTRL.CMP_TEST.get v = 1 then d.cmpStart else d)
  else d.wrPlain b .rs off v

/-- A write of a ring register: slot `r` at 0x100 + 0x10 × r.  An RX index taken here frees descriptors whose BUF_LENs
stay as they were. -/
def Dev.wRing (b : By) (f off v : Nat) (d : Dev) : Dev :=
  let r := (off - 0x100) / 16
  if 0x200 ≤ off then d.wrPlain b (.hir f) off v
  else if off = (HI_RING_IDX.PI r).off then d.wRingIdx f r v []
  else if off = (HI_RING_CFG.EN r).off then d.wRingCfg f r v
  else if off = (HI_RING_BASE.BASE_LO r).off then d.wRingBase f r v (HI_RING_BASE.BASE_LO r)
  else if off = (HI_RING_BASE.BASE_HI r).off then d.wRingBase f r v (HI_RING_BASE.BASE_HI r)
  else d.wrPlain b (.hir f) off v

/-- A write of a check-value unit's register. -/
def Dev.wCv (b : By) (u off v : Nat) (d : Dev) : Dev :=
  if off = 0x100 then d.wCvCtrl b u v
  else if off = 0x104 then d.wCvInit u v
  else if off = 0x108 then Dev.cvData u (beBytes 1 v) d
  else if off = 0x10c then Dev.cvData u (beBytes 2 v) d
  else if off = 0x110 then Dev.cvData u (beBytes 4 v) d
  else d

/-- A write of a block register by a writer who may write its fields. -/
def Dev.wBlock (b : By) (p : Page) (off v : Nat) (d : Dev) : Dev :=
  match p with
  | .te n i => d.wTe b n i off v
  | .tm i => d.wTm b i off v
  | .ln l => d.wLane b l off v
  | .rs => d.wRs b off v
  | .hir f => d.wRing b f off v
  | .cv u => d.wCv b u off v
  | .bw0 => if off = 0x100 then d.wCycleCfg v else if off = 0x104 then d.wRunahead v else d.wrPlain b p off v
  | .hy0 => if off = 0x100 then d.wGapMin v else if off = 0x118 then d.wSafeCmd v else d.wrPlain b p off v
  | .bd => if off = 0x100 then d.wBdCmd v else d.wrPlain b p off v
  | .px0 => if off = 0x100 then d.wPxReq v else d.wrPlain b p off v
  | .pxl k => if off = 0x100 then d.wPeerCfg k v else d.wrPlain b p off v
  | .sc i =>
    if i ≠ 0 then d
    else if off = 0x100 then d.wSample b v
    else if off = 0x104 then d.wScCmd v
    else d.wRanged b p off v (-32 ≤ sext 9 v && sext 9 v ≤ 255) 0x263
  | .cxt t => if off = 0x10c then d.wJobPi t v else d.wJobq b t off v
  | .ul0 => if off = 0x100 then d.wOctet v else d
  | .ulp u => if off = 0x100 then d.wPortCfg u v else d
  | .ck =>
    if off = 0x100 then d.wSrcSel v
    else if off = 0x108 then d.wCkFail v
    else if off = 0x114 then d.wObs v
    else d.wrPlain b p off v
  | .ft =>
    if off = 0x100 then
      let ms := FT_CTRL.COAL_MS.get v
      d.wRanged b p off v (1 ≤ ms && ms ≤ 1000 && FT_CTRL.FAULT_MIN.get v != 7) 0x363
    else if off = 0x10c then d.wFtCi v
    else if off = 0x110 then d.ftCmd v
    else d
  | .pmg g => if off = 0x300 then d.wPmSnap g v else d
  | .gl => d.wrPlain b p off v | .bwt _ => d.wrPlain b p off v | .cx0 => d.wrPlain b p off v
  | .bp _ => d.wrPlain b p off v
  | .pw => d | .hi0 => d | .bw1 => d | .hy1 => d | .cl _ => d | .cx1 => d | .pm0 => d | .tn => d | .hdr _ => d

/-- A write of a register word that reached the page: the record of fields the writer may not write (R46), then the
register's behaviour, for a writer who may write some field of it.  A register is reserved where the page defines none
(R28). -/
def Dev.wWord (b : By) (p : Page) (off v : Nat) (d : Dev) : Dev :=
  match p with
  | .hdr _ => if off = PAGE_OWNER.OWNER.off then d.wOwner b p v else d.logForbidden b p off v
  | _ =>
    if off = PAGE_OWNER.OWNER.off then d.wOwner b p v
    else
      let d1 := d.logForbidden b p off v
      if off < 0x100 then d1.wHeader b p off v
      else if (p.at off).any (fun f => d.mayWrite b.func p f) then d1.wBlock b p off v
      else d1

/-- A host write: unmapped, turned away, discarded as partial, or of the whole word (R27, R28, R46). -/
def Dev.regWrite (b : By) (pg off v : Nat) (d : Dev) : Dev :=
  let o := off / 4 * 4
  match d.pageOf (viaOf b pg) pg with
  | none => d.unmapped b pg o false
  | some p => d.hostW (viaOf b pg) p o (p.guarded (Dev.wWord (viaOf b pg) p o v))

/-! ## The read of any register word -/

/-- A read of a register word by function `f` that reached its page: its value, and what the read clears, pops or
latches (R7, R37, R59, R313, R323, R342, R437, R440, R444). -/
def Dev.loadWord (f off : Nat) (p : Page) (d : Dev) : Nat × Dev :=
  let plain := (d.readWord f p off, d.unlatch p off f)
  if off = ERR_COUNT.COUNT.off then d.errCountLoad p
  else match p with
    | .tm i =>
      if i = 0 ∧ off = 0x100 then d.todLoad f
      else if i = 1 ∧ 0x100 ≤ off ∧ off < 0x300 ∧ off % 16 = 0 then d.tsqLoad ((off - 0x100) / 16)
      else plain
    | .te n i => if i = 0 ∧ off = 0x110 then d.sfcLoad n f else plain
    | .ln l =>
      if off = LN_PRBS_ERR_LO.ERR_LO.off then d.prbsLoad l false f
      else if off = LN_PRBS_BITS_LO.BITS_LO.off then d.prbsLoad l true f
      else plain
    | .pmg g =>
      if 0x100 ≤ off ∧ off < 0x300 ∧ off % 8 = 0 then d.pmLoad g (off % 0x100 / 8) (decide (0x200 ≤ off)) f else plain
    | .hi0 => if off = 0x108 then d.hiErrCntLoad else if off = 0x110 then d.hiOmciDropLoad else plain
    | .cv u => if off = 0x118 then d.cvStatLoad u else plain
    | _ => plain

/-- A host read of a register (R27, R28, R46): unmapped, turned away, or of the whole word. -/
def Dev.regRead (b : By) (pg off : Nat) (d : Dev) : Dev :=
  d.readAt b pg (off / 4 * 4) (Dev.loadWord b.func (off / 4 * 4))

/-! ## Configuration writes beside the registers (R297, R424) -/

/-- The physical function's SR-IOV capability is written: virtual functions up to `k` are there.  One that goes away takes
its MSI-X state with it (PCIe 5.0; log 60). -/
def Dev.vfEnable (k : Nat) (d : Dev) : Dev :=
  { d with hif := { d.hif with numVfs := k, msix := d.hif.msix.keep (fun q => q / 64 ≤ k) } }

/-- What a host access does. -/
def Dev.hostAccess (b : By) (pg off : Nat) : HostOp → Dev → Dev
  | .write v, d => d.regWrite b pg off v
  | .read, d => d.regRead b pg off
  | .vfEnable k, d => if b.func = 0 then d.vfEnable k else d
  | .msixMask vec, d => if d.present b.func then d.setMask b.func vec true true else d

/-- REGISTER_WRITE: the write of a register, and the accesses beside it that have no row of their own (log 60). -/
def execRegisterWrite (b : By) (pg off : Nat) (op : HostOp) (s : State) : Host.Outcome State Fault Refusal :=
  s.run (.registerWrite b pg off op) (Dev.hostAccess b pg off op)

end Sys2Proof.Machine
end

