-- ==== Sys2Proof/Machine/Dispatch.lean ====
section
/-! DEFINITION. The dispatch of the commands: one arm per constructor of `Instr`. -/

namespace Sys2Proof.Machine

/-- What a command does (the queue of waiting commands apart). -/
def exec (i : Instr) (s : State) : Host.Outcome State Fault Refusal :=
  match i with
  | .registerWrite b pg off op => Sys2Proof.Machine.execRegisterWrite b pg off op s
  | .errCountRead b pg => Sys2Proof.Machine.execErrCountRead b pg s
  | .intRawClear b pg v => Sys2Proof.Machine.execIntRawClear b pg v s
  | .intForceWrite b pg v => Sys2Proof.Machine.execIntForceWrite b pg v s
  | .msixVectorUnmask f vec => Sys2Proof.Machine.execMsixVectorUnmask f vec s
  | .pageOwnerWrite b pg v => Sys2Proof.Machine.execPageOwnerWrite b pg v s
  | .pageEnableWrite b pg v => Sys2Proof.Machine.execPageEnableWrite b pg v s
  | .quiesceRequest b pg v => Sys2Proof.Machine.execQuiesceRequest b pg v s
  | .quiesceReached pg => Sys2Proof.Machine.execQuiesceReached pg s
  | .quiesceRelease b pg v => Sys2Proof.Machine.execQuiesceRelease b pg v s
  | .softRst b pg v => Sys2Proof.Machine.execSoftRst b pg v s
  | .blockResetDone pg => Sys2Proof.Machine.execBlockResetDone pg s
  | .tblNop b pg v => Sys2Proof.Machine.execTblNop b pg v s
  | .tblRead b pg v bad => Sys2Proof.Machine.execTblRead b pg v bad s
  | .tblWrite b pg v => Sys2Proof.Machine.execTblWrite b pg v s
  | .tblRmw b pg v bad => Sys2Proof.Machine.execTblRmw b pg v bad s
  | .tblClearRange b pg v => Sys2Proof.Machine.execTblClearRange b pg v s
  | .tblCmdDone pg => Sys2Proof.Machine.execTblCmdDone pg s
  | .frameStart n => Sys2Proof.Machine.execFrameStart n s
  | .ocHiWrite b n v => Sys2Proof.Machine.execOcHiWrite b n v s
  | .todArm b n v => Sys2Proof.Machine.execTodArm b n v s
  | .framerEnable b n v => Sys2Proof.Machine.execFramerEnable b n v s
  | .framerDisable b n v => Sys2Proof.Machine.execFramerDisable b n v s
  | .lineModeWrite b n v => Sys2Proof.Machine.execLineModeWrite b n v s
  | .dsXgemFrame n => Sys2Proof.Machine.execDsXgemFrame n s
  | .todAnnouncement n => Sys2Proof.Machine.execTodAnnouncement n s
  | .hostPloamSubmit n => Sys2Proof.Machine.execHostPloamSubmit n s
  | .cycleOpen n => Sys2Proof.Machine.execCycleOpen n s
  | .bellowsStart n kind a => Sys2Proof.Machine.execBellowsStart n kind a s
  | .speculativeMapComplete n => Sys2Proof.Machine.execSpeculativeMapComplete n s
  | .confirmationCut n => Sys2Proof.Machine.execConfirmationCut n s
  | .grantCheck n badParity => Sys2Proof.Machine.execGrantCheck n badParity s
  | .reconciliationDeadline n => Sys2Proof.Machine.execReconciliationDeadline n s
  | .mapHandover n => Sys2Proof.Machine.execMapHandover n s
  | .mapDeadline n badCrc => Sys2Proof.Machine.execMapDeadline n badCrc s
  | .txdisSample n level => Sys2Proof.Machine.execTxdisSample n level s
  | .rxDisable b n v => Sys2Proof.Machine.execRxDisable b n v s
  | .burstLockStart n slotk => Sys2Proof.Machine.execBurstLockStart n slotk s
  | .searchWindowOpen n slotk locked => Sys2Proof.Machine.execSearchWindowOpen n slotk locked s
  | .delimiterMatch n slotk bits hdr id err gasp => Sys2Proof.Machine.execDelimiterMatch n slotk bits hdr id err gasp s
  | .searchWindowClose n slotk locked => Sys2Proof.Machine.execSearchWindowClose n slotk locked s
  | .burstPayloadEnd n slotk ffe dfe dc freq gain thresh phase => Sys2Proof.Machine.execBurstPayloadEnd n slotk ffe dfe dc freq gain thresh phase s
  | .brstPulse n slotk => Sys2Proof.Machine.execBrstPulse n slotk s
  | .fecCodewordDecode n slotk corr bad bip items => Sys2Proof.Machine.execFecCodewordDecode n slotk corr bad bip items s
  | .idleSpanListen n k amp dur found => Sys2Proof.Machine.execIdleSpanListen n k amp dur found s
  | .discoveryWindowOpen n => Sys2Proof.Machine.execDiscoveryWindowOpen n s
  | .snBurstAccept n bits hdr id serial rnd err bytes mic => Sys2Proof.Machine.execSnBurstAccept n bits hdr id serial rnd err bytes mic s
  | .discoveryWindowEnd n amp dur => Sys2Proof.Machine.execDiscoveryWindowEnd n amp dur s
  | .discoveredTimeout n j => Sys2Proof.Machine.execDiscoveredTimeout n j s
  | .rangingBurstAccept n slotk => Sys2Proof.Machine.execRangingBurstAccept n slotk s
  | .rangingTimeAck n j bytes mic => Sys2Proof.Machine.execRangingTimeAck n j bytes mic s
  | .rangingAckTimeout n j => Sys2Proof.Machine.execRangingAckTimeout n j s
  | .onuAuthorise b n v => Sys2Proof.Machine.execOnuAuthorise b n v s
  | .onuRerange b n v => Sys2Proof.Machine.execOnuRerange b n v s
  | .onuDeactivate b n v => Sys2Proof.Machine.execOnuDeactivate b n v s
  | .onuDisable b n v => Sys2Proof.Machine.execOnuDisable b n v s
  | .onuEnable b n v => Sys2Proof.Machine.execOnuEnable b n v s
  | .onuRelease b n v => Sys2Proof.Machine.execOnuRelease b n v s
  | .huntAbort b n v => Sys2Proof.Machine.execHuntAbort b n v s
  | .huntRoundEnd n => Sys2Proof.Machine.execHuntRoundEnd n s
  | .traceEnable b v => Sys2Proof.Machine.execTraceEnable b v s
  | .safeEnter b v => Sys2Proof.Machine.execSafeEnter b v s
  | .safeExit b v => Sys2Proof.Machine.execSafeExit b v s
  | .groupForm b gs e => Sys2Proof.Machine.execGroupForm b gs e s
  | .groupDissolve b gs => Sys2Proof.Machine.execGroupDissolve b gs s
  | .groupLineMode b gs mode => Sys2Proof.Machine.execGroupLineMode b gs mode s
  | .memberDown b v => Sys2Proof.Machine.execMemberDown b v s
  | .memberRestore b v => Sys2Proof.Machine.execMemberRestore b v s
  | .skewRemeasure b v => Sys2Proof.Machine.execSkewRemeasure b v s
  | .memberRestoreTimeout gs ms => Sys2Proof.Machine.execMemberRestoreTimeout gs ms s
  | .dsFragmentDistribute gs => Sys2Proof.Machine.execDsFragmentDistribute gs s
  | .usFragmentReceive gs => Sys2Proof.Machine.execUsFragmentReceive gs s
  | .fragmentWaitTimeout gs a => Sys2Proof.Machine.execFragmentWaitTimeout gs a s
  | .oamTemplateSend gs => Sys2Proof.Machine.execOamTemplateSend gs s
  | .holdGapDetect k edges agree => Sys2Proof.Machine.execHoldGapDetect k edges agree s
  | .holdGapEnd k => Sys2Proof.Machine.execHoldGapEnd k s
  | .protectionCellSend k => Sys2Proof.Machine.execProtectionCellSend k s
  | .protectionCellReceive k header payload => Sys2Proof.Machine.execProtectionCellReceive k header payload s
  | .linkSilent k => Sys2Proof.Machine.execLinkSilent k s
  | .timeCellSend k => Sys2Proof.Machine.execTimeCellSend k s
  | .timeCellReceive k header payload => Sys2Proof.Machine.execTimeCellReceive k header payload s
  | .mirrorRecordApply k cells => Sys2Proof.Machine.execMirrorRecordApply k cells s
  | .mirrorDeadline n => Sys2Proof.Machine.execMirrorDeadline n s
  | .acquisitionTimeout n => Sys2Proof.Machine.execAcquisitionTimeout n s
  | .reqClear b v => Sys2Proof.Machine.execReqClear b v s
  | .reqLockout b v => Sys2Proof.Machine.execReqLockout b v s
  | .reqForced b v => Sys2Proof.Machine.execReqForced b v s
  | .reqManual b v => Sys2Proof.Machine.execReqManual b v s
  | .reqExercise b v => Sys2Proof.Machine.execReqExercise b v s
  | .exerciseTimeout n => Sys2Proof.Machine.execExerciseTimeout n s
  | .wtrExpiry n => Sys2Proof.Machine.execWtrExpiry n s
  | .startTimeout n => Sys2Proof.Machine.execStartTimeout n s
  | .holdFault k => Sys2Proof.Machine.execHoldFault k s
  | .pxRoleWrite b n e => Sys2Proof.Machine.execPxRoleWrite b n e s
  | .aztilMessageReceive k cells => Sys2Proof.Machine.execAztilMessageReceive k cells s
  | .dsFrameClassify u badNode badFlow => Sys2Proof.Machine.execDsFrameClassify u badNode badFlow s
  | .usFrameClassify n badNode badFlow => Sys2Proof.Machine.execUsFrameClassify n badNode badFlow s
  | .clProfileDrainDone => Sys2Proof.Machine.execClProfileDrainDone s
  | .bufferAdmit desc damaged => Sys2Proof.Machine.execBufferAdmit desc damaged s
  | .releaseRequest handle tag damaged more => Sys2Proof.Machine.execReleaseRequest handle tag damaged more s
  | .freeRequest handle tag damaged more => Sys2Proof.Machine.execFreeRequest handle tag damaged more s
  | .slackTubReceive => Sys2Proof.Machine.execSlackTubReceive s
  | .dequeueSelect root damaged => Sys2Proof.Machine.execDequeueSelect root damaged s
  | .launchTimeReached a => Sys2Proof.Machine.execLaunchTimeReached a s
  | .flush b v => Sys2Proof.Machine.execFlush b v s
  | .flushDone => Sys2Proof.Machine.execFlushDone s
  | .latencySample q => Sys2Proof.Machine.execLatencySample q s
  | .dsEncrypt n badCtx badData => Sys2Proof.Machine.execDsEncrypt n badCtx badData s
  | .usDecrypt n badCtx => Sys2Proof.Machine.execUsDecrypt n badCtx s
  | .pauseScanDone pair => Sys2Proof.Machine.execPauseScanDone pair s
  | .jobCfbEncrypt f key len addr src aux dmaErr => Sys2Proof.Machine.execJobCfbEncrypt f key len addr src aux dmaErr s
  | .jobCfbDecrypt f key len addr src aux dmaErr => Sys2Proof.Machine.execJobCfbDecrypt f key len addr src aux dmaErr s
  | .jobCmacGenerate f key len addr src aux dmaErr => Sys2Proof.Machine.execJobCmacGenerate f key len addr src aux dmaErr s
  | .jobCmacVerify f key len addr src aux dmaErr => Sys2Proof.Machine.execJobCmacVerify f key len addr src aux dmaErr s
  | .jobComplete f badOp => Sys2Proof.Machine.execJobComplete f badOp s
  | .jobqPiWrite b f v => Sys2Proof.Machine.execJobqPiWrite b f v s
  | .functionLevelReset f => Sys2Proof.Machine.execFunctionLevelReset f s
  | .flrDone f => Sys2Proof.Machine.execFlrDone f s
  | .todSet b v => Sys2Proof.Machine.execTodSet b v s
  | .todStep b v => Sys2Proof.Machine.execTodStep b v s
  | .todRead b => Sys2Proof.Machine.execTodRead b s
  | .sfcLoRead b n => Sys2Proof.Machine.execSfcLoRead b n s
  | .oneSecondTick => Sys2Proof.Machine.execOneSecondTick s
  | .hostOffsetSample b v => Sys2Proof.Machine.execHostOffsetSample b v s
  | .ptpSyncReceive u transport version domain clockId portNum seq twoStep sec ns corr => Sys2Proof.Machine.execPtpSyncReceive u transport version domain clockId portNum seq twoStep sec ns corr s
  | .ptpFollowUpReceive u transport version domain clockId portNum seq sec ns corr => Sys2Proof.Machine.execPtpFollowUpReceive u transport version domain clockId portNum seq sec ns corr s
  | .servoTimeout => Sys2Proof.Machine.execServoTimeout s
  | .xtalGate v => Sys2Proof.Machine.execXtalGate v s
  | .tsqPop b u => Sys2Proof.Machine.execTsqPop b u s
  | .pstateRequest b l v => Sys2Proof.Machine.execPstateRequest b l v s
  | .pstateTransitionDone l => Sys2Proof.Machine.execPstateTransitionDone l s
  | .clkGoodRise m => Sys2Proof.Machine.execClkGoodRise m s
  | .adaptRestart b l v => Sys2Proof.Machine.execAdaptRestart b l v s
  | .adaptDone l => Sys2Proof.Machine.execAdaptDone l s
  | .adaptFail l present => Sys2Proof.Machine.execAdaptFail l present s
  | .prbsInject b l v => Sys2Proof.Machine.execPrbsInject b l v s
  | .prbsClear b l v => Sys2Proof.Machine.execPrbsClear b l v s
  | .prbsLost l bits errs => Sys2Proof.Machine.execPrbsLost l bits errs s
  | .prbsErrLoRead b l total bits errs => Sys2Proof.Machine.execPrbsErrLoRead b l total bits errs s
  | .ulFrameReceive u bytes marked corr unc syms => Sys2Proof.Machine.execUlFrameReceive u bytes marked corr unc syms s
  | .ulFrameTransmit u held badData => Sys2Proof.Machine.execUlFrameTransmit u held badData s
  | .linkUp u => Sys2Proof.Machine.execLinkUp u s
  | .linkDown u aligned lf rf trunc => Sys2Proof.Machine.execLinkDown u aligned lf rf trunc s
  | .refclkDetect refRate => Sys2Proof.Machine.execRefclkDetect refRate s
  | .refclkLoss => Sys2Proof.Machine.execRefclkLoss s
  | .reflLock => Sys2Proof.Machine.execReflLock s
  | .clockFailure src dead => Sys2Proof.Machine.execClockFailure src dead s
  | .xtalBFailure dead => Sys2Proof.Machine.execXtalBFailure dead s
  | .xtalBReturn => Sys2Proof.Machine.execXtalBReturn s
  | .sysLock => Sys2Proof.Machine.execSysLock s
  | .sourceSwitch b m src => Sys2Proof.Machine.execSourceSwitch b m src s
  | .sourceSwitchDone m => Sys2Proof.Machine.execSourceSwitchDone m s
  | .deadSource m newDead => Sys2Proof.Machine.execDeadSource m newDead s
  | .gateRequest b m => Sys2Proof.Machine.execGateRequest b m s
  | .gateComplete m => Sys2Proof.Machine.execGateComplete m s
  | .gateTimeout m => Sys2Proof.Machine.execGateTimeout m s
  | .ungate b m => Sys2Proof.Machine.execUngate b m s
  | .clockFailClear b v locked xtalA => Sys2Proof.Machine.execClockFailClear b v locked xtalA s
  | .feedStateChange feed mag rev => Sys2Proof.Machine.execFeedStateChange feed mag rev s
  | .feedUsable feed => Sys2Proof.Machine.execFeedUsable feed s
  | .lastWordStart magA magB lid => Sys2Proof.Machine.execLastWordStart magA magB lid s
  | .lastWordRecordDone => Sys2Proof.Machine.execLastWordRecordDone s
  | .holdupOk ok => Sys2Proof.Machine.execHoldupOk ok s
  | .lwArmed => Sys2Proof.Machine.execLwArmed s
  | .powerOnReset retain => Sys2Proof.Machine.execPowerOnReset retain s
  | .rstNAssert => Sys2Proof.Machine.execRstNAssert s
  | .rstNRelease => Sys2Proof.Machine.execRstNRelease s
  | .pcieHotReset => Sys2Proof.Machine.execPcieHotReset s
  | .resetCold b v => Sys2Proof.Machine.execResetCold b v s
  | .resetWarm b v => Sys2Proof.Machine.execResetWarm b v s
  | .resetDomain b v => Sys2Proof.Machine.execResetDomain b v s
  | .releaseEscalated b v => Sys2Proof.Machine.execReleaseEscalated b v s
  | .domainResetDone m => Sys2Proof.Machine.execDomainResetDone m s
  | .releaseStep => Sys2Proof.Machine.execReleaseStep s
  | .watchdogKick b v => Sys2Proof.Machine.execWatchdogKick b v s
  | .watchdogWarn => Sys2Proof.Machine.execWatchdogWarn s
  | .watchdogExpiry => Sys2Proof.Machine.execWatchdogExpiry s
  | .calCommit b v => Sys2Proof.Machine.execCalCommit b v s
  | .calReload b v => Sys2Proof.Machine.execCalReload b v s
  | .calDone ok => Sys2Proof.Machine.execCalDone ok s
  | .quenchNAssert => Sys2Proof.Machine.execQuenchNAssert s
  | .qrelWrite b v => Sys2Proof.Machine.execQrelWrite b v s
  | .lockstepMismatch sig => Sys2Proof.Machine.execLockstepMismatch sig s
  | .cmpTest b v => Sys2Proof.Machine.execCmpTest b v s
  | .cmpTestDone ok => Sys2Proof.Machine.execCmpTestDone ok s
  | .holdOutputMismatch k => Sys2Proof.Machine.execHoldOutputMismatch k s
  | .thermalSample sensor temp => Sys2Proof.Machine.execThermalSample sensor temp s
  | .faultEvent cls unit onu detail => Sys2Proof.Machine.execFaultEvent cls unit onu detail s
  | .faultWindowClose cls unit => Sys2Proof.Machine.execFaultWindowClose cls unit s
  | .lastingExpiry cls unit => Sys2Proof.Machine.execLastingExpiry cls unit s
  | .coalIntervalEnd cls unit => Sys2Proof.Machine.execCoalIntervalEnd cls unit s
  | .ftClear b v => Sys2Proof.Machine.execFtClear b v s
  | .ftInject b v => Sys2Proof.Machine.execFtInject b v s
  | .txRingDoorbell b f r v => Sys2Proof.Machine.execTxRingDoorbell b f r v s
  | .rxRingConsume b f x v lens => Sys2Proof.Machine.execRxRingConsume b f x v lens s
  | .txFlowFrame f r target bytes tsMode tsId tsOfs udpOfs launch pSec pNs => Sys2Proof.Machine.execTxFlowFrame f r target bytes tsMode tsId tsOfs udpOfs launch pSec pNs s
  | .txAggFrame f r target bytes tsMode tsId tsOfs udpOfs launch pSec pNs => Sys2Proof.Machine.execTxAggFrame f r target bytes tsMode tsId tsOfs udpOfs launch pSec pNs s
  | .txPloam f r target len onuId type body stamp => Sys2Proof.Machine.execTxPloam f r target len onuId type body stamp s
  | .txOmci f r target bytes stamp => Sys2Proof.Machine.execTxOmci f r target bytes stamp s
  | .txAztilMessage f r target bytes stamp => Sys2Proof.Machine.execTxAztilMessage f r target bytes stamp s
  | .hostAggDequeue f badData damaged => Sys2Proof.Machine.execHostAggDequeue f badData damaged s
  | .dmaError f slot idx isRead canWrite => Sys2Proof.Machine.execDmaError f slot idx isRead canWrite s
  | .ringCoalesceTimeout f slot => Sys2Proof.Machine.execRingCoalesceTimeout f slot s
  | .pcieLinkChange up rate width => Sys2Proof.Machine.execPcieLinkChange up rate width s
  | .hiErrCntRead b => Sys2Proof.Machine.execHiErrCntRead b s
  | .hiOmciDropRead b => Sys2Proof.Machine.execHiOmciDropRead b s
  | .pmSnap b g v => Sys2Proof.Machine.execPmSnap b g v s
  | .pmCntLoRead b g c snap => Sys2Proof.Machine.execPmCntLoRead b g c snap s
  | .cvAlgWrite b cv v => Sys2Proof.Machine.execCvAlgWrite b cv v s
  | .cvStart b cv v => Sys2Proof.Machine.execCvStart b cv v s
  | .cvData8 b cv v => Sys2Proof.Machine.execCvData8 b cv v s
  | .cvData16 b cv v => Sys2Proof.Machine.execCvData16 b cv v s
  | .cvData32 b cv v => Sys2Proof.Machine.execCvData32 b cv v s
  | .cvStatRead b cv => Sys2Proof.Machine.execCvStatRead b cv s
  | .quenchNRelease => Sys2Proof.Machine.execQuenchNRelease s
  | .prbsLock l => Sys2Proof.Machine.execPrbsLock l s
  | .prbsInjectDone l => Sys2Proof.Machine.execPrbsInjectDone l s
  | .soscFailure => Sys2Proof.Machine.execSoscFailure s
  | .opticBusError bus => Sys2Proof.Machine.execOpticBusError bus s
  | .pcieUncorrectableError => Sys2Proof.Machine.execPcieUncorrectableError s
  | .inputCurrentHigh cur => Sys2Proof.Machine.execInputCurrentHigh cur s
  | .aztilMessageAck k id dropped => Sys2Proof.Machine.execAztilMessageAck k id dropped s

end Sys2Proof.Machine
end

