-- ==== Sys2Proof/Machine/Tick.lean ====
section
/-! DEFINITION. What time alone does while no command waits: ten nanoseconds pass (DESIGN CHOICE, log 10).  Module time
counts, and the occupancy counters of R439 count the eleven PKT-domain cycles of 1.1 GHz.  The instants of the block's
timers, frames and engines are commands of the table. -/

namespace Sys2Proof.Machine

/-- Stored bytes of a queue. -/
def Queue.bytes (q : Queue) : Nat := q.frames.foldl (fun s h => s + h.len) 0

/-- Buffers charged to an account, all pools. -/
def Dev.charged (d : Dev) (a : Nat) : Nat :=
  (List.range 5).foldl (fun s p => s + d.rdT .bpAccount a (BP_ACCOUNT.USE p)) 0

/-- Buffers in use in a pool: those neither free nor retired. -/
def Dev.inUse (d : Dev) (p : Nat) : Nat :=
  d.rdT .bpPoolCfg p BP_POOL_CFG.SRAM_BUFS + d.rdT .bpPoolCfg p BP_POOL_CFG.HBM_BUFS -
    (d.rdT .bpPoolCfg p BP_POOL_CFG.FREE_SRAM + d.rdT .bpPoolCfg p BP_POOL_CFG.FREE_HBM +
      d.rdT .bpPoolCfg p BP_POOL_CFG.RETIRED)

/-- Whether the occupancy event of a counter's PM_SEL entry holds in this cycle (R439, Table HIF–10). -/
def Dev.occupied (d : Dev) (c ev : Nat) : Bool :=
  let i := d.rdT .pmSel c PM_SEL.INSTANCE
  let n := d.rdT .pmSel c PM_SEL.N
  if ev = 21 then n * 64 < (d.queue i).bytes
  else if ev = 22 then n < d.charged i
  else n < d.inUse i

/-- The occupancy counters of one event over `k` cycles. -/
def Dev.occupancy (d : Dev) (ev k : Nat) : Dev :=
  (d.pmListed ev).foldl (fun (x : Dev) c => if d.occupied c ev then x.pmSet c (x.pmCount c + k) else x) d

/-- Ten nanoseconds pass. -/
def Dev.idle (d : Dev) : Dev :=
  let d1 := if d.live (.tm 0) then d.todApply.countTime else { d with now := d.now + 10 }
  let d2 := if d1.live .pm0 && !d1.dark 6 && !d1.domInReset 6 then
      ((d1.occupancy 21 11).occupancy 22 11).occupancy 23 11
    else d1
  ((d2.cellTime 0).cellTime 1).settle

end Sys2Proof.Machine
end

