-- ==== Sys2Proof/Safety.lean ====
section
/-! DEFINITION. What counts as a safe state and a safe run of the block, in the terms the claims use: light only with
both keys, stores in their canonical form, and no event of FT left over from a step. -/

namespace Sys2Proof.Machine

/-- The laser of tree `n` may be lit: its TXDIS land is low (R74, R402). -/
def Dev.lit (d : Dev) (n : Nat) : Bool := !d.txdis n

/-- The register, table and shadow stores are in canonical form. -/
def Dev.canonical (d : Dev) : Bool :=
  d.regs.wf regDefault && d.tbls.wf tblDefault && d.shads.wf (fun _ => 0)

/-- Every event that a step reported has been applied in that step (R410). -/
def Dev.drained (d : Dev) : Bool := d.ft.queue == []

/-- Module time is a time: nanoseconds below a second, a fraction below a nanosecond, seconds of 48 bits (R311). -/
def TimeVal.ok (t : TimeVal) : Bool := t.sec < 2 ^ 48 && t.ns < 1000000000 && t.frac < 2 ^ 32

/-- A safe state: a tree is lit only with key A and key B (R74, R401), no event waits, the stores are canonical. -/
def State.safe (s : State) : Prop :=
  s.dev.drained = true ∧ s.dev.canonical = true ∧
    ∀ n < 48, s.dev.lit n = true → s.dev.keyA n = true ∧ s.dev.keyB n = true

/-- The state after an effect on the device: FT has applied what the effect reported (R410), the queue is as it was. -/
def State.after (s : State) (d : Dev) : State := { s with dev := d.settle }

/-! ## Accesses that reach their register -/

/-- A host write of value `v` to the register of field `fld` is not turned away, its writer may write that field, and it
changes no field that its writer may not write (R46). -/
def Dev.accepts (d : Dev) (b : By) (p : Page) (fld : Fld) (v : Nat) : Bool :=
  d.names b p && d.deny b p true == 0 && d.mayWrite b.func p fld &&
    !(p.at fld.off).any (fun g => d.forbidden b.func p g v)

/-- A host read of a page is not turned away. -/
def Dev.readable (d : Dev) (b : By) (p : Page) : Bool := d.names b p && d.deny b p false == 0

end Sys2Proof.Machine
end

