-- ==== Sys2Proof/Certificates/Slice0/Obligations.lean ====
section
/-! DEFINITION. The statements for the provers.  A device is written as the state after the command's own effect and before
FT applies what the command reported (`Dev.settle`, which changes nothing where nothing was reported). -/

section Slice0Statements

open Sys2Proof Sys2Proof.Machine

/-! ## The step, the queue, every command -/

/-- The command at the front of the queue acts on the device with the queue's rest. -/
def Obligations.FrontCommandRuns : Prop :=
  ∀ (s : State) (c : Instr) (l : List Instr), s.pending = c :: l → step s = exec c { s with pending := l }

/-- With no command waiting, time alone passes (the model's choice, log 10): the queue stays empty. -/
def Obligations.EmptyQueueIdles : Prop :=
  ∀ s : State, s.pending = [] → step s = .next { s with dev := s.dev.idle }

/-- Whatever the state, no event that a step reported to FT waits after it: FT applies the events of a step in that step
(R410). -/
def Obligations.StepLeavesNoEvent : Prop :=
  ∀ s t : State, step s = .next t → t.dev.drained = true

/-- After reset no event waits in FT and the stores are in canonical form. -/
def Obligations.ResetDrainedCanonical : Prop :=
  State.reset.dev.drained = true ∧ State.reset.dev.canonical = true ∧ State.reset.pending = []

/-- What a command does to the device does not depend on the commands that wait behind it, and it leaves them as they
are; a step takes exactly the front command out of the queue and puts none in. -/
def Obligations.CommandsIgnoreQueue : Prop :=
  (∀ (c : Instr) (s t : State) (l : List Instr), exec c s = .next t →
    t.pending = s.pending ∧ exec c { s with pending := l } = .next { t with pending := l }) ∧
  ∀ s t : State, step s = .next t → t.pending = s.pending.tail

/-- Every command that names units that exist answers a next state in every state; one that does not is stopped by
`noSuchUnit`; none is refused. -/
def Obligations.EveryCommandAnswers : Prop :=
  ∀ (c : Instr) (s : State),
    (c.wellFormed = true → ∃ t, exec c s = .next t) ∧ (c.wellFormed = false → exec c s = .fault .noSuchUnit) ∧
    ∀ r, exec c s ≠ .refused r

/-- The writes of register and table fields, the resets of a page and of a domain, and the clearing of a range of table
entries without rules of their own keep the stores in canonical form. -/
def Obligations.StoreOperationsKeepCanonical : Prop :=
  ∀ d : Dev, d.canonical = true →
    (∀ p f v, (d.wr p f v).canonical = true) ∧ (∀ t i f v, (d.wrT t i f v).canonical = true) ∧
    (∀ p, (d.resetPage p).canonical = true) ∧ (∀ k, (d.resetDomain k).canonical = true) ∧
    (∀ p b, (d.raise p b).canonical = true) ∧ (∀ p c, (d.logErr p c).canonical = true) ∧
    (∀ t i k, t.isCounter = true → (d.clearRange t i k).canonical = true)

/-! ## Registers, page header, interrupts -/

/-- A page without behaviours of its own at 0x100 and above. -/
def plainPage (p : Page) : Prop := p = .gl ∨ p = .cx0 ∨ p = .bp 0 ∨ ∃ n, p = .bwt n

/-- REGISTER_WRITE completes: the register at `off` takes the word in the fields its writer may write (R46); and so do the
accesses that the row carries (log 60): a read returns the addressed bytes of the word, with the read effect of that
register; the physical function's SR-IOV write says which virtual functions there are; a vector is masked. -/
def Obligations.RegisterWriteTaken : Prop :=
  ∀ (s : State) (b : By) (pg : Nat) (p : Page) (off : Nat), let w := viaOf b pg
    (∀ v f, (Instr.registerWrite b pg off (.write v)).wellFormed = true → off % 4 = 0 → 0x100 ≤ off → plainPage p →
      s.dev.pageOf w pg = some p → f ∈ p.at off → s.dev.accepts w p f v = true →
      exec (.registerWrite b pg off (.write v)) s = .next (s.after (s.dev.wrPlain w p off v))) ∧
    (b.ok = true → pg < 16384 → off < 4096 → off % 4 = 0 → s.dev.pageOf w pg = some p → s.dev.readable w p = true →
      let r := Dev.loadWord b.func off p s.dev
      exec (.registerWrite b pg off .read) s = .next (s.after (r.2.emit (.rdata w.func (bytesOf w r.1))))) ∧
    (∀ k < 16, b.ok = true → pg < 16384 → off < 4096 → b.func = 0 →
      ∃ e : Dev, exec (.registerWrite b pg off (.vfEnable k)) s = .next (s.after e) ∧
        e.hif.numVfs = k ∧ e.regs = s.dev.regs ∧ e.tbls = s.dev.tbls ∧ e.out = s.dev.out) ∧
    (∀ vec < 64, b.ok = true → pg < 16384 → off < 4096 → s.dev.present b.func = true →
      ∃ e : Dev, exec (.registerWrite b pg off (.msixMask vec)) s = .next (s.after e) ∧
        (e.hif.msix.get Msix.init (vecKey b.func vec)).masked = true ∧
        (∀ k, k ≠ vecKey b.func vec → e.hif.msix.get Msix.init k = s.dev.hif.msix.get Msix.init k) ∧
        e.regs = s.dev.regs ∧ e.tbls = s.dev.tbls ∧ e.out = s.dev.out)

/-- What a register write by function `f` makes of each field: an RW field is T0's, an RWT field the owner's, whoever may
not write a field leaves it, and no other register or table changes (R46). -/
def Obligations.RegisterWriteFields : Prop :=
  ∀ (d : Dev) (b : By) (p : Page) (off v : Nat),
    (∀ g ∈ p.at off, (g.acc = .rw ∨ g.acc = .rws) → b.func = 0 → (d.wrPlain b p off v).rd p g = g.get v) ∧
    (∀ g ∈ p.at off, g.acc = .rwt → b.func = d.owner p → (d.wrPlain b p off v).rd p g = g.get v) ∧
    (∀ g ∈ p.at off, d.mayWrite b.func p g = false → (d.wrPlain b p off v).rd p g = d.rd p g) ∧
    (∀ g ∈ p.at off, (g.acc = .rw ∨ g.acc = .rws) → b.func ≠ 0 → (d.wrPlain b p off v).rd p g = d.rd p g) ∧
    (∀ g ∈ p.at off, g.acc = .rwt → b.func ≠ d.owner p → (d.wrPlain b p off v).rd p g = d.rd p g) ∧
    (∀ q g, (∀ h ∈ p.at off, q.key g ≠ p.key h) → (d.wrPlain b p off v).rd q g = d.rd q g) ∧
    (∀ t i g, (d.wrPlain b p off v).rdT t i g = d.rdT t i g) ∧
    (d.wrPlain b p off v).out = d.out ∧ (d.wrPlain b p off v).ft = d.ft

/-- The interrupt registers: INT_RAW_CLEAR clears the bits written 1, INT_FORCE_WRITE sets those the page implements and
sends the message of a rising INT_PEND, a read of ERR_COUNT returns and clears the count and re-arms ERR_FIRST, and an
unmasked vector sends what is pending (R36, R37, R51). -/
def Obligations.InterruptRegistersComplete : Prop :=
  ∀ (s : State) (b : By) (pg : Nat) (p : Page) (v : Nat), let w := viaOf b pg
    (∀ t, p ≠ .hdr t) → s.dev.pageOf w pg = some p →
    ((Instr.intRawClear b pg v).wellFormed = true → s.dev.accepts w p INT_RAW.RAW v = true →
      exec (.intRawClear b pg v) s = .next (s.after (
        let e := s.dev.wr p INT_RAW.RAW (clrBits (s.dev.rd p INT_RAW.RAW) v)
        if e.pend p = 0 then e else e.msixPage p))) ∧
    ((Instr.intForceWrite b pg v).wellFormed = true → s.dev.accepts w p INT_FORCE.FORCE v = true →
      exec (.intForceWrite b pg v) s = .next (s.after (
        let e := s.dev.wr p INT_RAW.RAW (s.dev.rd p INT_RAW.RAW ||| (v &&& p.intMask))
        if s.dev.pend p = 0 ∧ e.pend p ≠ 0 then e.msixPage p else e))) ∧
    ((Instr.errCountRead b pg).wellFormed = true → s.dev.readable w p = true →
      exec (.errCountRead b pg) s = .next (s.after (
        (s.dev.wrs p [(ERR_COUNT.COUNT, 0), (ERR_FIRST.CODE, 0), (ERR_FIRST.TIME, 0)]).emit
          (.rdata w.func (bytesOf w (s.dev.rd p ERR_COUNT.COUNT))))))

/-- MSIX_VECTOR_UNMASK completes on a function that is there: the vector is unmasked, and a message leaves when it was masked
with its pending bit set (R51, R431). -/
def Obligations.VectorUnmaskCompletes : Prop :=
  ∀ (s : State) (f vec : Nat), f < 16 → vec < 64 → s.dev.present f = true →
    ∃ t, exec (.msixVectorUnmask f vec) s = .next (s.after t) ∧
    t.hif.msix.get Msix.init (vecKey f vec) = { masked := false, pending := false } ∧
    (∀ k, k ≠ vecKey f vec → t.hif.msix.get Msix.init k = s.dev.hif.msix.get Msix.init k) ∧
    t.regs = s.dev.regs ∧ t.tbls = s.dev.tbls ∧
    t.out = (if (s.dev.hif.msix.get Msix.init (vecKey f vec)).masked ∧
        ((s.dev.hif.msix.get Msix.init (vecKey f vec)).pending ∨
          ∃ p ∈ s.dev.pendPages f, s.dev.rd p PAGE_OWNER.VECTOR = vec)
      then .msix f vec :: s.dev.out else s.dev.out)

/-- PAGE_OWNER_WRITE completes: T0's write within its own mask is taken at once, with the message of R51, or waits for the
table command in progress; a virtual function's, or one that the page does not allow, changes nothing but HI_ERR
(R45, R47). -/
def Obligations.PageOwnerWriteCompletes : Prop :=
  ∀ (s : State) (b : By) (pg : Nat) (p : Page) (v : Nat), let x := viaOf b pg
    (Instr.pageOwnerWrite b pg v).wellFormed = true →
    s.dev.pageOf x pg = some p → s.dev.names x p = true → s.dev.deny x p true = 0 →
    let w : OwnerWrite :=
      { vector := PAGE_OWNER.VECTOR.get v, owner := PAGE_OWNER.OWNER.get v, mask := PAGE_OWNER.READ_MASK.get v }
    (b.func = 0 → s.dev.ownerBad p w.owner w.mask = false → s.dev.rd p TBL_STAT.BUSY = 0 →
      exec (.pageOwnerWrite b pg v) s = .next (s.after (s.dev.setOwner p w))) ∧
    (b.func = 0 → s.dev.ownerBad p w.owner w.mask = false → s.dev.rd p TBL_STAT.BUSY ≠ 0 →
      ∃ e : Dev, exec (.pageOwnerWrite b pg v) s = .next (s.after e) ∧
        e.fab.ownerPend.get none p.num = some w ∧ e.regs = s.dev.regs ∧ e.tbls = s.dev.tbls) ∧
    ((b.func ≠ 0 ∨ s.dev.ownerBad p w.owner w.mask = true) →
      exec (.pageOwnerWrite b pg v) s = .next (s.after (s.dev.hiErr 5 b.func false (ofsOf x p 0x80))))

/-- The writes of PAGE_CTRL by T0 complete: EN, QUIESCE_REQ and SOFT_RST act on the pages that have them
(R32–R35, R346). -/
def Obligations.PageControlCompletes : Prop :=
  ∀ (s : State) (b : By) (pg : Nat) (p : Page) (v : Nat), let w := viaOf b pg
    b.ok = true → pg < 16384 → v < 2 ^ 32 → (∀ t, p ≠ .hdr t) →
    s.dev.pageOf w pg = some p → (∀ u, p = .ulp u → s.dev.validPort u = true) →
    (PAGE_CTRL.SOFT_RST.get v = 0 → s.dev.accepts w p PAGE_CTRL.EN v = true →
      exec (.pageEnableWrite b pg v) s = .next (s.after (p.guarded (fun e =>
        let e1 := if p.cap.quiesce then e.setQuiesce p (PAGE_CTRL.QUIESCE_REQ.get v) else e
        if p.enFixed then e1 else e1.setEnable p (PAGE_CTRL.EN.get v)) s.dev))) ∧
    (PAGE_CTRL.SOFT_RST.get v = 0 → p.cap.quiesce = true →
      s.dev.accepts w p PAGE_CTRL.EN (PAGE_CTRL.QUIESCE_REQ.set v 1) = true →
      exec (.quiesceRequest b pg v) s = .next (s.after (p.guarded (fun e =>
        let e1 := e.setQuiesce p 1
        if p.enFixed then e1 else e1.setEnable p (PAGE_CTRL.EN.get v)) s.dev))) ∧
    (PAGE_CTRL.SOFT_RST.get v = 0 → p.cap.quiesce = true →
      s.dev.accepts w p PAGE_CTRL.EN (PAGE_CTRL.QUIESCE_REQ.set v 0) = true →
      exec (.quiesceRelease b pg v) s = .next (s.after (p.guarded (fun e =>
        let e1 := e.setQuiesce p 0
        if p.enFixed then e1 else e1.setEnable p (PAGE_CTRL.EN.get v)) s.dev))) ∧
    (p.cap.softrst = true → s.dev.accepts w p PAGE_CTRL.EN (PAGE_CTRL.SOFT_RST.set v 1) = true →
      exec (.softRst b pg v) s = .next (s.after (p.guarded (fun e =>
        let e1 := if p.cap.quiesce then e.setQuiesce p (PAGE_CTRL.QUIESCE_REQ.get v) else e
        (if p.enFixed then e1 else e1.setEnable p (PAGE_CTRL.EN.get v)).blockReset p) s.dev)))

/-- QUIESCE_REACHED shows QUIESCED on a live page that is asked to quiesce and has no burst out; BLOCK_RESET_DONE takes
the page out of reset and no other (R34, R35, R85). -/
def Obligations.QuiesceAndResetEnd : Prop :=
  ∀ (s : State) (pg : Nat), pg < 16384 →
    (∀ p, Page.ofNum pg = some p → s.dev.live p = true → s.dev.on p PAGE_CTRL.QUIESCE_REQ = true →
      s.dev.burstsOut p = false → exec (.quiesceReached pg) s = .next (s.after (s.dev.wr p PAGE_STAT.QUIESCED 1))) ∧
    ∃ e : Dev, exec (.blockResetDone pg) s = .next (s.after e) ∧ pg ∉ e.fab.blkRst ∧
      (∀ k, k ≠ pg → (k ∈ e.fab.blkRst ↔ k ∈ s.dev.fab.blkRst)) ∧ e.regs = s.dev.regs ∧ e.tbls = s.dev.tbls

/-- The fields of a page whose reset value is that of the calibration store (Table BRX–11, Table PWR–9), with that value. -/
def calFields (d : Dev) : Page → List (Fld × Nat)
  | .te n 1 => [(TE_RX_LISTEN.ENERGY_THR, d.calWord (708 + 16 * n) % 256)]
  | .ln l => let v := d.calWord (4 + 8 * l)
    [(LN_TXEQ.SWING, LN_TXEQ.SWING.get v), (LN_TXEQ.POST, LN_TXEQ.POST.get v), (LN_TXEQ.PRE, LN_TXEQ.PRE.get v)]
  | _ => []

/-- A block-scope reset keeps PAGE_OWNER and every RWS field of its page, returns every other field to its reset value, that
of the calibration store where it gives one, leaves every other page and every table, and abandons the page's table command
(R35). -/
def Obligations.BlockResetKeepsRws : Prop :=
  ∀ (d : Dev) (p : Page), Page.ofNum p.num = some p → p.cap.softrst = true →
    let e := (d.resetPage p).calPage p
    (∀ f ∈ p.fields, f.acc = .rws → e.rd p f = d.rd p f) ∧
    (∀ f ∈ p.fields, f.acc ≠ .rws → (∀ c ∈ calFields d p, c.1 ≠ f) → e.rd p f = p.rst f) ∧
    (∀ c ∈ calFields d p, e.rd p c.1 = c.2) ∧
    (∀ q f, Page.ofNum q.num = some q → q ≠ p → f ∈ q.fields → e.rd q f = d.rd q f) ∧
    e.tbls = d.tbls ∧ e.fab.tcmd.get none p.num = none

/-! ## The indirect table window -/

/-- TBL_NOP, TBL_READ, TBL_WRITE, TBL_RMW and TBL_CLEAR_RANGE complete on an idle window: the command is in progress with
its outcome kept for its completion; the entry read, written, or the range cleared, is what the selection, the index and
the data then in force name (R39, R40, R44); what a command makes of BP_ACCOUNT takes effect as it completes (R254). -/
def Obligations.TableCommandsComplete : Prop :=
  ∀ (s : State) (b : By) (pg : Nat) (p : Page) (v : Nat), let w := viaOf b pg
    b.ok = true → pg < 16384 → v < 2 ^ 32 → (∀ t, p ≠ .hdr t) → s.dev.pageOf w pg = some p → s.dev.rd p TBL_STAT.BUSY = 0 →
    (∀ op, op < 5 → TBL_CMD.OP.get (TBL_CMD.OP.set v op) = op ∧ TBL_CMD.ARG.get (TBL_CMD.OP.set v op) = TBL_CMD.ARG.get v) ∧
    let arg := TBL_CMD.ARG.get v
    let i := s.dev.rd p TBL_INDEX.INDEX
    let x (op : Nat) := s.dev.tblStart p op arg
    let put (t : Tbl) (e : Nat) (d : Dev) : Dev :=
      if t = .bpAccount then d.tblKeep p { TblCmd.ok with late := [(i, e)] }
      else (d.imageApply t i e).tblKeep p { TblCmd.ok with drain := t == .clProfile }
    (s.dev.accepts w p TBL_CMD.OP (TBL_CMD.OP.set v 0) = true → exec (.tblNop b pg v) s = .next (s.after (
      p.guarded (fun _ => (x 0).tblKeep p TblCmd.ok) s.dev))) ∧
    (∀ t shadow, s.dev.accepts w p TBL_CMD.OP (TBL_CMD.OP.set v 1) = true → (x 1).tblPick p = some (t, shadow) →
      i < (x 1).tblSize t → exec (.tblRead b pg v false) s = .next (s.after (p.guarded (fun _ => (x 1).tblKeep p
        { code := 0, drain := false, isRead := true, late := [],
          data := entryWords (if shadow then (x 1).shadEntry t i else (x 1).viewEntry t i) }) s.dev))) ∧
    (∀ t, s.dev.accepts w p TBL_CMD.OP (TBL_CMD.OP.set v 2) = true → (x 2).tblPick p = some (t, false) →
      i < (x 2).tblSize t → (x 2).imageCheck b.func t i ((x 2).tblData p) = 0 →
      exec (.tblWrite b pg v) s = .next (s.after (p.guarded (fun _ => put t ((x 2).tblData p) (x 2)) s.dev))) ∧
    (∀ t, s.dev.accepts w p TBL_CMD.OP (TBL_CMD.OP.set v 3) = true → (x 3).tblPick p = some (t, false) →
      i < (x 3).tblSize t →
      let e := rmwImage arg ((x 3).viewEntry t i) ((x 3).tblData p)
      (x 3).imageCheck b.func t i e = 0 →
      exec (.tblRmw b pg v false) s = .next (s.after (p.guarded (fun _ => put t e (x 3)) s.dev))) ∧
    (∀ t, s.dev.accepts w p TBL_CMD.OP (TBL_CMD.OP.set v 4) = true → (x 4).tblPick p = some (t, false) →
      i + arg < (x 4).tblSize t → (∀ k ≤ arg, (x 4).clearCheck b.func t (i + k) = 0) →
      exec (.tblClearRange b pg v) s = .next (s.after (p.guarded (fun _ =>
        if t = .bpAccount then
          (x 4).tblKeep p { TblCmd.ok with late := (List.range (arg + 1)).map (fun k => (i + k, (x 4).clearImage t (i + k))) }
        else ((x 4).clearRange t i (arg + 1)).tblKeep p { TblCmd.ok with drain := t == .clProfile }) s.dev)))

/-- TBL_CMD_DONE and CL_PROFILE_DRAIN_DONE complete: BUSY falls and DONE rises, ERR and CODE show the outcome, the data of
a read stand in TBL_DATA, what was written to BP_ACCOUNT takes effect, TBL_DONE is raised, or with an error ERR_COUNT counts
it and TBL_ERR is raised, and a waiting PAGE_OWNER write takes effect (R41, R43, R47, R229, R254). -/
def Obligations.TableCommandsEnd : Prop :=
  ∀ (s : State) (pg : Nat) (p : Page) (c : TblCmd), pg < 16384 → Page.ofNum pg = some p →
    s.dev.fab.tcmd.get none pg = some c →
    let d1 := { s.dev with fab := { s.dev.fab with tcmd := s.dev.fab.tcmd.del pg } }
    let d2 := c.late.foldl (fun (x : Dev) e => x.imageApply .bpAccount e.1 e.2)
      (if c.isRead then d1.setTblData p c.data else d1)
    let d3 := d2.wrs p [(TBL_STAT.BUSY, 0), (TBL_STAT.DONE, 1), (TBL_STAT.CODE, c.code),
      (TBL_STAT.ERR, if c.code ≤ 6 then c.code else 15)]
    let d4 := (if c.code = 0 then d3.raise p 31 else (d3.logErr p c.code).raise p 30).ownerLate p
    (c.drain = false → exec (.tblCmdDone pg) s = .next (s.after d4)) ∧
    (pg = (Page.cl 1).num → c.drain = true → exec .clProfileDrainDone s = .next (s.after d4))

/-- A table command with an error changes no table entry (R43). -/
def Obligations.TableErrorChangesNothing : Prop :=
  ∀ (d : Dev) (func : Nat) (p : Page) (op arg : Nat) (bad : Bool), (d.tblRun func p op arg bad).1.code ≠ 0 →
    (d.tblRun func p op arg bad).2.tbls = d.tbls

/-- An index beyond the selected table's size, at the first or at the last entry of the range, ends in error 0x001
(R43, R44). -/
def Obligations.TableIndexNeverWraps : Prop :=
  ∀ (d : Dev) (func : Nat) (p : Page) (op arg : Nat) (bad : Bool) (t : Tbl) (sh : Bool), 1 ≤ op → op ≤ 4 →
    d.tblPick p = some (t, sh) →
    (d.tblSize t ≤ d.rd p TBL_INDEX.INDEX ∨ (op = 4 ∧ d.tblSize t ≤ d.rd p TBL_INDEX.INDEX + arg)) →
    (d.tblRun func p op arg bad).1.code = 1 ∧ (d.tblRun func p op arg bad).2 = d

/-- While a command is in progress a write of TBL_CMD is discarded, OVERRUN is set and error 0x004 counted; the command
in progress stays as it is (R42). -/
def Obligations.BusyWindowDiscards : Prop :=
  ∀ (d : Dev) (func : Nat) (p : Page) (v : Nat) (bad : Bool), (∀ t, p ≠ .hdr t) → d.rd p TBL_STAT.BUSY ≠ 0 →
    let e := d.tblOp func p v bad
    e.rd p TBL_STAT.OVERRUN = 1 ∧ e.rd p ERR_COUNT.COUNT = min (d.rd p ERR_COUNT.COUNT + 1) 0xffffffff ∧
    e.rd p TBL_STAT.BUSY = d.rd p TBL_STAT.BUSY ∧ e.fab = d.fab ∧ e.tbls = d.tbls ∧
    (∀ k < 16, e.rd p (TBL_DATA.D k) = d.rd p (TBL_DATA.D k)) ∧ e.rd p TBL_CMD.OP = d.rd p TBL_CMD.OP

/-- The commands that are one window write of one entry complete: GROUP_FORM, PX_ROLE_WRITE with an entry of the
command's, GROUP_DISSOLVE, GROUP_LINE_MODE, SOURCE_SWITCH, GATE_REQUEST and UNGATE by an RMW of the field's word
(R176, R178, R216, R364, R367, R369). -/
def Obligations.EntryCommandsComplete : Prop :=
  ∀ (s : State) (b : By), b.ok = true →
    let w (t : Tbl) (i e : Nat) := (s.dev.tblLoad t.page t.slot i e).tblStart t.page 2 0
    let r (t : Tbl) (i : Nat) (f : Fld) (v : Nat) :=
      (s.dev.tblLoad t.page t.slot i (f.set (s.dev.viewEntry t i % 2 ^ 32) v)).tblStart t.page 3 1
    let free (p : Page) := s.dev.accepts b p TBL_CMD.OP 0 = true ∧ s.dev.rd p TBL_STAT.BUSY = 0
    (∀ i e, i < 24 → e < 2 ^ 512 → free .bd → (w .bdGroup i e).imageCheck b.func .bdGroup i e = 0 →
      exec (.groupForm b i e) s = .next (s.after (Page.bd.guarded (fun _ =>
        ((w .bdGroup i e).imageApply .bdGroup i e).tblKeep .bd TblCmd.ok) s.dev))) ∧
    (∀ i e, i < 48 → e < 2 ^ 512 → free .px0 → (w .pxRole i e).imageCheck b.func .pxRole i e = 0 →
      exec (.pxRoleWrite b i e) s = .next (s.after (Page.px0.guarded (fun _ =>
        ((w .pxRole i e).imageApply .pxRole i e).tblKeep .px0 TblCmd.ok) s.dev))) ∧
    (∀ t i f v, free t.page → ((t = .bdGroup ∧ i < 24) ∨ (t = .ckDomainCtrl ∧ i < 179)) →
      let y := r t i f v
      let e := rmwImage 1 (y.viewEntry t i) (y.tblData t.page)
      y.imageCheck b.func t i e = 0 →
      let z := s.after (t.page.guarded (fun _ => (y.imageApply t i e).tblKeep t.page TblCmd.ok) s.dev)
      (t = .bdGroup → f = BD_GROUP.SIZE → v = 0 → exec (.groupDissolve b i) s = .next z) ∧
      (t = .bdGroup → f = BD_GROUP.LINE_MODE → v < 4 → exec (.groupLineMode b i v) s = .next z) ∧
      (t = .ckDomainCtrl → f = CK_DOMAIN_CTRL.SRC → v < 35 → exec (.sourceSwitch b i v) s = .next z) ∧
      (t = .ckDomainCtrl → f = CK_DOMAIN_CTRL.GATE → v = 1 → exec (.gateRequest b i) s = .next z) ∧
      (t = .ckDomainCtrl → f = CK_DOMAIN_CTRL.GATE → v = 0 → exec (.ungate b i) s = .next z))

/-! ## Faults and safety -/

/-- Quench and the supervisor pair complete: QUENCH_N falling takes key B and QREL with it and is reported under class 55,
its return starts the 1 µs that QREL needs, QREL is set where R403 allows, a mismatch latches MISMATCH and the signal
group, clears QREL and gives up every tree, and the comparator check runs and ends (R403, R405, R406, R407). -/
def Obligations.SupervisorCommandsComplete : Prop :=
  ∀ (s : State) (d : Dev), s.dev = d →
    (d.rd .rs RS_KEYS.QUENCH_PIN = 0 → exec .quenchNAssert s = .next (s.after (
      (d.wrs .rs [(RS_KEYS.QUENCH_PIN, 1), (RS_KEYS.QREL, 0)]).report 55 0))) ∧
    (d.rd .rs RS_KEYS.QUENCH_PIN ≠ 0 → exec .quenchNRelease s = .next (s.after
      { d.wr .rs RS_KEYS.QUENCH_PIN 0 with sup := { d.sup with quenchHighAt := d.now } })) ∧
    (∀ b v, (Instr.qrelWrite b v).wellFormed = true → d.accepts b .rs RS_KEYS.QREL (RS_KEYS.QREL.set v 1) = true →
      d.rd .rs RS_KEYS.QUENCH_PIN = 0 → d.sup.quenchHighAt + 1000 ≤ d.now → d.quenchAll = false →
      d.rd .rs RS_KEYS.MISMATCH = 0 → exec (.qrelWrite b v) s = .next (s.after (d.wr .rs RS_KEYS.QREL 1))) ∧
    (∀ sig, (Instr.lockstepMismatch sig).wellFormed = true → d.rd .rs RS_KEYS.MISMATCH = 0 →
      exec (.lockstepMismatch sig) s = .next (s.after (
        (d.wrs .rs [(RS_KEYS.QREL, 0), (RS_KEYS.MISMATCH, 1), (RS_SUP_STAT.MISMATCH_SIG, sig)]).giveUpAll.report 0 0))) ∧
    (∀ b v, (Instr.cmpTest b v).wellFormed = true →
      d.accepts b .rs RS_SUP_CTRL.CMP_TEST (RS_SUP_CTRL.CMP_TEST.set v 1) = true →
      exec (.cmpTest b v) s = .next (s.after (
        d.wrs .rs [(RS_SUP_CTRL.CMP_TEST, 1), (RS_SUP_STAT.CMP_RUN, 1), (RS_SUP_STAT.CMP_OK, 0)]))) ∧
    (∀ ok, d.rd .rs RS_SUP_STAT.CMP_RUN ≠ 0 →
      let e := d.wrs .rs [(RS_SUP_CTRL.CMP_TEST, 0), (RS_SUP_STAT.CMP_RUN, 0), (RS_SUP_STAT.CMP_OK, ok.toNat)]
      exec (.cmpTestDone ok) s = .next (s.after (if ok then e else e.report 54 0))) ∧
    (exec (.holdOutputMismatch 0) s = .next (s.after (
      ({ d with sup := { d.sup with land0 := some (!d.holdOut 0) } } : Dev).report 57 0))) ∧
    (exec (.holdOutputMismatch 1) s = .next (s.after (
      ({ d with sup := { d.sup with land1 := some (!d.holdOut 1) } } : Dev).report 57 1)))

/-- Reports and FT's own commands complete: an event reaches FT with its class, unit, ONU and detail, a temperature sample
reports classes 11 to 13 by its value, a window closes, a lasting state with action log, interrupt or give-up expires, an
interval's record is written, and FT_CMD clears a lasting state or injects an event (R410, R411, R416, R417, R421). -/
def Obligations.FaultCommandsComplete : Prop :=
  ∀ (s : State) (d : Dev), s.dev = d →
    (∀ cls unit onu detail, (Instr.faultEvent cls unit onu detail).wellFormed = true → cls < 64 →
      unit < (ftRow cls).count → (∀ j, onu = some j → j < 256) → exec (.faultEvent cls unit onu detail) s = .next (s.after (
        d.reportEv { cls := cls, unit := unit, onu := onu, tenant := ftTenant cls unit, detail := detail, inj := false }))) ∧
    (∀ bus, (Instr.opticBusError bus).wellFormed = true →
      exec (.opticBusError bus) s = .next (s.after (d.report 52 bus))) ∧
    (∀ k t, (Instr.thermalSample k t).wellFormed = true → ∃ e : Dev, exec (.thermalSample k t) s = .next (s.after e) ∧
      (e.sup.therm.get (0, 0) k).1 = t + 1 ∧ e.regs = d.regs ∧ e.tbls = d.tbls ∧
      (t < 960 ∨ 1150 < t → e.ft.queue = d.ft.queue ++
        ((if 1105 ≤ t then [11] else []) ++ (if 1120 ≤ t then [12] else []) ++ [13]).map (fun c =>
          ({ cls := c, unit := k, onu := none, tenant := 0, detail := 0, inj := false } : FtEv)))) ∧
    (∀ cls unit, (Instr.faultWindowClose cls unit).wellFormed = true → exec (.faultWindowClose cls unit) s = .next (s.after (
      d.wrTs .ftInst (ftIdx cls unit) [(FT_INST.WOPEN, 0), (FT_INST.WCOUNT, 0)]))) ∧
    (∀ cls unit l, (Instr.lastingExpiry cls unit).wellFormed = true → d.lastingAt cls unit = some l →
      (l.act = 0 ∨ l.act = 1 ∨ l.act = 3) → exec (.lastingExpiry cls unit) s = .next (s.after (d.ftEnd cls unit))) ∧
    (∀ cls unit c, (Instr.coalIntervalEnd cls unit).wellFormed = true → (d.ftKey cls unit).coal = some c →
      exec (.coalIntervalEnd cls unit) s = .next (s.after (
        (d.setFtKey cls unit { d.ftKey cls unit with coal := none }).ftRecord
          { cls := cls, unit := unit, kind := 1, act := if c.lasting then c.act else 0, count := c.count,
            bitmap := c.bitmap, sec := c.sec, ns := c.ns, detail := c.detail, lasting := c.lasting, inj := c.inj }))) ∧
    (∀ b v op, (Instr.ftClear b v).wellFormed = true → d.accepts b .ft FT_CMD.OP (FT_CMD.OP.set v op) = true →
      let cls := FT_CMD.CLASS.get v
      let unit := FT_CMD.INST.get v
      let d1 := d.wrs .ft [(FT_CMD.OP, op), (FT_CMD.CLASS, cls), (FT_CMD.INST, unit), (FT_CMD.STAT, 0)]
      cls < 64 → unit < (ftRow cls).count →
      (op = 1 → (d.lastingAt cls unit).isSome = true → exec (.ftClear b v) s = .next (s.after (d1.ftEnd cls unit))) ∧
      (op = 2 → exec (.ftInject b v) s = .next (s.after (d1.reportEv
        { cls := cls, unit := unit, onu := none, tenant := ftTenant cls unit, detail := 0, inj := true }))))

/-! ## Serial lanes and uplink links -/

/-- Lane power states and receive adaptation complete: an allowed target is taken and the lane kicked, a transition that
ends shows its state and raises PSTATE_DONE at TARGET, adaptation restarts, converges to tracking, or fails with its
interrupt and class 50 (R336, R338, R339, R341). -/
def Obligations.LaneStateComplete : Prop :=
  ∀ (s : State) (d : Dev), s.dev = d →
    (∀ b l v, (Instr.pstateRequest b l v).wellFormed = true → d.accepts b (.ln l) LN_PSTATE.TARGET v = true →
      LN_PSTATE.TARGET.get v ≠ 3 → (LN_PSTATE.TARGET.get v = 0 ∨ (d.laneActive l = false ∧ d.prbsOn l = false)) →
      exec (.pstateRequest b l v) s = .next (s.after (Dev.watch (laneTrees l) (fun _ =>
        (d.wr (.ln l) LN_PSTATE.TARGET (LN_PSTATE.TARGET.get v)).laneKick l) d))) ∧
    (∀ l, l < 88 → d.rd (.ln l) LN_PSTATE.TRANS ≠ 0 →
      let st := (d.lane l).dest
      let d1 := d.wrs (.ln l) [(LN_PSTATE.STATE, st), (LN_PSTATE.TRANS, 0)]
      let d2 := if st = 2 then d1.wrs (.ln l) [(LN_RX_ADAPT.STATE, 0), (LN_STAT.CDR_LOCK, 0), (LN_PRBS.CHK_LOCK, 0)]
        else d1
      let d3 := if st = d.rd (.ln l) LN_PSTATE.TARGET then d2.raise (.ln l) 0 else d2
      exec (.pstateTransitionDone l) s = .next (s.after (Dev.watch (laneTrees l) (fun _ => d3.laneKick l) d))) ∧
    (∀ b l v, (Instr.adaptRestart b l v).wellFormed = true → 48 ≤ l →
      d.accepts b (.ln l) LN_RX_ADAPT.RESTART (LN_RX_ADAPT.RESTART.set v 1) = true →
      exec (.adaptRestart b l v) s = .next (s.after (
        (d.wr (.ln l) LN_RX_ADAPT.FREEZE (LN_RX_ADAPT.FREEZE.get (LN_RX_ADAPT.RESTART.set v 1))).adaptStart l))) ∧
    (∀ l, l < 88 → d.adapting l = true → exec (.adaptDone l) s = .next (s.after (
      d.wrs (.ln l) [(LN_RX_ADAPT.STATE, 2), (LN_STAT.SIG_DET, 1), (LN_STAT.CDR_LOCK, 1)]))) ∧
    (∀ l present, l < 88 → d.adapting l = true → exec (.adaptFail l present) s = .next (s.after (
      ((d.wrs (.ln l) [(LN_RX_ADAPT.STATE, 3), (LN_STAT.SIG_DET, present.toNat), (LN_STAT.CDR_LOCK, 0)]).raise
        (.ln l) 1).report 50 l)))

/-- The PRBS generator and checker complete: an injection starts while the generator runs and none is pending, and ends;
CLR clears both counters; the checker locks, counts what it compared, loses lock with PRBS_LOST, and a read of a low word
returns it and latches the high word for its reader (R341–R343). -/
def Obligations.PrbsComplete : Prop :=
  ∀ (s : State) (d : Dev), s.dev = d →
    (∀ b l v, (Instr.prbsInject b l v).wellFormed = true →
      d.accepts b (.ln l) LN_PRBS_INJ.INJ (LN_PRBS_INJ.INJ.set v 1) = true → LN_PRBS_INJ.LEN.get v ≠ 0 →
      d.rd (.ln l) LN_PRBS.GEN_EN ≠ 0 → d.rd (.ln l) LN_PRBS_INJ.PENDING = 0 →
      exec (.prbsInject b l v) s = .next (s.after (
        d.wrs (.ln l) [(LN_PRBS_INJ.LEN, LN_PRBS_INJ.LEN.get v), (LN_PRBS_INJ.PENDING, 1)]))) ∧
    (∀ l, l < 88 → exec (.prbsInjectDone l) s = .next (s.after (d.wr (.ln l) LN_PRBS_INJ.PENDING 0))) ∧
    (∀ b l v, (Instr.prbsClear b l v).wellFormed = true → let w := LN_PRBS.CLR.set v 1
      d.accepts b (.ln l) LN_PRBS.CLR w = true → LN_PRBS.GEN_POLY.get w < 5 → LN_PRBS.CHK_POLY.get w < 5 →
      d.laneActive l = false →
      let d1 := d.wrs (.ln l)
        [(LN_PRBS.GEN_EN, LN_PRBS.GEN_EN.get w), (LN_PRBS.CHK_EN, LN_PRBS.CHK_EN.get w),
         (LN_PRBS.GEN_POLY, LN_PRBS.GEN_POLY.get w), (LN_PRBS.CHK_POLY, LN_PRBS.CHK_POLY.get w),
         (LN_PRBS.GEN_INV, LN_PRBS.GEN_INV.get w), (LN_PRBS.CHK_INV, LN_PRBS.CHK_INV.get w)]
      exec (.prbsClear b l v) s = .next (s.after (
        (if LN_PRBS.CHK_EN.get w = 0 then d1.wr (.ln l) LN_PRBS.CHK_LOCK 0 else d1).wrs (.ln l)
          [(LN_PRBS_ERR_LO.ERR_LO, 0), (LN_PRBS_ERR_HI.ERR_HI, 0), (LN_PRBS_BITS_LO.BITS_LO, 0),
           (LN_PRBS_BITS_HI.BITS_HI, 0)]))) ∧
    (∀ l, l < 88 → d.rd (.ln l) LN_PRBS.CHK_EN ≠ 0 →
      exec (.prbsLock l) s = .next (s.after (d.wr (.ln l) LN_PRBS.CHK_LOCK 1))) ∧
    (∀ l bits errs, (Instr.prbsLost l bits errs).wellFormed = true → d.rd (.ln l) LN_PRBS.CHK_LOCK ≠ 0 →
      exec (.prbsLost l bits errs) s = .next (s.after (
        ((d.prbsCompared l bits errs).wr (.ln l) LN_PRBS.CHK_LOCK 0).raise (.ln l) 2))) ∧
    (∀ b l bits errs, (Instr.prbsErrLoRead b l true bits errs).wellFormed = true →
      let e := d.prbsCompared l bits errs
      e.readable b (.ln l) = true →
      exec (.prbsErrLoRead b l true bits errs) s = .next (s.after (
        (e.latch (.ln l) LN_PRBS_BITS_HI.BITS_HI.off b.func (e.rd (.ln l) LN_PRBS_BITS_HI.BITS_HI)).emit
          (.rdata b.func (bytesOf b (e.rd (.ln l) LN_PRBS_BITS_LO.BITS_LO))))) ∧
      exec (.prbsErrLoRead b l false bits errs) s = .next (s.after (
        (e.latch (.ln l) LN_PRBS_ERR_HI.ERR_HI.off b.func (e.rd (.ln l) LN_PRBS_ERR_HI.ERR_HI)).emit
          (.rdata b.func (bytesOf b (e.rd (.ln l) LN_PRBS_ERR_LO.ERR_LO))))))

/-- The uplink links, frames in and frames out complete: LINK_UP rises on a port whose lanes are good, a loss or a fault
drops it and counts a frame cut short, a good frame goes to the classifier, and the MAC transmits what the port holds, or
drops a frame whose data is uncorrectable, with its timestamp entry and its reports (R250, R323, R348–R350). -/
def Obligations.UplinkComplete : Prop :=
  ∀ (s : State) (d : Dev), s.dev = d →
    (∀ u, u < 32 → d.portOn u = true → d.portLanesGood u = true → d.rd (.ulp u) UL_PORT_STAT.LINK_UP = 0 →
      exec (.linkUp u) s = .next (s.after ((d.wrs (.ulp u) [(UL_PORT_STAT.ALIGNED, 1), (UL_PORT_STAT.LOCAL_FAULT, 0),
        (UL_PORT_STAT.REMOTE_FAULT, 0), (UL_PORT_STAT.LINK_UP, 1)]).raise (.ulp u) 0))) ∧
    (∀ u aligned lf rf trunc, u < 32 → d.rd (.ulp u) PAGE_CTRL.EN ≠ 0 → (aligned && !lf && !rf) = false →
      let d1 := if rf && !d.on (.ulp u) UL_PORT_STAT.REMOTE_FAULT then d.raise (.ulp u) 2 else d
      let d2 := d1.wrs (.ulp u) [(UL_PORT_STAT.ALIGNED, aligned.toNat), (UL_PORT_STAT.LOCAL_FAULT, lf.toNat),
        (UL_PORT_STAT.REMOTE_FAULT, rf.toNat)]
      let d3 := if trunc && d.on (.ulp u) UL_PORT_STAT.LINK_UP then d2.cnt (.ulCnt u) 8 else d2
      exec (.linkDown u aligned lf rf trunc) s = .next (s.after (d3.linkFall u))) ∧
    (∀ u bytes corr unc syms, (Instr.ulFrameReceive u (withFcs bytes) false corr unc syms).wellFormed = true →
      d.portOn u = true → d.rd (.ulp u) UL_PORT_STAT.LINK_UP ≠ 0 → 60 ≤ bytes.length →
      bytes.length + 4 ≤ d.rd (.ulp u) UL_PORT_CFG.MAX_FRAME → beAt bytes 12 2 ≠ 0x8808 → d.takes (.cl 0) = true →
      let ts := if hasBit (d.rd (.tm 1) TM_RXTS_EN.EN) u then some (d.time.sec % 2 ^ 32, d.time.ns) else none
      let e := ((((d.ulFec u corr unc syms).cnt (.ulCnt u) 0).cnt (.ulCnt u) 1 bytes.length).pm 13 u).pm 14 u bytes.length
      exec (.ulFrameReceive u (withFcs bytes) false corr unc syms) s = .next (s.after { e with path := { e.path with
        cl := e.path.cl ++ [{ up := false, port := u, flow := 0, bytes := bytes, ts := ts }] } })) ∧
    (∀ u held f rest, u < 32 → d.portOn u = true → d.rd (.ulp u) UL_PORT_STAT.LINK_UP ≠ 0 →
      d.macNext u = some (f, rest) →
      let d1 := { d with path := { d.path with mac := d.path.mac.put [] u rest } }
      let b := f.bytes ++ List.replicate (60 - f.bytes.length) 0#8
      (f.req = none → held = false → exec (.ulFrameTransmit u held false) s = .next (s.after (
        (((d1.emit (.ulFrame u (withFcs b))).cnt (.ulCnt u) 6).cnt (.ulCnt u) 7 b.length).release f.handle f.tag))) ∧
      exec (.ulFrameTransmit u held true) s = .next (s.after (((d1.tsqLost u f.req).dataError f.handle).release f.handle f.tag)))

/-! ## Buffer pools and the scheduler -/

/-- BUFFER_ADMIT completes (`d`: the device once the enqueues that waited at the output of the pools have gone on, where the
scheduler takes work, R271): the first result is admitted to descriptor `i` of the tier that the pool offers, counted, and
its one or two holders take their references; or it is refused, counted at its account and dropped (R240–R245, R252,
R253). -/
def Obligations.AdmissionCompletes : Prop :=
  ∀ (s : State) (d : Dev) (i : Nat) (a : Admit) (rest : List Admit), s.dev.drainOut = d → i < 1048576 →
    d.path.bp.inq = a :: rest → d.takes (.bp 0) = true →
    let acct := d.acctFor a.first
    let pool := poolOf a.bytes.length
    let c := d.admission acct pool
    let d0 := d.setBp { d.path.bp with inq := rest }
    (2 ≤ c → exec (.bufferAdmit i false) s = .next (s.after (
      ((d0.cnt .bpAcctCnt (acct * 8 + c)).pm 16 acct).admitDone a 5 (c - 1)))) ∧
    (∀ tier, c < 2 → d.tierOf pool = some tier → d.descFree i pool tier = true → d.enqCheck a.rt a.first = 0 →
      let d1 := ((d0.takeBuf a i acct pool tier).cnt .bpAcctCnt (acct * 8 + c)).pm 15 acct
      let d2 := d1.holder a (d1.handleOf i) false a.first
      exec (.bufferAdmit i false) s = .next (s.after
        ((match a.second with | some t => d2.holder a (d1.handleOf i) true t | none => d2).admitDone a 0 0)))

/-- A buffer that is taken has the next generation of its descriptor, one or two references, the first holder's tag, the
account charged, and the pool has one free buffer less (R243, R251, R252). -/
def Obligations.BufferTaken : Prop :=
  ∀ (d : Dev) (a : Admit) (i acct pool tier : Nat), i < 1048576 → pool < 5 → acct < 1048576 → tier < 2 →
    a.bytes.length < 16385 →
    let e := d.takeBuf a i acct pool tier
    e.rdT .bpDesc i BP_DESC.GEN = (d.rdT .bpDesc i BP_DESC.GEN + 1) % 256 ∧
    e.rdT .bpDesc i BP_DESC.REFCNT = (if a.second.isSome then 2 else 1) ∧
    e.rdT .bpDesc i BP_DESC.LEN = a.bytes.length ∧
    e.rdT .bpAccount acct (BP_ACCOUNT.USE pool) = (d.rdT .bpAccount acct (BP_ACCOUNT.USE pool) + 1) % 2 ^ 20 ∧
    e.rdT .bpPoolCfg pool (freeFld tier) = (d.rdT .bpPoolCfg pool (freeFld tier) - 1) % 2 ^ (freeFld tier).width ∧
    (∀ j f, j < 1048576 → j ≠ i → e.rdT .bpDesc j f = d.rdT .bpDesc j f) ∧ e.regs = d.regs

/-- RELEASE_REQUEST, FREE_REQUEST and SLACK_TUB_RECEIVE complete.  A request alone in its cycle is resolved: a holder of one of two references gives its own up, the
holder of the last one frees the buffer, and the tub logs, counts, raises TUB and releases its reference
(R246, R247, R249). -/
def Obligations.ReleaseCompletes : Prop :=
  ∀ (s : State) (d : Dev), s.dev = d → d.path.bp.cycle = [] →
    (∀ handle tag, handle < 2 ^ 28 → tag < 2 ^ 26 →
      let i := handleIdx handle
      let q (free : Bool) := d.setBp { d.path.bp with
        reqs := takeReq { free := free, handle := handle, tag := tag } d.path.bp.reqs, cycle := [] }
      d.path.bp.retired.contains i = false → d.rdT .bpDesc i BP_DESC.GEN = handle / 1048576 → tagFits tag = true →
      (d.rdT .bpDesc i BP_DESC.REFCNT = 2 → d.rdT .bpDesc i BP_DESC.HOLDER_A = tag →
        exec (.releaseRequest handle tag false false) s = .next (s.after ((q false).wrTs .bpDesc i
          [(BP_DESC.REFCNT, 1), (BP_DESC.HOLDER_A, 0), (BP_DESC.LAST, 2)]))) ∧
      (d.rdT .bpDesc i BP_DESC.REFCNT = 2 → d.rdT .bpDesc i BP_DESC.HOLDER_A ≠ tag → tag ≠ 0 →
        d.rdT .bpDesc i BP_DESC.HOLDER_B = tag →
        exec (.releaseRequest handle tag false false) s = .next (s.after ((q false).wrTs .bpDesc i
          [(BP_DESC.REFCNT, 1), (BP_DESC.HOLDER_B, 0), (BP_DESC.LAST, 1)]))) ∧
      (d.rdT .bpDesc i BP_DESC.REFCNT = 1 → d.rdT .bpDesc i BP_DESC.HOLDER_A = tag → d.rdT .bpDesc i BP_DESC.LAST = 1 →
        exec (.releaseRequest handle tag false false) s = .next (s.after ((q false).bpFree i)) ∧
        exec (.freeRequest handle tag false false) s = .next (s.after ((q true).bpFree i)))) ∧
    (∀ r t, d.path.bp.tub = r :: t → exec .slackTubReceive s = .next (s.after (
      (((d.setBp { d.path.bp with tub := t }).tubLog r.reason r.handle r.expected r.found).cnt .bpAcctCnt
        (r.acct * 8 + 7) |>.raise (.bp 0) 2).release r.handle r.slot)))

/-- The first row of the table of returned references that applies decides: a retired descriptor, a stale generation or
no reference is a double free, a tag that no holder bears a foreign free, each logged in BP_ERR with the request, and the
descriptor keeps its state (R247, R248). -/
def Obligations.RejectedReturnKeepsBuffer : Prop :=
  ∀ (d : Dev) (free : Bool) (handle tag : Nat), handle < 2 ^ 28 → tag < 2 ^ 26 →
    let i := handleIdx handle
    let e := d.bpResolve free handle tag false
    ((d.path.bp.retired.contains i = true ∨ d.rdT .bpDesc i BP_DESC.GEN ≠ handle / 1048576 ∨
        d.rdT .bpDesc i BP_DESC.REFCNT = 0) →
      e.rd (.bp 0) BP_ERR.CODE = 1 ∧ e.rd (.bp 0) BP_ERR.HANDLE = handle ∧ e.rd (.bp 0) BP_ERR_REQ.TAG = tag ∧
      (∀ f, e.rdT .bpDesc i f = d.rdT .bpDesc i f)) ∧
    (d.path.bp.retired.contains i = false → d.rdT .bpDesc i BP_DESC.GEN = handle / 1048576 →
      d.rdT .bpDesc i BP_DESC.REFCNT ≠ 0 → d.rdT .bpDesc i BP_DESC.HOLDER_A ≠ tag → d.rdT .bpDesc i BP_DESC.HOLDER_B ≠ tag →
      e.rd (.bp 0) BP_ERR.CODE = 2 ∧ e.rd (.bp 0) BP_ERR.HANDLE = handle ∧ e.rd (.bp 0) BP_ERR_REQ.TAG = tag ∧
      (∀ f, e.rdT .bpDesc i f = d.rdT .bpDesc i f))

/-- The scheduler's commands complete: a root dequeues the frame of the queue that its tags choose, counts and charges it
and passes it on, a head whose launch time has come is eligible, a flush empties its queue and ends, and a sample shows
delay and depth (R262–R266, R269, R270, R275). -/
def Obligations.SchedulerComplete : Prop :=
  ∀ (s : State) (d : Dev), s.dev = d →
    (∀ r q h t, r < 80 → d.takes (.sc 0) = true → d.drainOut.choose r = some q → (d.drainOut.queue q).frames = h :: t →
      d.drainOut.deqOk q h = true → (131072 ≤ q ∨ d.drainOut.flowPaused q = false) →
      exec (.dequeueSelect r false) s = .next (s.after (
        (((d.drainOut.cnt .scCnt (r * 8)).cnt .scCnt (r * 8 + 1) h.len).takeHead q h.len).passOn r q h))) ∧
    (∀ a h t p l, a < 16384 → (d.queue (aggQ a)).frames = h :: t → h.req.bind TxReq.launch = some (p, l) → l ≤ d.nowNs →
      exec (.launchTimeReached a) s = .next (s.after (d.wrT .scQueue (aggQ a) SC_QUEUE.LAUNCH_WAIT 0))) ∧
    (∀ b v, (Instr.flush b v).wellFormed = true → d.accepts b (.sc 0) SC_CMD.OP (SC_CMD.OP.set v 1) = true →
      d.rd (.sc 0) SC_CMD.STAT ≠ 1 → SC_CMD.QUEUE.get v < 147456 → exec (.flush b v) s = .next (s.after (
        (((d.wr (.sc 0) SC_CMD.OP 1).wr (.sc 0) SC_CMD.QUEUE (SC_CMD.QUEUE.get v)).wr (.sc 0) SC_CMD.STAT 1).flushQueue
          (SC_CMD.QUEUE.get v)))) ∧
    (d.rd (.sc 0) SC_CMD.STAT = 1 →
      exec .flushDone s = .next (s.after ((d.wr (.sc 0) SC_CMD.STAT 0).raise (.sc 0) 2))) ∧
    (∀ q, q < 147456 → d.enabled (.sc 0) = true → d.rd (.sc 0) SC_SAMPLE_CFG.EN ≠ 0 →
      d.rdT .scSample q SC_SAMPLE.DLY_THR = 65535 → d.rdT .scSample q SC_SAMPLE.DEP_THR = 65535 →
      let dly := d.headDelay q
      let dep := (d.queueBytes q + 63) / 64
      exec (.latencySample q) s = .next (s.after (d.freed.wrTs .scSample q
        [(SC_SAMPLE.DLY_LAST, dly), (SC_SAMPLE.DLY_MIN, min dly (d.rdT .scSample q SC_SAMPLE.DLY_MIN)),
         (SC_SAMPLE.DLY_MAX, max dly (d.rdT .scSample q SC_SAMPLE.DLY_MAX)), (SC_SAMPLE.DEP_LAST, dep),
         (SC_SAMPLE.DEP_MIN, min dep (d.rdT .scSample q SC_SAMPLE.DEP_MIN)),
         (SC_SAMPLE.DEP_MAX, max dep (d.rdT .scSample q SC_SAMPLE.DEP_MAX))])))

/-! ## Classifier and cipher engine -/

/-- DS_FRAME_CLASSIFY and US_FRAME_CLASSIFY complete: the port's next frame is classified under its valid downstream
profile, a decrypted upstream frame under its flow's, and a recovered XGEM frame is matched to the flow of its port-ID and
ONU (R219, R220, R221). -/
def Obligations.ClassifierComplete : Prop :=
  ∀ (s : State) (d : Dev) (bn bf : Option Nat), s.dev = d → d.takes (.cl 0) = true →
    (∀ u x rest p, u < 32 → takeIn (fun y => !y.up && y.port == u) d.path.cl = some (x, rest) →
      p = d.rdT .clPortProf u CL_PORT_PROF.PROFILE → d.profOk p false = true →
      exec (.dsFrameClassify u bn bf) s = .next (s.after (
        ({ d with path := { d.path with cl := rest } } : Dev).classify
          { prof := p, up := false, rt := d.rdT .clProfile p CL_PROFILE.TENANT, inPort := u, bytes := x.bytes, ts := x.ts,
            badFlow := bf } bn))) ∧
    (∀ n x rest p, n < 48 → takeIn (fun y => y.up && y.port == n) d.path.cl = some (x, rest) →
      p = d.rdT .clFlow x.flow CL_FLOW.US_PROFILE →
      d.rdT .clProfile p CL_PROFILE.VALID ≠ 0 → d.rdT .clProfile p CL_PROFILE.DIR ≠ 0 →
      exec (.usFrameClassify n bn bf) s = .next (s.after (
        ((({ d with path := { d.path with cl := rest } } : Dev).addT .clFlow x.flow CL_FLOW.US_PKTS).addT .clFlow x.flow
          CL_FLOW.US_BYTES x.bytes.length).classify
          { prof := p, up := true, rt := d.rdT .clFlow x.flow CL_FLOW.TENANT, inPort := 128 + n, bytes := x.bytes,
            ts := x.ts, badFlow := bf } bn))) ∧
    (∀ n x rest f, n < 48 → takeIn (fun y => y.up && y.port == n) d.path.cl = none →
      d.path.cx.us.get [] n = x :: rest → d.usFlow n x.port = some f → bf ≠ some f →
      d.rdT .clFlow f CL_FLOW.ONU = x.onu →
      exec (.usFrameClassify n bn bf) s = .next (s.after (d.setCx { d.path.cx with
        us := d.path.cx.us.put [] n rest, dec := d.path.cx.dec.put [] n (d.path.cx.dec.get [] n ++ [(f, x)]) })))

/-- DS_ENCRYPT, US_DECRYPT and PAUSE_SCAN_DONE complete: a clear frame goes on as it is, an encrypted one under the pair's
usable key whose tag fits, with the superframe count as its new high-water mark; an upstream frame is decrypted under the
context that its key index names and policed; the scan takes PAUSED from the pair's queues (R273, R281–R283, R285, R288,
R290). -/
def Obligations.CipherComplete : Prop :=
  ∀ (s : State) (d : Dev), s.dev = d →
    (∀ n x rest, n < 48 → d.encReady n = true → d.standby n = false →
      d.takeItem (d.path.cx.ds.get [] n) = some (x, rest) →
      let d1 := d.setCx { d.path.cx with ds := d.path.cx.ds.put [] n rest }
      (d.rdT .clFlow x.flow CL_FLOW.CIPHER_EN = 0 → exec (.dsEncrypt n false false) s = .next (s.after (d1.encGo n x none))) ∧
      (∀ c, d.rdT .clFlow x.flow CL_FLOW.CIPHER_EN ≠ 0 → d.dsKey (d.flowPair x.flow) = some c →
        d.keyTagOk x.flow c false = true → d.rdT .cxKey c CX_KEY.HWM_SFC ≤ d.sfc (d.lead n) →
        exec (.dsEncrypt n false false) s = .next (s.after (
          ((d1.wrT .cxKey c CX_KEY.HWM_SFC (d.sfc (d.lead n))).cnt .cxCnt (n * 8)).encGo n x (some c))))) ∧
    (∀ n f x rest, n < 48 → d.path.cx.dec.get [] n = (f, x) :: rest →
      let d1 := d.setCx { d.path.cx with dec := d.path.cx.dec.put [] n rest }
      (d.rdT .clFlow f CL_FLOW.CIPHER_EN = 0 → x.keyIdx = 0 →
        exec (.usDecrypt n false) s = .next (s.after (d1.usPass n f x.payload))) ∧
      (d.rdT .clFlow f CL_FLOW.CIPHER_EN ≠ 0 → d.enabled .cx0 = true → (x.keyIdx = 1 ∨ x.keyIdx = 2) →
        let c := d.flowPair f * 2 + (x.keyIdx - 1)
        d.rdT .cxKey c CX_KEY.VALID ≠ 0 → d.keyTagOk f c true = true →
        let ctr := if (d.groupOf n).isSome then groupBlock x.sfc 1 x.seq x.allocId else Config.ctrBlock x.sfc 1 x.pos
        exec (.usDecrypt n false) s = .next (s.after (
          ((d1.cnt .cxCnt (n * 8 + 1)).useKey c (xgemBlocks x.payload.length)).usPass n f
            (ctrMode (d.algOf c) (d.keyOf c) ctr x.payload))))) ∧
    (∀ pair, pair < 16384 → d.path.cx.scan.contains pair = true →
      let d1 := d.setCx { d.path.cx with scan := d.path.cx.scan.filter (· != pair) }
      exec (.pauseScanDone pair) s = .next (s.after (
        (((d.listedT .scQueue SC_QUEUE.PAUSED).map (fun e => e.1)).filter (fun q => d.flowPair q == pair)).foldl
          (fun (x : Dev) q => x.wrT .scQueue q SC_QUEUE.PAUSED 0) d1)))

/-- JOB_CFB_ENCRYPT, JOB_CFB_DECRYPT, JOB_CMAC_GENERATE, JOB_CMAC_VERIFY, JOB_COMPLETE and JOBQ_PI_WRITE complete.  A core
that goes to the tenant begins the queue's next job, under a valid KIND 3 context of the tenant's window, or goes on with
the one in progress (`j`): it processes one 4 KB chunk, counts its blocks, and passes the turn to the next tenant; the
last chunk leaves the job's status and output.  The completion writes them to the descriptor, advances CI, counts and
raises JOB_DONE or JOB_ERR; a PI within the ring is taken (R278, R286, R293). -/
def Obligations.JobsComplete : Prop :=
  ∀ (s : State) (d : Dev) (f key len addr : Nat) (src aux : List Byte), s.dev = d → f < 16 → key < 65536 → len < 2 ^ 32 →
    addr < 2 ^ 64 →
    (∀ j : Job, d.jobTakes f = true → d.rdT .cxKey j.ctx CX_KEY.FROZEN = 0 →
      (d.job f = some j ∨ (d.job f = none ∧ 1 ≤ len ∧ len ≤ 65536 ∧
        j = { op := j.op, status := 0, ctx := d.rdT .cxJobWin f CX_JOB_WIN.BASE + key, len := len, src := src, aux := aux,
              addr := addr, chunks := 0, fin := false, out := [] } ∧
        key < d.rdT .cxJobWin f CX_JOB_WIN.COUNT ∧ d.rdT .cxKey j.ctx CX_KEY.VALID ≠ 0 ∧
        d.rdT .cxKey j.ctx CX_KEY.KIND = 3)) →
      let k := j.chunks + 1
      let b := j.src.take j.len
      let cfb (dec : Bool) := (cfbMode (d.algOf j.ctx) (d.keyOf j.ctx) dec (j.len / 16 + 1) (toBlock j.aux) b).take (k * 4096)
      let code := cmac (d.algOf j.ctx) (d.keyOf j.ctx) b
      let turn := (d.jobTurn f).useKey j.ctx (blocks16 (min (j.len - j.chunks * 4096) 4096))
      let goes (st : Nat) (out : List Byte) := s.after (turn.setJob f (some
        (if j.len ≤ k * 4096 then { j with chunks := k, fin := true, status := st, out := out } else { j with chunks := k })))
      (j.op = 1 → exec (.jobCfbEncrypt f key len addr src aux false) s = .next (goes 0 (cfb false))) ∧
      (j.op = 2 → exec (.jobCfbDecrypt f key len addr src aux false) s = .next (goes 0 (cfb true))) ∧
      (j.op = 3 → exec (.jobCmacGenerate f key len addr src aux false) s = .next (goes 0 code)) ∧
      (j.op = 4 → exec (.jobCmacVerify f key len addr src aux false) s = .next (
        goes (if code = j.aux.take 16 then 0 else 6) []))) ∧
    (∀ j, d.job f = some j → j.fin = true →
      let ci := d.rd (.cxt f) CX_JOBQ_CI.CI
      let desc := d.rd (.cxt f) CX_JOBQ_BASE.LO + 2 ^ 32 * d.rd (.cxt f) CX_JOBQ_BASE.HI +
        32 * (ci % 2 ^ d.rd (.cxt f) CX_JOBQ_CFG.SIZE_LOG2)
      exec (.jobComplete f false) s = .next (s.after (
        (((((d.setJob f none).emit (.jobDone f desc j.status (d.epoch f) j.dest j.out)).wr (.cxt f) CX_JOBQ_CI.CI
          ((ci + 1) % 8192)).cnt (.cxJobCnt f) j.status).raise (.cxt f) (if j.status = 0 then 0 else 1))))) ∧
    (∀ b v, (Instr.jobqPiWrite b f v).wellFormed = true → d.accepts b (.cxt f) CX_JOBQ_PI.PI v = true →
      (CX_JOBQ_PI.PI.get v + 8192 - d.rd (.cxt f) CX_JOBQ_CI.CI) % 8192 ≤ 2 ^ d.rd (.cxt f) CX_JOBQ_CFG.SIZE_LOG2 →
      exec (.jobqPiWrite b f v) s = .next (s.after (d.wr (.cxt f) CX_JOBQ_PI.PI (CX_JOBQ_PI.PI.get v))))

/-- FUNCTION_LEVEL_RESET and FLR_DONE complete, on a function that the host sees: FLR_BUSY with the job queue empty, then the rings at their
reset values, the function's epoch and FLR_COUNT one higher, FLR_BUSY 0 and FLR_DONE raised; no other function's rings,
vectors or epoch change (R294, R307, R385, R432). -/
def Obligations.FunctionResetCompletes : Prop :=
  ∀ (s : State) (d : Dev) (f : Nat), s.dev = d → f < 16 →
    (d.present f = true → exec (.functionLevelReset f) s = .next (s.after (
      ((d.wrT .tnTenant f TN_TENANT.FLR_BUSY 1).setJob f none).wrs (.cxt f) [(CX_JOBQ_CI.CI, 0), (CX_JOBQ_PI.PI, 0)]))) ∧
    (d.rdT .tnTenant f TN_TENANT.FLR_BUSY ≠ 0 → ∃ e : Dev, exec (.flrDone f) s = .next (s.after e) ∧
      e.rdT .tnTenant f TN_TENANT.FLR_BUSY = 0 ∧
      e.rdT .tnTenant f TN_TENANT.FLR_COUNT =
        min (d.rdT .tnTenant f TN_TENANT.FLR_COUNT + 1) (2 ^ TN_TENANT.FLR_COUNT.width - 1) % 2 ^ TN_TENANT.FLR_COUNT.width ∧
      e.pwr.epochs = bumpEpochs d.pwr.epochs [f] ∧
      (∀ r < 16, e.rd (.hir f) (HI_RING_CFG.EN r) = 0 ∧ e.rd (.hir f) (HI_RING_IDX.PI r) = 0 ∧
        e.rd (.hir f) (HI_RING_IDX.CI r) = 0 ∧ e.ring f r = Ring.init) ∧
      (∀ g r, g < 16 → g ≠ f → r < 16 → e.rd (.hir g) (HI_RING_CFG.EN r) = d.rd (.hir g) (HI_RING_CFG.EN r) ∧
        e.rd (.hir g) (HI_RING_IDX.PI r) = d.rd (.hir g) (HI_RING_IDX.PI r) ∧
        e.rd (.hir g) (HI_RING_IDX.CI r) = d.rd (.hir g) (HI_RING_IDX.CI r) ∧ e.ring g r = d.ring g r))

/-! ## Time -/

/-- TOD_SET, TOD_STEP, ONE_SECOND_TICK, TOD_READ, SFC_LO_READ and TSQ_POP complete.  A SET or STEP shows STAT 1 and
waits with its value; it is applied before the next second ends, which STAT 0 shows; a second ends with its tick; a read of
TM_TOD0 or TE_SFC_LO returns the low word and latches the rest for its reader; and a read of TM_TSQ pops its head entry
with its time (R59, R313–R315, R323). -/
def Obligations.ModuleTimeComplete : Prop :=
  ∀ (s : State) (d : Dev), s.dev = d →
    (∀ b v, (Instr.todSet b v).wellFormed = true → d.accepts b (.tm 0) TM_TOD_CMD.OP (TM_TOD_CMD.OP.set v 1) = true →
      d.rd (.tm 0) TM_TOD_CMD.STAT ≠ 1 → d.rd (.tm 0) TM_TOD_SET.NS ≤ 999999999 →
      exec (.todSet b v) s = .next (s.after (
        ((d.wr (.tm 0) TM_TOD_CMD.OP 1).wr (.tm 0) TM_TOD_CMD.STAT 1).setTm { d.tm with todCmd := some (1, (
          ((d.rd (.tm 0) TM_TOD_SET.SEC_HI * 2 ^ 32 + d.rd (.tm 0) TM_TOD_SET.SEC_LO : Nat) * 1000000000 +
            d.rd (.tm 0) TM_TOD_SET.NS) * 2 ^ 32 + d.rd (.tm 0) TM_TOD_SET.FRAC * 65536)) }))) ∧
    (∀ b v, (Instr.todStep b v).wellFormed = true → d.accepts b (.tm 0) TM_TOD_CMD.OP (TM_TOD_CMD.OP.set v 2) = true →
      d.rd (.tm 0) TM_TOD_CMD.STAT ≠ 1 → d.rd (.tm 0) TM_TOD_SET.NS ≤ 999999999 →
      exec (.todStep b v) s = .next (s.after (
        ((d.wr (.tm 0) TM_TOD_CMD.OP 2).wr (.tm 0) TM_TOD_CMD.STAT 1).setTm { d.tm with todCmd := some (2, (
          (sext 48 (d.rd (.tm 0) TM_TOD_SET.SEC_HI * 2 ^ 32 + d.rd (.tm 0) TM_TOD_SET.SEC_LO) * 1000000000 +
            d.rd (.tm 0) TM_TOD_SET.NS) * 2 ^ 32 + d.rd (.tm 0) TM_TOD_SET.FRAC * 65536)) }))) ∧
    (d.live (.tm 0) = true →
      let idle (x : Dev) : Dev := (x.setTm { x.tm with todCmd := none }).wr (.tm 0) TM_TOD_CMD.STAT 0
      let ends (x : Dev) : Dev := Dev.tick
        { x.baseOn ((1000000000 * 2 ^ 32 : Int) - (x.time.ns * 2 ^ 32 + x.time.frac : Nat)) with
          time := ⟨(x.time.sec + 1) % 2 ^ 48, 0, 0⟩, now := x.now + (1000000000 - x.time.ns) } false
      (d.tm.todCmd = none → exec .oneSecondTick s = .next (s.after (ends d))) ∧
      (∀ v, d.tm.todCmd = some (1, v) → exec .oneSecondTick s = .next (s.after (ends ((idle d).stepTo (TimeVal.ofInt v))))) ∧
      (∀ v, d.tm.todCmd = some (2, v) → exec .oneSecondTick s = .next (s.after (ends ((idle d).stepBy v))))) ∧
    (∀ b, b.ok = true → d.readable b (.tm 0) = true → exec (.todRead b) s = .next (s.after (
      ((d.latch (.tm 0) 0x104 b.func (d.time.sec / 2 ^ 32 % 65536 * 65536 + d.time.frac / 65536)).latch (.tm 0) 0x108 b.func
        d.time.ns).emit (.rdata b.func (bytesOf b (d.time.sec % 2 ^ 32)))))) ∧
    (∀ b n, b.ok = true → n < 48 → d.readable b (.te n 0) = true → exec (.sfcLoRead b n) s = .next (s.after (
      (d.latch (.te n 0) 0x114 b.func (d.sfc n / 2 ^ 32)).emit (.rdata b.func (bytesOf b (d.sfc n % 2 ^ 32)))))) ∧
    (∀ b u e t, b.ok = true → u < 32 → d.readable b (.tm 1) = true → d.tm.tsq.get [] u = e :: t →
      let d1 := d.setTm { d.tm with tsq := d.tm.tsq.put [] u t, ovf := d.tm.ovf.put false u false }
      exec (.tsqPop b u) s = .next (s.after ((d1.wrs (.tm 1)
        [(TM_TSQ_TS.SEC_LO u, e.sec), (TM_TSQ_TS.SEC_HI u, e.sec / 2 ^ 32), (TM_TSQ_TS.FRAC u, e.frac),
         (TM_TSQ_TS.NS u, e.ns)]).emit (.rdata b.func (bytesOf b (
          (TM_TSQ.VALID u).put 1 + (TM_TSQ.DROPPED u).put e.dropped.toNat + (TM_TSQ.OVF u).put (d.tm.ovf.get false u).toNat +
            (TM_TSQ.LEFT u).put t.length + (TM_TSQ.ID u).put e.id))))))

/-- HOST_OFFSET_SAMPLE, PTP_SYNC_RECEIVE, PTP_FOLLOW_UP_RECEIVE, SERVO_TIMEOUT and XTAL_GATE complete: a host sample, a one-step Sync, a Follow_Up of the waiting Sync each give the servo one
sample θ, a two-step Sync waits, silence sets FREERUN with its interrupt and class 5, and a gate shows XTAL_A's rate
(R316–R320). -/
def Obligations.ServoComplete : Prop :=
  ∀ (s : State) (d : Dev), s.dev = d →
    (∀ b v, (Instr.hostOffsetSample b v).wellFormed = true → d.accepts b (.tm 0) TM_OFS_IN.OFS v = true →
      d.rd (.tm 0) TM_SERVO.EN ≠ 0 → d.rd (.tm 0) TM_SERVO.SRC = 0 →
      exec (.hostOffsetSample b v) s = .next (s.after (d.servo (sext 32 (TM_OFS_IN.OFS.get v) * 65536)))) ∧
    (∀ u tr ver dom id pn seq sec ns corr, (Instr.ptpSyncReceive u tr ver dom id pn seq false sec ns corr).wellFormed = true →
      d.ptpMatch u tr ver dom id pn = true → d.tm.sync = none →
      exec (.ptpSyncReceive u tr ver dom id pn seq false sec ns corr) s = .next (s.after ((d.cnt .tmCnt (u * 8 + 6)).servo (
        ((d.time.toNat / 65536 : Nat) : Int) - ptpTime sec ns (sext 64 corr) - d.mpd))) ∧
      exec (.ptpSyncReceive u tr ver dom id pn seq true sec ns corr) s = .next (s.after (d.setTm { d.tm with
        sync := some { seq := seq, t2 := ((d.time.toNat / 65536 : Nat) : Int), stale := false } }))) ∧
    (∀ u tr ver dom id pn w sec ns corr, (Instr.ptpFollowUpReceive u tr ver dom id pn w.seq sec ns corr).wellFormed = true →
      d.ptpMatch u tr ver dom id pn = true → d.tm.sync = some w → w.stale = false →
      exec (.ptpFollowUpReceive u tr ver dom id pn w.seq sec ns corr) s = .next (s.after (
        ((d.setTm { d.tm with sync := none }).cnt .tmCnt (u * 8 + 6)).servo (
          w.t2 - ptpTime sec ns (sext 64 corr) - d.mpd)))) ∧
    (d.rd (.tm 0) TM_STAT.FREERUN = 0 → exec .servoTimeout s = .next (s.after (
      ((d.wr (.tm 0) TM_STAT.FREERUN 1).raise (.tm 0) 3).report 5 0))) ∧
    (∀ v, v < 2 ^ 32 → d.rd (.tm 0) TM_STAT.REF ≠ 0 → d.rd (.tm 0) TM_STAT.HOLDOVER = 0 →
      exec (.xtalGate v) s = .next (s.after (d.wr (.tm 0) TM_XTAL_PPB.XTAL v)))

/-- Module time stays a time: nanoseconds below a second, a fraction below a nanosecond, seconds of 48 bits, whatever
step, tick or count of cycles is taken, and a time and its count of 2^-32 ns determine each other (R310, R311). -/
def Obligations.ModuleTimeStaysTime : Prop :=
  (∀ v : Int, (TimeVal.ofInt v).ok = true) ∧
  (∀ d : Dev, d.time.ok = true → d.countTime.time.ok = true ∧ d.wrapSecond.time.ok = true) ∧
  (∀ (d : Dev) (v : Int), (d.stepBy v).time.ok = true) ∧
  (∀ t : TimeVal, t.ok = true → TimeVal.ofInt t.toNat = t)

/-! ## Host interface -/

/-- TX_RING_DOORBELL and RX_RING_CONSUME complete: a TX producer index within the ring is taken, an RX consumer index frees its
descriptors and what waits for one is offered again (R428, R429). -/
def Obligations.DoorbellsComplete : Prop :=
  ∀ (s : State) (d : Dev), s.dev = d →
    (∀ b f r v, (Instr.txRingDoorbell b f r v).wellFormed = true → d.accepts b (.hir f) (HI_RING_IDX.PI r) v = true →
      ((HI_RING_IDX.PI r).get v + 8192 - d.rd (.hir f) (HI_RING_IDX.CI r)) % 8192 ≤ d.ringSize f r →
      exec (.txRingDoorbell b f r v) s = .next (s.after (d.wr (.hir f) (HI_RING_IDX.PI r) ((HI_RING_IDX.PI r).get v)))) ∧
    (∀ b f x v lens, (Instr.rxRingConsume b f x v lens).wellFormed = true →
      let r := 8 + x
      let old := d.rd (.hir f) (HI_RING_IDX.CI r)
      let ci := (HI_RING_IDX.CI r).get v
      d.accepts b (.hir f) (HI_RING_IDX.CI r) v = true →
      (d.rd (.hir f) (HI_RING_IDX.PI r) + 8192 - ci) % 8192 ≤ d.ringSize f r →
      let bl := lens.zipIdx.foldl (fun (st : Store Nat) (e : Nat × Nat) =>
        st.put 16384 ((old + e.2) % d.ringSize f r) e.1) (d.ring f r).bufLens
      let d1 := (d.wr (.hir f) (HI_RING_IDX.CI r) ci).setRing f r { d.ring f r with bufLens := bl }
      exec (.rxRingConsume b f x v lens) s = .next (s.after (
        (if f = 0 then (d1.azConsumed 0 r old ci).azConsumed 1 r old ci else d1).rxRetry f)))

/-- TX_FLOW_FRAME, TX_AGG_FRAME, TX_OMCI, TX_PLOAM and TX_AZTIL_MESSAGE complete: the next descriptor is taken, and a frame, PLOAM body, OMCI message or Aztil
message whose fields are allowed goes where its class sends it (R322, R324, R433, R434). -/
def Obligations.TxMessagesComplete : Prop :=
  ∀ (s : State) (d : Dev) (f r i : Nat) (e : Dev), s.dev = d → r < 8 →
    (∀ target bytes tm ti tofs uo ps pn,
      (Instr.txFlowFrame f r target bytes tm ti tofs uo false ps pn).wellFormed = true → target < 131072 →
      (f = 0 ∨ e.rdT .clFlow target CL_FLOW.TENANT = f) → 60 ≤ bytes.length → bytes.length ≤ 16384 →
      d.txTake f r bytes.length = some (i, e) → Stamp.bad ⟨tm, ti, tofs, uo, false, ps, pn⟩ f bytes.length false = false →
      exec (.txFlowFrame f r target bytes tm ti tofs uo false ps pn) s = .next (s.after (
        e.txFrame f r i (.flow target) bytes none))) ∧
    (∀ target bytes tm ti tofs uo l ps pn,
      (Instr.txAggFrame f r target bytes tm ti tofs uo l ps pn).wellFormed = true → target < 16384 →
      (f = 0 ∨ e.rdT .scAgg target SC_AGG.TENANT = f) → 60 ≤ bytes.length → bytes.length ≤ 16384 →
      d.txTake f r bytes.length = some (i, e) → Stamp.bad ⟨tm, ti, tofs, uo, l, ps, pn⟩ f bytes.length true = false →
      exec (.txAggFrame f r target bytes tm ti tofs uo l ps pn) s = .next (s.after (
        (if tm = 3 then e.freed else e).txFrame f r i (.agg target) bytes (some (e.stampReq ⟨tm, ti, tofs, uo, l, ps, pn⟩ f))))) ∧
    (∀ target bytes u, (Instr.txOmci f r target bytes false).wellFormed = true → target < 12288 → 1 ≤ bytes.length →
      bytes.length ≤ 2048 → d.txTake f r bytes.length = some (i, e) → (f = 0 ∨ (e.rdT .tnTenant f TN_TENANT.OMCI_EN ≠ 0 ∧ e.onuTenant target = f)) →
      e.rdT .cxOnuKeys target CX_ONU_KEYS.OMCI_V ≠ 0 → e.pathUnit = some u →
      exec (.txOmci f r target bytes false) s = .next (s.after ((e.omciSend target u bytes).txEnd f r i 0 0))) ∧
    (f = 0 →
    (∀ target onu type body, (Instr.txPloam 0 r target 40 onu type body false).wellFormed = true → target < 48 →
      d.hostPloams target < 64 → d.txTake 0 r 40 = some (i, e) → exec (.txPloam 0 r target 40 onu type body false) s = .next (s.after
        { e with te := { e.te with subs := e.te.subs ++
          [(target, { ring := some (r, i), host := true, onu := onu, type := type, body := body })] } })) ∧
    (∀ k bytes, (Instr.txAztilMessage 0 r k bytes false).wellFormed = true → k < 2 → 1 ≤ bytes.length →
      bytes.length ≤ 2046 → d.txTake 0 r bytes.length = some (i, e) → d.linkOn k = true → (d.lnk k).unacked.length < 64 →
      e.rd (.pxl k) PX_PEER_CFG.EN ≠ 0 →
      let l := e.lnk k
      exec (.txAztilMessage 0 r k bytes false) s = .next (s.after (
        ((e.setLnk k { l with unacked := l.unacked ++ [{ ring := r, idx := i, id := l.seqs.get 0 3 }] }).cnt
          (.pxLinkCnt k) 8).cellsOut k 3 r (beBytes 2 (e.epoch 16) ++ bytes)))))

/-- The next TX descriptor is the first one past those taken, of an enabled ring with one waiting; its LEN is held until
it completes (R428, R429). -/
def Obligations.TxTakeIsNext : Prop :=
  ∀ (d : Dev) (f r len : Nat),
    (∀ i e, d.txTake f r len = some (i, e) → d.rd (.hir f) (HI_RING_CFG.EN r) ≠ 0 ∧ d.ringsLive f = true ∧
      i = (d.rd (.hir f) (HI_RING_IDX.CI r) + (d.ring f r).taken.length) % 8192 ∧
      (e.ring f r).taken = (d.ring f r).taken ++ [⟨i, len, none⟩] ∧ e.regs = d.regs ∧ e.tbls = d.tbls ∧ e.out = d.out) ∧
    (d.ringsLive f = true → d.rd (.hir f) (HI_RING_CFG.EN r) ≠ 0 → (d.ring f r).taken.length < d.ringUsed f r →
      (d.txTake f r len).isSome = true)

/-- HOST_AGG_DEQUEUE, DMA_ERROR and RING_COALESCE_TIMEOUT complete: a host aggregate's head frame is written to the accepting ring and its
buffer released, a failed DMA stops its ring and is logged and reported, the coalesced message of a ring leaves
(R430, R431, R436, R437). -/
def Obligations.RingEventsComplete : Prop :=
  ∀ (s : State) (d : Dev), s.dev = d →
    (∀ f h t r e, f < 16 → d.takes (.sc 0) = true → d.ringsLive f = true →
      let q := aggQ (16368 + f)
      let x := d.drainOut
      (x.queue q).frames = h :: t → x.rxRing f 2 = some r → x.itemReady (.queue q) = true → x.rxFree f r = true →
      x.deqOk q h = true →
      let d1 := ((x.pm 9 (16368 + f)).pm 10 (16368 + f) h.len).takeHead q h.len
      let m : RxMsg := { cls := 2, reason := 0, source := 16368 + f, ts := (x.pkt h.handle).bind Pkt.ts,
                         epoch := x.epoch f, bytes := x.pktBytes h.handle }
      d1.rxOffer f m = (.written, e) →
      exec (.hostAggDequeue f false false) s = .next (s.after (e.release h.handle h.tag))) ∧
    (∀ f slot i isRead, f < 16 → 8 ≤ slot → slot < 16 → i < 8192 → d.ringsLive f = true →
      d.rd (.hir f) (HI_RING_CFG.EN slot) ≠ 0 →
      let d2 := d.wrs (.hir f) [(HI_RING_CFG.ERR slot, 1), (HI_RING_CFG.EN slot, 0)]
      exec (.dmaError f slot i isRead true) s = .next (s.after (
        ((d2.freed.hiErr 8 f isRead d2.free).raise (.hir f) 0).report 53 0))) ∧
    (∀ f slot, f < 16 → slot < 16 → d.ringsLive f = true → (d.ring f slot).unsig ≠ 0 →
      exec (.ringCoalesceTimeout f slot) s = .next (s.after (
        (d.setRing f slot { d.ring f slot with unsig := 0 }).msixSend f (d.rd (.hir f) (HI_RING_CFG.VECTOR slot)) true)))

/-- PCIE_LINK_CHANGE, PCIE_UNCORRECTABLE_ERROR, HI_ERR_CNT_READ and HI_OMCI_DROP_READ complete: a link change shows in HI_LINK with LINK_CHG, and class 53 when the link
falls; an uncorrectable error is logged with code 9, the rest of its record free; a read of HI_ERR_CNT or HI_OMCI_DROP
returns and clears it (R437, R444, R445). -/
def Obligations.HostEventsComplete : Prop :=
  ∀ (s : State) (d : Dev), s.dev = d →
    (∀ up rate width, (Instr.pcieLinkChange up rate width).wellFormed = true →
      let d1 := d.wrs .hi0 [(HI_LINK.L0, up.toNat), (HI_LINK.RATE, rate), (HI_LINK.WIDTH, width)]
      (d.on .hi0 HI_LINK.L0 = up → exec (.pcieLinkChange up rate width) s = .next (s.after d1)) ∧
      (d.on .hi0 HI_LINK.L0 ≠ up → exec (.pcieLinkChange up rate width) s = .next (s.after
        (if up then d1.raise .hi0 1 else (d1.raise .hi0 1).report 53 0)))) ∧
    (exec .pcieUncorrectableError s = .next (s.after (
      (d.freed 3).hiErr 9 (d.free % 16) (d.free 1 % 2 == 1) (d.free 2)))) ∧
    (∀ b, b.ok = true → d.readable b .hi0 = true →
      exec (.hiErrCntRead b) s = .next (s.after ((d.wr .hi0 HI_ERR_CNT.COUNT 0).emit
        (.rdata b.func (bytesOf b (d.rd .hi0 HI_ERR_CNT.COUNT))))) ∧
      exec (.hiOmciDropRead b) s = .next (s.after ((d.wr .hi0 HI_OMCI_DROP.COUNT 0).emit
        (.rdata b.func (bytesOf b (d.rd .hi0 HI_OMCI_DROP.COUNT))))))

/-- A logged access error shows code, function, direction and offset in HI_ERR, counts in HI_ERR_CNT and raises ERR_LOG
(R437). -/
def Obligations.AccessErrorRecord : Prop :=
  ∀ (d : Dev) (code func ofs : Nat) (isRead : Bool), code < 16 → func < 16 → ofs < 2 ^ 26 →
    let e := d.hiErr code func isRead ofs
    e.rd .hi0 HI_ERR.CODE = code ∧ e.rd .hi0 HI_ERR.FUNC = func ∧ e.rd .hi0 HI_ERR.RD = isRead.toNat ∧
    e.rd .hi0 HI_ERR_ADDR.OFS = ofs ∧
    e.rd .hi0 HI_ERR_CNT.COUNT = min (d.rd .hi0 HI_ERR_CNT.COUNT + 1) (2 ^ HI_ERR_CNT.COUNT.width - 1) ∧
    hasBit (e.rd .hi0 INT_RAW.RAW) 0 = true

/-- PM_SNAP, PM_CNT_LO_READ, CV_ALG_WRITE, CV_START, CV_DATA8, CV_DATA16, CV_DATA32 and CV_STAT_READ complete: SNAP copies and clears a group and records module time, a read of
a low word latches its high word, ALG sets CV_INIT, START loads the check register, and data feed it byte by byte
(R440, R443, R444). -/
def Obligations.CountersAndChecksComplete : Prop :=
  ∀ (s : State) (d : Dev), s.dev = d →
    (∀ b g v, (Instr.pmSnap b g v).wellFormed = true →
      d.accepts b (.pmg g) PM_SNAP_CMD.SNAP (PM_SNAP_CMD.SNAP.set v 1) = true → ∃ e : Dev,
      exec (.pmSnap b g v) s = .next (s.after e) ∧
      (∀ k < 32, e.rd (.pmg g) (PM_SNAPV.LO k) = d.rd (.pmg g) (PM_CNT.LO k) % 2 ^ 32 ∧
        e.rd (.pmg g) (PM_SNAPV.HI k) = d.rd (.pmg g) (PM_CNT.HI k) % 2 ^ 16 ∧
        e.rd (.pmg g) (PM_CNT.LO k) = 0 ∧ e.rd (.pmg g) (PM_CNT.HI k) = 0) ∧
      e.rd (.pmg g) PM_SNAP_TIME.NS = d.time.ns % 2 ^ 32 ∧ e.tbls = d.tbls ∧ e.ft = d.ft) ∧
    (∀ b g c, (Instr.pmCntLoRead b g c false).wellFormed = true → d.readable b (.pmg g) = true →
      exec (.pmCntLoRead b g c false) s = .next (s.after (
        (d.latch (.pmg g) (0x100 + 8 * c + 4) b.func (d.rd (.pmg g) (PM_CNT.HI c))).emit
          (.rdata b.func (bytesOf b (d.rd (.pmg g) (PM_CNT.LO c)))))) ∧
      exec (.pmCntLoRead b g c true) s = .next (s.after (
        (d.latch (.pmg g) (0x200 + 8 * c + 4) b.func (d.rd (.pmg g) (PM_SNAPV.HI c))).emit
          (.rdata b.func (bytesOf b (d.rd (.pmg g) (PM_SNAPV.LO c))))))) ∧
    (∀ b u v, u < 8 → b.ok = true → v < 2 ^ 32 → b.func = d.owner (.cv u) → d.rd (.cv u) CV_CTRL.PATH = 0 →
      let alg := CV_CTRL.ALG.get v
      let d0 := if b.func = 0 then d.wr (.cv u) CV_CTRL.PATH (CV_CTRL.PATH.get v) else d
      (d.accepts b (.cv u) CV_CTRL.ALG (CV_CTRL.START.set v 0) = true → exec (.cvAlgWrite b u v) s = .next (s.after (
        d0.wrs (.cv u) [(CV_CTRL.ALG, alg), (CV_INIT.INIT, cvInit alg)]))) ∧
      (d.accepts b (.cv u) CV_CTRL.START (CV_CTRL.START.set v 1) = true → alg = d.rd (.cv u) CV_CTRL.ALG →
        exec (.cvStart b u v) s = .next (s.after (
          (d0.setCvReg u (d.rd (.cv u) CV_INIT.INIT % 2 ^ cvWidth alg)).wr (.cv u) CV_STAT.BYTES 0)))) ∧
    (∀ b u v, u < 8 → b.ok = true → v < 2 ^ 32 → d.rd (.cv u) CV_CTRL.PATH = 0 →
      let fed (l : List Byte) := (d.setCvReg u (cvFeed (d.rd (.cv u) CV_CTRL.ALG) (d.cvReg u) l)).sat (.cv u) CV_STAT.BYTES
        l.length
      (d.accepts b (.cv u) CV_DATA8.D v = true → exec (.cvData8 b u v) s = .next (s.after (fed (beBytes 1 v)))) ∧
      (d.accepts b (.cv u) CV_DATA16.D v = true → exec (.cvData16 b u v) s = .next (s.after (fed (beBytes 2 v)))) ∧
      (d.accepts b (.cv u) CV_DATA32.D v = true → exec (.cvData32 b u v) s = .next (s.after (fed (beBytes 4 v))))) ∧
    (∀ b u, b.ok = true → u < 8 → d.readable b (.cv u) = true → exec (.cvStatRead b u) s = .next (s.after (
      (d.wr (.cv u) CV_STAT.FAIL 0).emit (.rdata b.func (bytesOf b (d.rd (.cv u) CV_STAT.FAIL * 65536 + d.rd (.cv u) CV_STAT.BYTES))))))

/-- The check values of the nine bytes "123456789" for the four algorithms are those of the spec's table, feeding is a
fold (two pieces in turn feed as their concatenation), and the register stays within its width (R443). -/
def Obligations.CheckValues : Prop :=
  (let nine : List Byte := [0x31, 0x32, 0x33, 0x34, 0x35, 0x36, 0x37, 0x38, 0x39]
   cvOut 0 (cvFeed 0 (cvInit 0) nine) = 0xcbf43926 ∧ cvOut 1 (cvFeed 1 (cvInit 1) nine) = 0xe3069283 ∧
   cvOut 2 (cvFeed 2 (cvInit 2) nine) = 0x29b1 ∧ cvOut 3 (cvFeed 3 (cvInit 3) nine) = 0xf4) ∧
  ∀ (alg reg : Nat) (l m : List Byte), cvFeed alg reg (l ++ m) = cvFeed alg (cvFeed alg reg l) m ∧
    (l ≠ [] → cvFeed alg reg l < 2 ^ cvWidth alg)

/-! ## Downstream framer -/

/-- FRAME_START, OC_HI_WRITE, TOD_ARM, FRAMER_ENABLE, FRAMER_DISABLE, LINE_MODE_WRITE, DS_XGEM_FRAME, TOD_ANNOUNCEMENT,
HOST_PLOAM_SUBMIT and TXDIS_SAMPLE complete.  At an ALIGNING framer's start the superframe count is TE_SFC_INIT, in RUNNING it is
the last plus 1 modulo 2^51, and STOPPING with no remainder ends in DISABLED (R56, R58, R73).  OC_HI commits both words,
ARM takes a target that lies in the future and refuses a passed one as STALE, FRAMER_EN starts and stops the framer, a
line mode changes while framer and receiver are off, a field is filled, an announcement is kept or late, a host PLOAM
message is queued, and a TXDIS land that disagrees in two samples raises its alarm (R54–R57, R64–R73, R76). -/
def Obligations.FramerComplete : Prop :=
  ∀ (s : State) (d : Dev) (n : Nat), s.dev = d → n < 48 →
    (d.live (.te n 0) = true → d.groupOf n = none →
      let init := d.rd (.te n 0) TE_SFC_INIT_LO.INIT_LO + 2 ^ 32 * d.rd (.te n 0) TE_SFC_INIT_HI.INIT_HI
      (d.rd (.te n 0) TE_TX_STAT.FSTATE = 1 → exec (.frameStart n) s = .next (s.after
        (((d.closeField n).wr (.te n 0) TE_TX_STAT.FSTATE 2).startFrame n init))) ∧
      (d.rd (.te n 0) TE_TX_STAT.FSTATE = 2 → exec (.frameStart n) s = .next (s.after
        ((d.closeField n).startFrame n ((d.sfc n + 1) % 2 ^ 51)))) ∧
      (d.rd (.te n 0) TE_TX_STAT.FSTATE = 3 → ((d.closeField n).fr n).oweRem = false →
        exec (.frameStart n) s = .next (s.after ((d.closeField n).watch [n] (fun x => x.framerEnd n))))) ∧
    (∀ b v, (Instr.ocHiWrite b n v).wellFormed = true → d.accepts b (.te n 0) TE_OC_HI.OC_HI v = true →
      let d1 := d.wr (.te n 0) TE_OC_HI.OC_HI (TE_OC_HI.OC_HI.get v)
      exec (.ocHiWrite b n v) s = .next (s.after (d1.setFr n { d1.fr n with
        ocPend := some (d.rd (.te n 0) TE_OC_LO.OC_LO + 2 ^ 32 * TE_OC_HI.OC_HI.get v) }))) ∧
    (∀ b v, (Instr.todArm b n v).wellFormed = true →
      d.accepts b (.te n 0) TE_TOD_CTRL.ARM (TE_TOD_CTRL.ARM.set v 1) = true → d.rd (.te n 0) TE_TOD_CTRL.ARM = 0 →
      let future := d.sfc n + 1 < d.todTarget n
      (future → exec (.todArm b n v) s = .next (s.after (d.wrs (.te n 0)
        [(TE_TOD_CTRL.DONE, 0), (TE_TOD_CTRL.STALE, 0), (TE_TOD_CTRL.ARM, 1)]))) ∧
      (¬ future → exec (.todArm b n v) s = .next (s.after (d.wrs (.te n 0)
        [(TE_TOD_CTRL.DONE, 0), (TE_TOD_CTRL.STALE, 1), (TE_TOD_CTRL.ARM, 0)])))) ∧
    (∀ b v, (Instr.framerEnable b n v).wellFormed = true →
      1 ≤ TE_TX_CTRL.PLOAM_MAX.get v → TE_TX_CTRL.PLOAM_MAX.get v ≤ 8 →
      let written (en : Nat) := d.watch [n] (fun x => (x.wrs (.te n 0) [(TE_TX_CTRL.PLOAM_MAX, TE_TX_CTRL.PLOAM_MAX.get v),
        (TE_TX_CTRL.TX_EN, TE_TX_CTRL.TX_EN.get v), (TE_TX_CTRL.FRAMER_EN, en)]).framerKick n)
      (d.accepts b (.te n 0) TE_TX_CTRL.FRAMER_EN (TE_TX_CTRL.FRAMER_EN.set v 1) = true →
        exec (.framerEnable b n v) s = .next (s.after (written 1))) ∧
      (d.accepts b (.te n 0) TE_TX_CTRL.FRAMER_EN (TE_TX_CTRL.FRAMER_EN.set v 0) = true →
        exec (.framerDisable b n v) s = .next (s.after (written 0)))) ∧
    (∀ b v, (Instr.lineModeWrite b n v).wellFormed = true → d.accepts b (.te n 0) TE_MODE.LINE_MODE v = true →
      d.rd (.te n 0) TE_TX_CTRL.FRAMER_EN = 0 → d.rd (.te n 1) TE_RX_CTRL.RX_EN = 0 → d.groupOf n = none →
      exec (.lineModeWrite b n v) s = .next (s.after (d.setLineMode n (TE_MODE.LINE_MODE.get v)))) ∧
    (d.fieldOpen n = true → (d.fr n).room ≠ 0 →
      (∀ x t, (d.fr n).ready = x :: t → x.cipher = false → x.rest = [] → xgemBytes x.payload.length ≤ (d.fr n).room →
        exec (.dsXgemFrame n) s = .next (s.after ((((d.setFr n { d.fr n with ready := t }).xgemOut n x true x.payload).cnt
          (.teDsCnt n) 2).xgemFree x))) ∧
      (∀ x t, (d.fr n).ready = x :: t → x.cipher = false → (d.fr n).room < 16 →
        (d.fr n).room < xgemBytes (x.payload.length + x.rest.length) → d.rd (.te n 0) TE_TX_STAT.FSTATE = 2 →
        exec (.dsXgemFrame n) s = .next (s.after (d.idleFill n (d.fr n).room)))) ∧
    (∀ a, d.te.anns.find? (fun e => e.1 == n) = some (n, a) →
      let d1 : Dev := { d with te := { d.te with anns := d.te.anns.erase (n, a) } }
      (d.sfc n < a.sendSfc → exec (.todAnnouncement n) s = .next (s.after
        (d1.setFr n { d1.fr n with ann := (d1.fr n).ann ++ [a] }))) ∧
      (a.sendSfc ≤ d.sfc n → d.sending n = true → exec (.todAnnouncement n) s = .next (s.after
        ((d1.cnt (.teDsCnt n) 10).raise (.te n 0) 4)))) ∧
    (∀ m, d.te.subs.find? (fun e => e.1 == n) = some (n, m) →
      let d1 : Dev := { d with te := { d.te with subs := d.te.subs.erase (n, m) } }
      let k := d1.lead n
      ploamBarred m.type = false → (m.onu = bcastOnu ∨ (m.onu < 256 ∧ d1.onuSt (d1.groupPort n) m.onu ≠ 0)) →
      exec (.hostPloamSubmit n) s = .next (s.after (d1.setFr k { d1.fr k with hostQ := (d1.fr k).hostQ ++ [m] }))) ∧
    (d.live (.te n 0) = true → let d1 := d.wr (.te n 0) TE_TX_STAT.TXDIS_PIN (d.txdis n).toNat
      exec (.txdisSample n (d.txdis n)) s = .next (s.after (d1.setFr n { d1.fr n with disRun := 0 }))) ∧
    (d.live (.te n 0) = true → (d.fr n).disRun = 1 → let d1 := d.wr (.te n 0) TE_TX_STAT.TXDIS_PIN (!d.txdis n).toNat
      exec (.txdisSample n (!d.txdis n)) s = .next (s.after (
        (((d1.setFr n { d1.fr n with disRun := 2 }).raise (.te n 0) 6).logErr (.te n 0) 0x105).report 35 n)))

/-! ## Burst reception -/

/-- RX_DISABLE, BURST_LOCK_START, SEARCH_WINDOW_OPEN, SEARCH_WINDOW_CLOSE, DELIMITER_MATCH, BURST_PAYLOAD_END, BRST_PULSE,
FEC_CODEWORD_DECODE and IDLE_SPAN_LISTEN complete.  RX_EN = 0 keeps only bursts in PAYLOAD; a slot goes ARMED, LOCK (the
shadow taps become live), SEARCH; 64 bits within DELIM_TOL of the profile's delimiter and the grantee's header open
PAYLOAD, a header of another ONU raises WRONG_ONU and is rogue evidence; a burst closes as accepted or with the outcome
that Table BRX–12 gives it; a reset pulse is emitted, shortened, or omitted and counted; a codeword is counted where FEC
runs and its items taken in order; a listened span is counted, and one with energy is rogue evidence (R84, R93–R101,
R122). -/
def Obligations.ReceiverComplete : Prop :=
  ∀ (s : State) (d : Dev) (n : Nat), s.dev = d → n < 48 →
    (∀ b v, (Instr.rxDisable b n v).wellFormed = true →
      d.accepts b (.te n 1) TE_RX_CTRL.RX_EN (TE_RX_CTRL.RX_EN.set v 0) = true →
      let d1 := d.wrs (.te n 1) [(TE_RX_CTRL.RX_EN, 0), (TE_RX_CTRL.PREARM_EN, TE_RX_CTRL.PREARM_EN.get v),
        (TE_RX_CTRL.LISTEN_EN, TE_RX_CTRL.LISTEN_EN.get v), (TE_RX_CTRL.RECALL_EN, TE_RX_CTRL.RECALL_EN.get v)]
      exec (.rxDisable b n v) s = .next (s.after (d1.setRx n { d.rx n with
        cur := (d.rx n).cur.filter (fun x => x.st == .payload),
        next := (d.rx n).next.filter (fun x => x.st == .payload), pre := [] }))) ∧
    (∀ k x, k < 2048 → (d.slots n)[k]? = some x → d.live (.te n 1) = true →
      (x.st = .armed → let e := d.setSlot n k { x with st := .lock }
        exec (.burstLockStart n k) s = .next (s.after (e.setRx n { e.rx n with
          shadow := if x.recalled then some x.recallCopy else none, live := if x.recalled then some x.recallCopy else none }))) ∧
      (x.st = .lock → ∀ l, exec (.searchWindowOpen n k l) s = .next (s.after
        (d.setSlot n k { x with st := .search, locked := l }))) ∧
      (x.st = .search → ∀ l, let y := { x with locked := x.locked || l }
        exec (.searchWindowClose n k l) s = .next (s.after (d.closeBad n k y y.outcome))) ∧
      (x.st = .search → d.inService n = true → ∀ bits err w, bits < 2 ^ 64 →
        let diff := bitDiff bits (d.rdT (.teBurstProfile n) x.prof TE_BURST_PROFILE.DELIMITER)
        diff ≤ x.cfg.tol → d.window n x = some w → err.natAbs ≤ w →
        (x.onu < 1024 → exec (.delimiterMatch n k bits 1 x.onu err false) s = .next (s.after (d.setSlot n k { x with
          st := .payload, corrected := false, delimErr := diff, arrErr := err, locked := true }))) ∧
        (∀ id gasp, id < 1024 → exec (.delimiterMatch n k bits 0 id err gasp) s = .next (s.after
          (d.setSlot n k { x with lastUncorr := true }))) ∧
        (∀ id gasp, id < 1024 → id ≠ x.onu → d.acquiring n = false → x.foreignIds.contains id = false →
          exec (.delimiterMatch n k bits 1 id err gasp) s = .next (s.after (((d.setSlot n k { x with
            foreign := true, foreignIds := x.foreignIds ++ [id], lastUncorr := false }).raise (.te n 1) 0).rogue n
              (some id))))) ∧
      (x.st = .payload → d.inService n = true → ∀ ffe dfe dc freq gain thresh phase,
        (Instr.burstPayloadEnd n k ffe dfe dc freq gain thresh phase).wellFormed = true →
        exec (.burstPayloadEnd n k ffe dfe dc freq gain thresh phase) s = .next (s.after (d.closeGood n k x
          { ffe := ffe, dfe := dfe, dc := dc, freq := freq, gain := gain, thresh := thresh, phase := phase })))) ∧
    (∀ k x, k < 2048 → (d.rx n).done[k]? = some x → d.rxOn n = true →
      (d.brstRoom n x = none → exec (.brstPulse n k) s = .next (s.after (d.emit (.brst n x.cfg.brstWidth)))) ∧
      (∀ room, d.brstRoom n x = some room → x.cfg.brstMin ≤ room → exec (.brstPulse n k) s = .next (s.after
        (d.emit (.brst n (min room x.cfg.brstWidth))))) ∧
      (∀ room, d.brstRoom n x = some room → room < x.cfg.brstMin → exec (.brstPulse n k) s = .next (s.after
        ((d.cnt (.teUsCnt n) 18).raise (.te n 1) 2)))) ∧
    (∀ k corr bip items x, (Instr.fecCodewordDecode n k corr false bip items).wellFormed = true →
      (d.decoding n)[k]? = some x → d.live (.te n 1) = true → d.inService n = true → (x.st = .payload ∨ x.st = .closed) →
      let took (bad : Bool) (e : Dev) : State :=
        let r := items.foldl (Dev.usItem n bad) (x, e.addT (.teOnuLine n) x.onu TE_ONU_LINE.BIP bip)
        s.after (r.2.setDecoding n k r.1)
      let one := d.cnt (.teUsCnt n) 7
      (x.fec = true →
        exec (.fecCodewordDecode n k 0 false bip items) s = .next (took false one) ∧
        (0 < corr → exec (.fecCodewordDecode n k corr false bip items) s = .next (took false (
          (one.cnt (.teUsCnt n) 8).addT (.teOnuLine n) x.onu TE_ONU_LINE.FEC_CORR corr))) ∧
        exec (.fecCodewordDecode n k corr true bip items) s = .next (took true (
          (one.cnt (.teUsCnt n) 9).addT (.teOnuLine n) x.onu TE_ONU_LINE.FEC_UNCORR))) ∧
      (x.fec = false → ∀ bad, exec (.fecCodewordDecode n k corr bad bip items) s = .next (took false d))) ∧
    (∀ k sp amp dur found, (Instr.idleSpanListen n k amp dur found).wellFormed = true → (d.idleSpans n)[k]? = some sp →
      let g := d.groupPort n
      d.rxOn n = true → (d.sq g).win = none → (d.sq g).hunt = none → d.rd (.te n 1) TE_RX_CTRL.LISTEN_EN ≠ 0 →
      let d1 := d.cnt (.teUsCnt n) 16
      (d.isEnergy n amp dur = false → exec (.idleSpanListen n k amp dur found) s = .next (s.after d1)) ∧
      (d.isEnergy n amp dur = true → (d.bw g).takeover = 0 → exec (.idleSpanListen n k amp dur found) s = .next (s.after
        ((((d1.setSq g { d.sq g with heard := some (sp.1, dur) }).cnt (.teUsCnt n) 17).raise (.te n 1) 1).rogue n
          (d.heardId n found)))))

/-! ## Ranging and activation -/

/-- ONU_AUTHORISE, ONU_RERANGE, ONU_DEACTIVATE, ONU_DISABLE, ONU_ENABLE, ONU_RELEASE and HUNT_ABORT complete: with none pending, each sets OP and INDEX, shows STAT 1 and is committed
at the next instant (R114, R125). -/
def Obligations.OnuCommandsComplete : Prop :=
  ∀ (s : State) (d : Dev), s.dev = d → ∀ b n v, (Instr.onuAuthorise b n v).wellFormed = true →
    d.rd (.te n 2) TE_ONU_CMD.STAT ≠ 1 →
    let ok (op : Nat) := d.accepts b (.te n 2) TE_ONU_CMD.OP (TE_ONU_CMD.OP.set v op) = true
    let issued (op : Nat) := (d.wrs (.te n 2) [(TE_ONU_CMD.OP, op), (TE_ONU_CMD.INDEX, TE_ONU_CMD.INDEX.get v),
      (TE_ONU_CMD.STAT, 1)]).commitNow n
    (ok 1 → exec (.onuAuthorise b n v) s = .next (s.after (issued 1))) ∧
    (ok 2 → exec (.onuRerange b n v) s = .next (s.after (issued 2))) ∧
    (ok 3 → exec (.onuDeactivate b n v) s = .next (s.after (issued 3))) ∧
    (ok 4 → exec (.onuDisable b n v) s = .next (s.after (issued 4))) ∧
    (ok 5 → exec (.onuEnable b n v) s = .next (s.after (issued 5))) ∧
    (ok 6 → exec (.onuRelease b n v) s = .next (s.after (issued 6))) ∧
    (ok 7 → exec (.huntAbort b n v) s = .next (s.after (issued 7)))

/-- DISCOVERY_WINDOW_OPEN, SN_BURST_ACCEPT, DISCOVERY_WINDOW_END, DISCOVERED_TIMEOUT, RANGING_BURST_ACCEPT,
RANGING_TIME_ACK, RANGING_ACK_TIMEOUT and HUNT_ROUND_END complete: a window opens, announcing EqD_pre in the recommendation's
unit, and ends with its count of serial numbers; of the bursts that pass as serial-number bursts, a new serial number is
counted and handled, a repeated one counted as a duplicate, the seventeenth recorded with reason 4; an unauthorised
entry goes back to EMPTY; a ranging burst confirms its EqD or is measured; an acknowledgement starts the confirming step;
a missing one is asked for again; a round of a hunt with energy puts the rest under suspicion (R107–R120, R124). -/
def Obligations.RangingComplete : Prop :=
  ∀ (s : State) (d : Dev) (n : Nat), s.dev = d → n < 48 →
    (let m := d.lead n
     let c := d.blocks m
     let rand := d.rd (.te n 2) TE_DISC_CFG.RAND_SPAN_US
     let w := nsToBlocks c (discNs (d.rd (.te n 2) TE_RANGE_CFG.DIFF_KM) rand)
     let k := (w + c - 1) / c
     let g : Grant :=
       { wireId := bcastOnu, start := c - nsToBlocks c (1000 * rand + 3000), size := 4, prof := 0, dbru := false,
         ploamu := false, seq := true, alloc := none, onu := bcastOnu, tenant := 0, kind := 3 }
     let z : Quiet := { port := m, first := ((k * c : Nat) : Int) - w, last := (k * c : Nat), frame := k - 1,
                        grant := some g, prof := d.rd (.te n 2) TE_DISC_CFG.DISC_PROFILE }
     d.discPending n = true → (d.sq n).win = none → (d.sq n).quiet = [] →
     exec (.discoveryWindowOpen n) s = .next (s.after ((((d.setSq n { d.sq n with
       quiet := [z], discSince := some d.now,
       win := some { sfc := 0, serials := [], overflow := false, resent := [] } }).wr (.te n 2) TE_DISC_STAT.OPEN 1).cnt
         (.teRngCnt n) 0).ploam n bcastOnu .rangingTime (beBytes 4 (d.eqdUnits n (d.eqdPre n)))))) ∧
    (∀ bits hdr id serial rnd err bytes mic w, (Instr.snBurstAccept n bits hdr id serial rnd err bytes mic).wellFormed = true →
      bitDiff bits (d.rdT (.teBurstProfile n) (d.rd (.te n 2) TE_DISC_CFG.DISC_PROFILE) TE_BURST_PROFILE.DELIMITER) ≤
        (d.rxCfgAt (d.lead n)).tol → hdr ≠ 0 → id = bcastOnu → d.ploamMic none bytes = mic → (d.sq n).win = some w →
      (w.serials.length < 16 → w.serials.contains serial = false →
        let w1 : DiscWin := { w with serials := w.serials ++ [serial] }
        let rtd : Int := (d.teqdUi n : Int) + wholeUi err - d.eqdPre n - nsToUi (d.blocks (d.lead n)) rnd
        exec (.snBurstAccept n bits hdr id serial rnd err bytes mic) s = .next (s.after (((d.setSq n { d.sq n with win := some w1 }).cnt
          (.teRngCnt n) 1).snHandle n serial rnd (toBits 32 rtd) w1))) ∧
      (w.serials.length < 16 → w.serials.contains serial = true →
        exec (.snBurstAccept n bits hdr id serial rnd err bytes mic) s = .next (s.after (d.cnt (.teRngCnt n) 3))) ∧
      (16 ≤ w.serials.length → w.overflow = false → exec (.snBurstAccept n bits hdr id serial rnd err bytes mic) s = .next (s.after
        ((d.setSq n { d.sq n with win := some { w with overflow := true } }).snUnknown n 4 serial w.sfc)))) ∧
    (∀ w amp dur, (Instr.discoveryWindowEnd n amp dur).wellFormed = true → (d.sq n).win = some w →
      let d1 := (d.setSq n { d.sq n with win := none }).wrs (.te n 2)
        [(TE_DISC_STAT.OPEN, 0), (TE_DISC_STAT.SN_LAST, w.serials.length)]
      ((d.isEnergy (d.lead n) amp dur && w.serials.isEmpty) = false → exec (.discoveryWindowEnd n amp dur) s = .next (s.after d1)) ∧
      (d.isEnergy (d.lead n) amp dur = true → w.serials = [] → exec (.discoveryWindowEnd n amp dur) s = .next (s.after (d1.cnt (.teRngCnt n) 2)))) ∧
    (∀ j, j < 256 → d.onuSt n j = 1 → d.rdT (.teOnu n) j TE_ONU.AUTH = 0 → d.standby n = false →
      exec (.discoveredTimeout n j) s = .next (s.after (d.planNow n (Trans.plain j 0 4 4)))) ∧
    (let p := d.groupPort n
     ∀ k x r, k < 2048 → (d.slots n)[k]? = some x → x.st = .payload → d.live (.te n 1) = true → x.kind = 2 →
      x.taken = false → d.onuSt p x.onu = 2 → d.live (.te p 2) = true → d.standby p = false → d.rng p x.onu = some r →
      r.wait = false →
      let d1 := d.setSlot n k { x with taken := true }
      (r.confirm = true → x.arrErr.natAbs ≤ marginUi x.cfg.margin → exec (.rangingBurstAccept n k) s = .next (s.after
        (d1.planNow p (Trans.plain x.onu 3 5 4)))) ∧
      (r.confirm = false → exec (.rangingBurstAccept n k) s = .next (s.after
        (d1.measure p x.onu r (wholeUi x.arrErr))))) ∧
    (∀ j bytes mic e g, j < 256 → d.usPloamOk n j bytes mic = (true, e) → e.rng n j = some g → g.wait = true →
      g.seqs.contains (ploamSeqOf bytes) = true →
      (e.onuSt n j = 2 → exec (.rangingTimeAck n j bytes mic) s = .next (s.after (e.setRng n j { g with
        wait := false, confirm := true, used := e.rdT (.teOnu n) j TE_ONU.EQD }))) ∧
      (e.onuSt n j ≠ 2 → exec (.rangingTimeAck n j bytes mic) s = .next (s.after (e.setSq n { e.sq n with
        rng := (e.sq n).rng.del j, resume := (e.sq n).resume.ins j (e.nextMap n) })))) ∧
    (∀ j r, j < 256 → d.live (.te n 2) = true → d.standby n = false → d.rng n j = some r → r.wait = true →
      d.rangingWaits n j = false →
      (r.sends < d.rd (.te n 2) TE_DRIFT_CFG.RANGE_TRIES → exec (.rangingAckTimeout n j) s = .next (s.after
        ((d.setRng n j { r with sends := r.sends + 1 }).rangingTime n j))) ∧
      (d.rd (.te n 2) TE_DRIFT_CFG.RANGE_TRIES ≤ r.sends →
        (d.onuSt n j = 2 → exec (.rangingAckTimeout n j) s = .next (s.after (d.rangeFail n j))) ∧
        (d.onuSt n j ≠ 2 → exec (.rangingAckTimeout n j) s = .next (s.after (d.planNow n (Trans.plain j 4 8 4)))))) ∧
    (∀ h, d.live (.te n 2) = true → d.standby n = false → (d.sq n).hunt = some h → h.listening = true → h.confirming = false →
      let d1 := d.wr (.te n 2) TE_SEQ_STAT.ROUND (d.rd (.te n 2) TE_SEQ_STAT.ROUND + 1)
      (h.energy = true → exec (.huntRoundEnd n) s = .next (s.after (((d1.huntRelease n h.half).huntRound n
        (h.suspects.filter (fun j => !h.half.contains j)) (h.isolated.filter (fun j => !h.half.contains j))).commitNow n))) ∧
      (h.energy = false → exec (.huntRoundEnd n) s = .next (s.after ((d1.huntRound n h.half h.isolated).commitNow n))))

/-! ## Bandwidth engine and grant checker -/

/-- CYCLE_OPEN, BELLOWS_START, SPECULATIVE_MAP_COMPLETE, CONFIRMATION_CUT, MAP_HANDOVER and MAP_DEADLINE complete: the
cycle opens, the bellows start and the Hardy reads its shadow entries, the
speculative map pre-arms the receivers before T − 40 µs, the cut confirms the needs from the latest reports, a map is
handed over and decisions committed, and at the deadline a missing map becomes the empty one with its interrupt, count and
class 31 (R17–R22, R56, R131–R151, R182). -/
def Obligations.CycleComplete : Prop :=
  ∀ (s : State) (d : Dev) (n : Nat), s.dev = d → n < 48 →
    (d.cycleOn n = true → d.sending (d.lead n) = true →
      let b := (d.bw n).unstash
      exec (.cycleOpen n) s = .next (s.after (d.setBw n { b with
        openAt := d.now, running := false, cut := false, reported := b.reported ++ b.late, late := [] }))) ∧
    (∀ kind a, kind < 7 → a < 16384 → d.cycleOn n = true →
      exec (.bellowsStart n kind a) s = .next (s.after ((Dev.bellows n d).hyRead n kind a))) ∧
    (d.cycleOn n = true → (d.bw n).running = true → (d.bw n).runahead = true → (d.bw n).cut = false →
      (d.bw n).specDone = false → d.now ≤ (d.bw n).openAt + 86500 →
      exec (.speculativeMapComplete n) s = .next (s.after
        ((d.mates n).foldl (fun (x : Dev) m => x.preArm m n) (d.setBw n { d.bw n with specDone := true })))) ∧
    (d.cycleOn n = true → (d.bw n).running = true → (d.bw n).cut = false →
      let v := d.bwView n
      let l := latestReports (d.bw n).reported
      let d1 := d.reconcile v n l
      let cl := if v.dataOn n then (v.claims n).map (fun c => { c with need := d1.confNeed (d1.bw n) l c }) else []
      let r := d1.serveAll v n cl
      let d2 := (d1.cnt (.bwTreeCnt n) 9 r.clips).cnt (.bwTreeCnt n) 10 r.mins
      let d3 := if r.clips = 0 then d2 else d2.raise (.bwt n) 1
      let d4 := (d.mates n).foldl (fun (x : Dev) m => x.cutPort v m n r.cl) d3
      let d5 := (d4.setBw n { d4.bw n with cut := true }).showGranted n r.cl
      exec (.confirmationCut n) s = .next (s.after ((d.mates n).foldl (fun (x : Dev) m =>
        if (x.hy m).done && !(x.hy m).safe then x.hyWhole m else x) d5))) ∧
    (n = d.groupPort n → d.rd (.te (d.lead n) 0) TE_TX_STAT.FSTATE ≠ 0 → d.groupOf n = none → d.mates n = [n] →
      d.isProtected n = false →
      let c := (d.hyDiscards n).hyChoose n n
      let d1 := c.2.handPort n n c.1
      let d2 := if d.cycleOn n then d1.cycleEnd n c.1.toList else d1
      let d3 := if d.sending (d.lead n) then d2.commit n (d.nextSfc (d.lead n)) else d2
      exec (.mapHandover n) s = .next (s.after
        ((d3.mirrorSend n (d.nextSfc n) (c.1.getD ⟨[], false⟩)).noMaps n c.1.isSome))) ∧
    (d.frameComes n = true → d.live (.te n 0) = true →
      let f := d.fr n
      let held := f.seqQ.filter (d.ploamHeld (d.groupPort n))
      let p := pickPloam (d.rd (.te n 0) TE_TX_CTRL.PLOAM_MAX) (f.seqQ.filter (fun x => !d.ploamHeld (d.groupPort n) x)) f.hostQ
      let r (x : Dev) := p.1.foldl (Dev.ploamFreeze (d.groupPort n))
        ([], x.setFr n { f with handed := none, seqQ := held ++ p.2.1, hostQ := p.2.2 })
      let frozen (x : Dev) (map : GMap) := (r x).2.setFr n { (r x).2.fr n with next := some (map, (r x).1) }
      (∀ map, f.handed = some map → exec (.mapDeadline n false) s = .next (s.after (frozen d map))) ∧
      (∀ bad, f.handed = none → (d.inService n = true ∨ n = d.lead n) → exec (.mapDeadline n bad) s = .next (s.after
        (frozen (((d.raise (.te n 0) 0).cnt (.teDsCnt n) 9).report 31 n) ⟨[], false⟩))))

/-- GRANT_CHECK, RECONCILIATION_DEADLINE, TRACE_ENABLE, SAFE_ENTER and SAFE_EXIT complete: each grant of a map is checked in its order, none in safe-map mode; a late
stream is counted, logged and reported; TRACE_EN restarts the trace, and safe-map mode is entered on request and left
at once (R20, R152, R160–R169). -/
def Obligations.GrantCheckerComplete : Prop :=
  ∀ (s : State) (d : Dev), s.dev = d →
    (∀ m g t, m < 48 → d.live .hy0 = true → (d.hy m).stream = g :: t →
      let d1 := d.setHy m { d.hy m with
        stream := t, arrived := (d.hy m).arrived + 1, lastStart := g.start, done := t.isEmpty }
      ((d.hy m).safe = true → ∀ bad, exec (.grantCheck m bad) s = .next (s.after d1)) ∧
      ((d.hy m).safe = false → (d.hy m).arrived < 512 → (d.hy m).lastStart ≤ g.start →
        (t ≠ [] → exec (.grantCheck m false) s = .next (s.after (d1.hyGrant m g))) ∧
        (t = [] → exec (.grantCheck m false) s = .next (s.after ((d1.hyGrant m g).hyWhole m))) ∧
        (t ≠ [] → exec (.grantCheck m true) s = .next (s.after (d1.hyBad m 19))))) ∧
    (∀ m, m < 48 → d.cycleOn (d.groupPort m) = true → (d.bw (d.groupPort m)).running = true →
      (d.hy m).snapped = true → (d.hy m).done = false → (d.hy m).safe = false →
      exec (.reconciliationDeadline m) s = .next (s.after
        (((((d.hyBad m 18).cnt (.bwTreeCnt m) 7).logErr .bw0 0x182).raise .bw0 1).raise (.bwt m) 2 |>.report 32 m))) ∧
    (∀ b v, (Instr.traceEnable b v).wellFormed = true → d.accepts b .bw0 BW_RUNAHEAD.TRACE_EN v = true →
      BW_RUNAHEAD.TRACE_TREE.get v ≤ 47 → BW_RUNAHEAD.TRACE_EN.get v = 1 →
      let d1 := d.wrs .bw0
        [(BW_RUNAHEAD.TRACE_TREE, BW_RUNAHEAD.TRACE_TREE.get v), (BW_RUNAHEAD.TRACE_WRAP, BW_RUNAHEAD.TRACE_WRAP.get v),
         (BW_RUNAHEAD.TRACE_EN, 1), (BW_RUNAHEAD.EN, BW_RUNAHEAD.EN.get v)]
      let d2 := (List.range 48).foldl (fun (x : Dev) m => x.setBw m { x.bw m with tracing := false }) d1
      exec (.traceEnable b v) s = .next (s.after { d2.wrs .bw0 [(BW_STAT.TRACE_COUNT, 0), (BW_STAT.TRACE_FULL, 0)] with
        eng := { d2.eng with traceAt := 0 } })) ∧
    (∀ b v, (Instr.safeEnter b v).wellFormed = true → let m := HY_SAFE_CMD.TREE.get v
      m ≤ 47 →
      (d.accepts b .hy0 HY_SAFE_CMD.OP (HY_SAFE_CMD.OP.set v 1) = true → (d.hy m).safe = false →
        exec (.safeEnter b v) s = .next (s.after
          ((d.wrs .hy0 [(HY_SAFE_CMD.OP, 1), (HY_SAFE_CMD.TREE, m)]).setHy m { d.hy m with safeReq := true }))) ∧
      (d.accepts b .hy0 HY_SAFE_CMD.OP (HY_SAFE_CMD.OP.set v 2) = true → (d.hy m).safe = true → (d.hy m).arrived = 0 →
        exec (.safeExit b v) s = .next (s.after (((d.wrs .hy0 [(HY_SAFE_CMD.OP, 2), (HY_SAFE_CMD.TREE, m)]).setHy m
          { d.hy m with safe := false, safeReq := false }).viol m (Viol.plain 25)))))

/-! ## Bonded trees -/

/-- MEMBER_DOWN, MEMBER_RESTORE, SKEW_REMEASURE, MEMBER_RESTORE_TIMEOUT, DS_FRAGMENT_DISTRIBUTE, US_FRAGMENT_RECEIVE,
FRAGMENT_WAIT_TIMEOUT and OAM_TEMPLATE_SEND complete: DOWN and RESTORE wait for the handover, REMEASURE adds probes at
once, a DOWN member is restored when its time is over, a packet is cut over the members, a fragment received is ordered, one
missing too long is given up, and a template that is due is sent with its number (R176–R194). -/
def Obligations.BondingComplete : Prop :=
  ∀ (s : State) (d : Dev), s.dev = d →
    (∀ b v, (Instr.memberDown b v).wellFormed = true → d.rd .bd BD_CMD.STAT ≠ 1 →
      let g := BD_CMD.GROUP.get v
      let m := BD_CMD.SLOT.get v
      let j := BD_CMD.ONU.get v
      let ok (op : Nat) := d.accepts b .bd BD_CMD.OP (BD_CMD.OP.set v op) = true
      let d0 (op : Nat) := d.wrs .bd [(BD_CMD.OP, op), (BD_CMD.GROUP, g), (BD_CMD.SLOT, m), (BD_CMD.ONU, j)]
      g ≤ 23 → d.grpSize g ≠ 0 →
      (m < d.grpSize g → ok 1 → exec (.memberDown b v) s = .next (s.after ((((d0 1).wr .bd BD_CMD.STAT 1).setMem g m
        { d.mem g m with trans := some (1, 4) }).memberNow g))) ∧
      (m < d.grpSize g → ok 2 → exec (.memberRestore b v) s = .next (s.after ((((d0 2).wr .bd BD_CMD.STAT 1).setMem g m
        { d.mem g m with trans := some (2, 0) }).memberNow g))) ∧
      (ok 3 → exec (.skewRemeasure b v) s = .next (s.after
        ((((d0 3).members g).filter (fun k => k != (d0 3).lead k && (d0 3).inService k)).foldl
          (fun (x : Dev) k => x.probeAdd g (k - 2 * g) j) ((d0 3).wr .bd BD_CMD.STAT 0))))) ∧
    (∀ g m, (Instr.memberRestoreTimeout g m).wellFormed = true → m < d.grpSize g → d.memberState g m = 1 →
      (d.memberCause g m = 3 ∨ d.memberCause g m = 6) → exec (.memberRestoreTimeout g m) s = .next (s.after
        ((d.setMem g m { d.mem g m with trans := some (2, 0) }).memberNow g))) ∧
    (∀ g c t, g < 24 → d.path.cx.cut.get [] g = c :: t → d.enabled .bd = true → exec (.dsFragmentDistribute g) s =
      .next (s.after (Dev.cutOut (c.frame.payload.length + 1) (d.setCut g t) g c))) ∧
    (∀ g f t, g < 24 → (d.bd g).inq = f :: t → d.enabled .bd = true → exec (.usFragmentReceive g) s = .next (s.after
      ((d.setBd g { d.bd g with inq := t }).fragReceive g f))) ∧
    (∀ g a, (Instr.fragmentWaitTimeout g a).wellFormed = true → d.enabled .bd = true →
      exec (.fragmentWaitTimeout g a) s = .next (s.after (d.fragLost g a))) ∧
    (∀ g, g < 24 → d.enabled .bd = true → d.rdT .bdGroup g BD_GROUP.OAM_EN ≠ 0 → d.grpSize g ≠ 0 → d.anyDown g = true →
      d.rdT .bdGroup g BD_GROUP.OAM_LEN_DEG ≠ 0 →
      let a : Admit :=
        { rt := 0, first := .template g, second := none, bytes := d.oamBytes g 0 (d.rdT .bdGroup g BD_GROUP.OAM_LEN_DEG),
          ts := none, source := 0, req := none, tx := none }
      let d1 := d.setBd g { d.bd g with oamSeq := (d.bd g).oamSeq + 1 }
      exec (.oamTemplateSend g) s = .next (s.after
        ((d1.setBp { d1.path.bp with inq := d1.path.bp.inq ++ [a] }).cnt .bdCnt (g * 16 + 12))))

/-! ## Tree protection -/

/-- HOLD_GAP_DETECT, HOLD_GAP_END, HOLD_FAULT, PROTECTION_CELL_SEND, PROTECTION_CELL_RECEIVE, LINK_SILENT, TIME_CELL_SEND,
TIME_CELL_RECEIVE, MIRROR_RECORD_APPLY, AZTIL_MESSAGE_RECEIVE and AZTIL_MESSAGE_ACK complete: a hold line goes quiet or
toggles again, the own gap ends, a disagreement is reported, cells leave in their turn and are taken by their type, a
silent link is counted and raised, TIME cells give the one-way delay, a record whose CRC does not fit drops its cycle and
one that completes the cycle is applied, host messages arrive whole and are acknowledged (R197, R200–R203, R208, R209,
R216, R218). -/
def Obligations.ProtectionLinksComplete : Prop :=
  ∀ (s : State) (d : Dev) (k : Nat), s.dev = d → k < 2 →
    (∀ agree,
      let seen (edges : Bool) : Dev := { d with sup := { d.sup with edge := d.sup.edge.put false k (edges == agree) } }
      exec (.holdGapDetect k true agree) s = .next (s.after ((seen true).wr (.pxl k) PX_LINK_STAT.HOLD_IN 1)) ∧
      (let d1 := (seen false).wr (.pxl k) PX_LINK_STAT.HOLD_IN 0
       exec (.holdGapDetect k false agree) s = .next (s.after (Dev.watchAll (fun x => x.pxEval k)
         ((d1.linkTrees k).foldl (fun (x : Dev) n =>
           if (x.lnk k).peerExMark.get false n then x.setPx n { x.px n with exSeen := true } else x) d1))))) ∧
    exec (.holdGapEnd 0) s = .next (s.after
      (Dev.watchAll (fun x => x.pxEval 0) { d with sup := { d.sup with gap0 := none } })) ∧
    exec (.holdGapEnd 1) s = .next (s.after
      (Dev.watchAll (fun x => x.pxEval 1) { d with sup := { d.sup with gap1 := none } })) ∧
    (d.rd (.pxl k) PX_PEER_CFG.EN ≠ 0 → d.holdDiffers k = true →
      exec (.holdFault k) s = .next (s.after ((d.raise (.pxl k) 2).report 49 k))) ∧
    exec (.protectionCellSend k) s = .next (s.after (d.watchAll (fun x => (x.pxEval k).protCell k))) ∧
    (∀ h payload e, (Instr.protectionCellReceive k h payload).wellFormed = true → d.cellHead k h = (true, e) →
      bitsAt h 60 4 = 1 → exec (.protectionCellReceive k h payload) s =
        .next (s.after (d.watchAll (fun _ => e.cellTake k (payload.take (bitsAt h 32 8)))))) ∧
    (d.rd (.pxl k) PX_PEER_CFG.EN ≠ 0 → d.linkSilent k = false → exec (.linkSilent k) s = .next (s.after
      (d.watchAll (fun x => (((x.wr (.pxl k) PX_LINK_STAT.SILENT 1).cnt (.pxLinkCnt k) 4).raise (.pxl k) 1).pxEval k)))) ∧
    (d.linkOn k = true →
      let d1 := d.setLnk k { d.lnk k with timeDue := true }
      let l := d1.lnk k
      let at_ := max l.busyTo (d1.now * 100)
      exec (.timeCellSend k) s = .next (s.after (d1.cellRun k)) ∧
      (d1.cellFree k = true → l.protDue = false → l.mirQ = [] → exec (.timeCellSend k) s = .next (s.after
        (d1.cellSend k at_ { l.count 4 with timeDue := false } 4 (l.lone 4 (d1.timeBytes k at_)))))) ∧
    (∀ h payload e, (Instr.timeCellReceive k h payload).wellFormed = true → d.cellHead k h = (true, e) →
      bitsAt h 60 4 = 4 →
      let b := payload.take (bitsAt h 32 8)
      let d1 := e.setLnk k { e.lnk k with echo := some (bytesAt b 0 8, e.timebase) }
      (b.length < 24 → exec (.timeCellReceive k h payload) s = .next (s.after (d.watchAll (fun _ => d1)))) ∧
      (24 ≤ b.length → exec (.timeCellReceive k h payload) s = .next (s.after (d.watchAll (fun _ =>
        d1.wr (.pxl k) PX_LINK_DELAY.ONE_WAY
          ((e.timebase + 2 * 2 ^ 64 - bytesAt b 8 8 - bytesAt b 16 8) % 2 ^ 64 * 1000 / 128)))))) ∧
    (∀ cells h payload e tag whole, (Instr.mirrorRecordApply k (cells ++ [(h, payload)])).wellFormed = true →
      (Dev.cellsIn k cells d).cellHead k h = (true, e) → bitsAt h 60 4 = 2 → hasBit h 58 = true →
      let b := payload.take (bitsAt h 32 8)
      ((hasBit h 59 = true ∧ (e.lnk k).mirPart = none ∧ tag = bitsAt h 16 16 ∧ whole = b) ∨
        (hasBit h 59 = false ∧ (e.lnk k).mirSeq = some (bitsAt h 40 16) ∧
          ∃ part, (e.lnk k).mirPart = some (tag, part) ∧ whole = part ++ b)) →
      let d1 := e.setLnk k { e.lnk k with mirSeq := some ((bitsAt h 40 16 + 1) % 65536), mirPart := none }
      (MirrorRec.ofBytes whole = none → exec (.mirrorRecordApply k (cells ++ [(h, payload)])) s = .next (s.after
        (d.watchAll (fun _ => d1.mirrorBad k tag)))) ∧
      (∀ r n prev, MirrorRec.ofBytes whole = some r → d1.mirrorTree k r.tree = some n →
        r.tree = d1.rdT .pxRole n PX_ROLE.PEER_TREE → d1.mates n = [n] → (d1.px n).gathered = [] →
        (d1.px n).late ≠ some r.sfc → (d1.px n).lastSfc = some prev → r.sfc = (prev + 1) % 2 ^ 51 →
        exec (.mirrorRecordApply k (cells ++ [(h, payload)])) s = .next (s.after (d.watchAll (fun _ =>
          (d1.setPx n { d1.px n with gathered := [(0, some r)] }).mirrorApply n [(n, r)]))))) ∧
    (∀ cells h payload e tag whole, (Instr.aztilMessageReceive k (cells ++ [(h, payload)])).wellFormed = true →
      (Dev.cellsIn k cells d).cellHead k h = (true, e) → bitsAt h 60 4 = 3 → hasBit h 58 = true →
      let b := payload.take (bitsAt h 32 8)
      ((hasBit h 59 = true ∧ (e.lnk k).msgPart = none ∧ tag = bitsAt h 40 16 ∧ whole = b) ∨
        (hasBit h 59 = false ∧ (e.lnk k).msgSeq = some (bitsAt h 40 16) ∧
          ∃ part, (e.lnk k).msgPart = some (tag, part) ∧ whole = part ++ b)) →
      let l := { e.lnk k with msgSeq := some ((bitsAt h 40 16 + 1) % 65536), msgPart := none }
      let m : RxMsg :=
        { cls := 6, reason := 0, source := k, ts := none, epoch := bytesAt whole 0 2, bytes := whole.drop 2 }
      exec (.aztilMessageReceive k (cells ++ [(h, payload)])) s = .next (s.after (d.watchAll (fun _ =>
        ((e.setLnk k { l with heldRx := l.heldRx ++ [(tag, m)] }).cnt (.pxLinkCnt k) 9).rxRetry 0)))) ∧
    (∀ m dropped, m.id < 65536 → (d.lnk k).unacked.find? (fun x => x.id == m.id) = some m →
      exec (.aztilMessageAck k m.id dropped) s = .next (s.after
        ((d.setLnk k { d.lnk k with unacked := (d.lnk k).unacked.erase m }).txComplete 0 m.ring m.idx
          (if dropped then 10 else 0) 0 (d.rd (.pxl k) PX_LINK_STAT.PEER_EPOCH))))

/-- MIRROR_DEADLINE, ACQUISITION_TIMEOUT, REQ_CLEAR, REQ_LOCKOUT, REQ_FORCED, REQ_MANUAL, REQ_EXERCISE, EXERCISE_TIMEOUT,
WTR_EXPIRY and START_TIMEOUT complete: the mirror deadline, the end of acquisition's time, the five
requests, an exercise without answer, the wait to restore, and a start into silence (R196, R209, R211, R214, R215,
Table PRT–6). -/
def Obligations.ProtectionTreesComplete : Prop :=
  ∀ (s : State) (d : Dev), s.dev = d →
    (∀ n, n < 48 → n = d.groupPort n → d.isProtected n = true → 3 ≤ d.pxState n → d.pxState n ≤ 5 →
      ((d.px n).applied = false → (d.px n).dueSfc.isSome = true →
        exec (.mirrorDeadline n) s = .next (s.after (d.mirrorDrop n (d.px n).dueSfc))) ∧
      ((d.px n).applied = true → exec (.mirrorDeadline n) s = .next (s.after
        (d.setPx n { d.px n with applied := false, late := (d.px n).lastSfc })))) ∧
    (∀ n, n < 48 → n = d.groupPort n → d.acquiring n = true → (d.px n).acqWait = 0 → (d.px n).acqN < 16 →
      1024 ≤ (d.px n).acqFrames → exec (.acquisitionTimeout n) s = .next (s.after (d.acqFail n))) ∧
    (∀ b v, (Instr.reqClear b v).wellFormed = true →
      let n := PX_REQ.TREE.get v
      let ok (op : Nat) := d.accepts b .px0 PX_REQ.OP (PX_REQ.OP.set v op) = true
      let asked (op : Nat) := ((d.wrs .px0 [(PX_REQ.OP, op), (PX_REQ.TREE, n)]).wr .px0 PX_REQ.STAT 1).wrT .pxRole n
        PX_ROLE.REQ_LOCAL op
      n < 48 → d.rdT .pxRole n PX_ROLE.MODE = 1 →
      (ok 0 → exec (.reqClear b v) s = .next (s.after (asked 0))) ∧
      (ok 1 → exec (.reqLockout b v) s = .next (s.after (asked 1))) ∧
      (ok 2 → exec (.reqForced b v) s = .next (s.after (asked 2))) ∧
      (ok 3 → exec (.reqManual b v) s = .next (s.after (asked 3))) ∧
      (ok 4 → exec (.reqExercise b v) s = .next (s.after (asked 4)))) ∧
    (∀ n, n < 48 → (d.px n).exAt.isSome = true →
      let d1 := (d.setPx n { d.px n with exAt := none }).cnt .pxCnt (n * 16 + 5)
      (d1.rdT .pxRole n PX_ROLE.REQ_LOCAL = 4 →
        exec (.exerciseTimeout n) s = .next (s.after (d1.wrT .pxRole n PX_ROLE.REQ_LOCAL 0))) ∧
      (d1.rdT .pxRole n PX_ROLE.REQ_LOCAL ≠ 4 → exec (.exerciseTimeout n) s = .next (s.after d1))) ∧
    (∀ n, n < 48 → d.pxState n = 5 → d.rdT .pxRole n PX_ROLE.WTR_S ≠ 0 → (d.px n).reverting = false →
      d.rdT .pxRole n PX_ROLE.REQ_EFF ≠ 2 → d.rdT .pxRole n PX_ROLE.REQ_EFF ≠ 3 →
      exec (.wtrExpiry n) s = .next (s.after
        (((d.setPx n { d.px n with reverting := true }).wrT .pxRole n PX_ROLE.CAUSE 7).pxTell n))) ∧
    (∀ n, n < 48 → n = d.groupPort n → d.isProtected n = true → d.pxState n = 1 → d.isHome n = false →
      d.linkSilent (d.pxLink n) = true → d.mayTake n = true →
      exec (.startTimeout n) s = .next (s.after (d.watchAll (fun x => x.pxTake n 3))))

/-! ## Clocks -/

/-- CLK_GOOD_RISE, REFCLK_DETECT, REFCLK_LOSS, REFL_LOCK, CLOCK_FAILURE, XTAL_B_FAILURE, XTAL_B_RETURN, SOSC_FAILURE,
SYS_LOCK, SOURCE_SWITCH_DONE, DEAD_SOURCE, GATE_COMPLETE, GATE_TIMEOUT and CLOCK_FAIL_CLEAR complete.  CLK_GOOD rises on a
clean clock, and a framer that is enabled aligns; REFCLK is detected, lost and locked to, SYS first locks
and FAB moves to it; a clock failure shows FAIL with its first source, stops what depends on the source, gives up every
tree and reports class 1; XTAL_B and SOSC failures are flagged, AON moving away and back; a switch ends, by force where the
old source is dead; a gate request ends or times out; FAIL is cleared (R356–R373). -/
def Obligations.ClocksComplete : Prop :=
  ∀ (s : State) (d : Dev), s.dev = d →
    (∀ k, k < 179 → d.clockRuns k = true → d.goodLoops k = [] → (d.dom k).op = 0 →
      let d1 := (d.wrT .ckDomainCtrl k CK_DOMAIN_CTRL.CLK_GOOD 1).relWake k
      exec (.clkGoodRise k) s = .next (s.after (if 11 ≤ k ∧ k < 59 then d1.framerKick (k - 11) else d1))) ∧
    (∀ r, (Instr.refclkDetect r).wellFormed = true → d.rd .ck CK_STAT.REF = 0 →
      refAccepted (d.rd .ck CK_SRC_SEL.REF_MODE) r = true → d.dark 1 = false → d.domInReset 1 = false →
      exec (.refclkDetect r) s = .next (s.after ((d.refShow r).reflGo 1))) ∧
    (d.rd .ck CK_STAT.REF ≠ 0 →
      ((d.refShow 0).refl = 1 ∨ (d.refShow 0).refl = 2 → exec .refclkLoss s = .next (s.after ((d.refShow 0).reflGo 3))) ∧
      ((d.refShow 0).refl = 0 ∨ (d.refShow 0).refl = 3 → exec .refclkLoss s = .next (s.after (d.refShow 0)))) ∧
    (d.refl = 1 → d.rdT .ckLoop 0 CK_LOOP.FAILED = 0 → exec .reflLock s = .next (s.after ((d.loopLock 0).reflGo 2))) ∧
    (∀ src dead, (Instr.clockFailure src dead).wellFormed = true → d.isClockFailure src = true → src ≠ 0 → src ≠ 2 →
      d.rd .ck CK_FAIL.FAIL = 0 →
      let ls := d.failLoops src
      ls.contains 2 = false →
      let d1 := ls.foldl (fun (x : Dev) i => x.wrTs .ckLoop i [(CK_LOOP.LOCKED, 0), (CK_LOOP.FAILED, 1)])
        (d.wrs .ck [(CK_FAIL.FAIL, 1), (CK_FAIL.FIRST_SRC, src)])
      let stop := (List.range 179).filter (fun k =>
        (d1.dom k).op != 2 && (match d1.domLoop k with | some i => ls.contains i | none => false))
      exec (.clockFailure src dead) s = .next (s.after
        (d.watchAll (fun _ => (((d1.stopDomains stop).raise .ck 0).giveUpAll).report 1 0)))) ∧
    (∀ dead, d.curSrc 0 ≠ 3 → exec (.xtalBFailure dead) s = .next (s.after
      (((d.wr .ck CK_STAT.XTAL_B_OK 0).raise .ck 4).report 3 0))) ∧
    (d.clk.aonWait = false → exec .xtalBReturn s = .next (s.after (d.wr .ck CK_STAT.XTAL_B_OK 1))) ∧
    (d.clk.aonWait = true → exec .xtalBReturn s = .next (s.after
      { (d.wr .ck CK_STAT.XTAL_B_OK 1).wrT .ckDomainCtrl 0 CK_DOMAIN_CTRL.CUR_SRC 3 with
        clk := { d.clk with aonWait := false } })) ∧
    exec .soscFailure s = .next (s.after (d.wr .ck CK_STAT.SOSC_OK 0)) ∧
    (3 ≤ d.rd .rs RS_STAT.PHASE → d.rdT .ckLoop 2 CK_LOOP.LOCKED = 0 → d.rdT .ckLoop 2 CK_LOOP.FAILED = 0 →
      exec .sysLock s = .next (s.after ((d.loopLock 2).wrT .ckDomainCtrl 3 CK_DOMAIN_CTRL.CUR_SRC 19))) ∧
    (∀ k, k < 179 → (d.dom k).op = 2 →
      let done := (d.wrTs .ckDomainCtrl k
        [(CK_DOMAIN_CTRL.CUR_SRC, (d.dom k).swTo), (CK_DOMAIN_CTRL.BUSY, 0)]).setDom k { d.dom k with op := 0, swTo := 0 }
      exec (.sourceSwitchDone k) s = .next (s.after done) ∧
      exec (.deadSource k false) s = .next (s.after (d.watchAll (fun _ => done.forced k (d.curSrc k)))) ∧
      exec (.deadSource k true) s = .next (s.after
        (d.watchAll (fun _ => (done.forced k (d.curSrc k)).stopDomain k)))) ∧
    (∀ k, k < 179 → (d.dom k).op = 1 →
      exec (.gateComplete k) s = .next (s.after (d.watchAll (fun x => (x.wrTs .ckDomainCtrl k
        [(CK_DOMAIN_CTRL.GATED, 1), (CK_DOMAIN_CTRL.CLK_GOOD, 0), (CK_DOMAIN_CTRL.BUSY, 0)]).setDom k
          { x.dom k with op := 0 }))) ∧
      exec (.gateTimeout k) s = .next (s.after ((((d.wrTs .ckDomainCtrl k
        [(CK_DOMAIN_CTRL.GATE, 0), (CK_DOMAIN_CTRL.BUSY, 0)]).setDom k { d.dom k with op := 0 }).wrs .ck
          [(CK_GATE_TIMEOUT.DOMAIN, k), (CK_GATE_TIMEOUT.VALID, 1)]).raise .ck 1))) ∧
    (∀ b v locked xtalA, (Instr.clockFailClear b v locked xtalA).wellFormed = true →
      let e := d.clocksNow locked xtalA
      e.accepts b .ck CK_FAIL.FAIL (CK_FAIL.FAIL.set v 1) = true → e.rd .ck CK_FAIL.FAIL ≠ 0 → e.failClearOk = true →
      exec (.clockFailClear b v locked xtalA) s = .next (s.after
        ((List.range 179).foldl (fun (x : Dev) k => x.restartDomain k) (e.wrs .ck [(CK_FAIL.FAIL, 0)]))))

/-! ## Power, reset, retained state -/

/-- FEED_STATE_CHANGE, FEED_USABLE, LAST_WORD_START, LAST_WORD_RECORD_DONE, HOLDUP_OK, LW_ARMED, POWER_ON_RESET,
RST_N_ASSERT, RST_N_RELEASE, PCIE_HOT_RESET, RESET_COLD, RESET_WARM, RESET_DOMAIN, RELEASE_ESCALATED, DOMAIN_RESET_DONE,
RELEASE_STEP, WATCHDOG_KICK, WATCHDOG_WARN, WATCHDOG_EXPIRY, CAL_COMMIT, CAL_RELOAD, CAL_DONE and INPUT_CURRENT_HIGH
complete.  A feed's measured magnitude gives its state (Table PWR–1) and which feeds carry, and a change is shown,
counted, raised and reported; a cold or warm reset acts on every domain and is absorbed where R389 says so; a domain's
reset ends with its release; the watchdog warns, is kicked, and resets; a commit writes the other bank, a reload takes the
active one, and the end of a commit marks its bank or reports class 10 (R377–R398, R416, R469). -/
def Obligations.PowerComplete : Prop :=
  ∀ (s : State) (d : Dev), s.dev = d →
    (∀ feed mag rev, (Instr.feedStateChange feed mag rev).wellFormed = true →
      let f := feedFlds feed
      let was := d.rd .pw f.1
      let st := feedState was mag rev
      let d1 := d.wrs .pw [(f.1, st), (f.2.2.2, mag)]
      let d3 := (if st < 3 then d1.setUsable feed false else d1).feedCarry
      let d4 := ((d3.cnt .pwCnt feed).raise .pw 0).report 6 feed
      (was = st → exec (.feedStateChange feed mag rev) s = .next (s.after d3)) ∧
      (was ≠ st → exec (.feedStateChange feed mag rev) s = .next (s.after
        (if st = 3 then d4.cnt .pwCnt 2 else if st = 5 then d4.cnt .pwCnt 3
         else if st = 1 then ((d4.cnt .pwCnt 4).raise .pw 1).report 7 feed else d4)))) ∧
    (3 ≤ d.rd .pw PW_FEED_STATUS.STATE_B → 3500 ≤ d.rd .pw PW_FEED_B_MV.MAG → d.pwr.lw = 0 → d.pwr.usableA = true →
      exec (.feedUsable 1) s = .next (s.after (d.setUsable 1 true).feedCarry)) ∧
    (∀ magA magB lid, (Instr.lastWordStart magA magB lid).wellFormed = true → d.pwr.lw = 0 →
      max magA magB < 3300 → d.rd .rs RS_LW_STAT.ARMED ≠ 0 → d.rd .rs RS_LW_CFG.EN ≠ 0 →
      let ws := d.lwWords magA magB lid
      let d1 : Dev := { d with pwr := { d.pwr with lw := 1 } }
      let d2 := ((d1.stopDomains sagFirst).giveUpAll).stopDomains sagRest
      exec (.lastWordStart magA magB lid) s = .next (s.after (d.watchAll (fun _ =>
        { d2 with pwr := { d2.pwr with lwPend := some (wordStore (ws ++ [crcWords ws])) } })))) ∧
    (∀ im, d.pwr.lwPend = some im →
      let d1 := (d.rawLoad .rsLwRec im).wrs .rs [(RS_LW_STAT.VALID, 1), (RS_LW_STAT.ARMED, 0)]
      exec .lastWordRecordDone s = .next (s.after { d1 with pwr := { d1.pwr with lw := 2, lwPend := none } })) ∧
    (exec (.holdupOk true) s = .next (s.after (d.wr .pw PW_FEED_STATUS.HOLDUP_OK 1))) ∧
    (d.rd .pw PW_FEED_STATUS.HOLDUP_OK ≠ 0 → exec (.holdupOk false) s = .next (s.after
      ((((d.wr .pw PW_FEED_STATUS.HOLDUP_OK 0).wr .rs RS_LW_STAT.ARMED 0).raise .pw 2).report 8 0))) ∧
    (d.rd .pw PW_FEED_STATUS.HOLDUP_OK ≠ 0 → d.pwr.lw = 0 → d.live .rs = true → d.rd .rs RS_LW_STAT.ARMED = 0 →
      exec .lwArmed s = .next (s.after ((d.wr .rs RS_LW_STAT.ARMED 1).raise .rs 3))) ∧
    (d.pwr.lwPowerOn = true → d.pwr.lw ≠ 1 → d.rd .rs RS_LW_STAT.VALID = 0 →
      let d1 := Dev.bigReset true 1 { d with pwr := { d.pwr with lw := 0, lwPowerOn := false } }
      let d2 := (d1.wr .rs RS_STAT.RETAIN_VALID 1).wr .pw PW_FEED_STATUS.HOLDUP_OK 0
      d2.rd .rs RS_LW_STAT.VALID = 0 → exec (.powerOnReset true) s = .next (s.after d2)) ∧
    (d.pwr.lw = 0 → d.rd .rs RS_RESET_CTRL.PIN_WARM = 0 →
      let d1 := Dev.bigReset true 2 d
      exec .rstNAssert s = .next (s.after { d1 with pwr := { d1.pwr with rstN := true } })) ∧
    exec .rstNRelease s = .next (s.after { d with pwr := { d.pwr with rstN := false } }) ∧
    (d.rd .rs RS_RESET_CTRL.HOT_WARM ≠ 0 →
      exec .pcieHotReset s = .next (s.after (d.watchAll (fun _ => Dev.bigReset false 3 d)))) ∧
    (d.rd .rs RS_RESET_CTRL.HOT_WARM = 0 → d.pwr.lw = 0 → d.pwr.scope = 0 →
      exec .pcieHotReset s = .next (s.after (d.watchAll (fun _ => d.hiReset)))) ∧
    (∀ b v, (Instr.resetCold b v).wellFormed = true →
      let k := RS_RESET_CTRL.DOMAIN.get v
      let ok (op : Nat) := d.accepts b .rs RS_RESET_CTRL.OP (RS_RESET_CTRL.OP.set v op) = true
      let d1 := d.wrs .rs [(RS_RESET_CTRL.DOMAIN, k), (RS_RESET_CTRL.HOT_WARM, RS_RESET_CTRL.HOT_WARM.get v),
        (RS_RESET_CTRL.PIN_WARM, RS_RESET_CTRL.PIN_WARM.get v)]
      (ok 1 → exec (.resetCold b v) s = .next (s.after (d.watchAll (fun _ => Dev.bigReset true 6 d1)))) ∧
      (ok 2 → exec (.resetWarm b v) s = .next (s.after (d.watchAll (fun _ => Dev.bigReset false 6 d1)))) ∧
      (ok 3 → opDomain k = true → d.rd .rs RS_STAT.BUSY = 0 → d.pwr.scope = 0 → d.pwr.lw = 0 →
        exec (.resetDomain b v) s = .next (s.after (d.watchAll (fun _ => Dev.domainReset 6 k d1)))) ∧
      (ok 4 → d.holders k ≠ [] → exec (.releaseEscalated b v) s = .next (s.after (d.watchAll (fun _ =>
        (d.holders k).foldl (fun (x : Dev) e => x.ftEnd e.1 e.2) d1))))) ∧
    (∀ k, k < 179 → (d.dom k).inRst = true → (d.dom k).held = false →
      exec (.domainResetDone k) s = .next (s.after ((d.reachRelease k).rsBusy))) ∧
    (d.pwr.scope ≠ 0 → d.pwr.rstN = false → d.pwr.lw = 0 → d.pwr.relQ = [] →
      (d.rd .rs RS_STAT.PHASE = 1 → exec .releaseStep s = .next (s.after
        ((((d.releaseDom 1).calRead).cmpStart).wr .rs RS_STAT.PHASE 2))) ∧
      (d.rd .rs RS_STAT.PHASE = 2 → exec .releaseStep s = .next (s.after ((d.releaseDom 3).wr .rs RS_STAT.PHASE 3)))) ∧
    (∀ b v, (Instr.watchdogKick b v).wellFormed = true → d.accepts b .rs RS_WDT.KICK (RS_WDT.KICK.set v 1) = true →
      d.rd .rs RS_WDT.EN = 1 → 10 ≤ RS_WDT.PERIOD_MS.get v → RS_WDT.PERIOD_MS.get v = d.rd .rs RS_WDT.PERIOD_MS →
      RS_WDT.WDT_COLD.get v = d.rd .rs RS_WDT.WDT_COLD →
      let d1 := d.wrs .rs [(RS_WDT.PERIOD_MS, RS_WDT.PERIOD_MS.get v), (RS_WDT.WDT_COLD, RS_WDT.WDT_COLD.get v),
        (RS_WDT.EN, 1)]
      exec (.watchdogKick b v) s = .next (s.after { d1 with pwr := { d1.pwr with wdtStart := d.now, wdtWarned := false } })) ∧
    (d.rd .rs RS_WDT.EN ≠ 0 → d.pwr.wdtWarned = false → exec .watchdogWarn s = .next (s.after
      ((({ d with pwr := { d.pwr with wdtWarned := true } } : Dev).raise .rs 0).report 9 0))) ∧
    (d.rd .rs RS_WDT.EN ≠ 0 → d.rd .rs RS_WDT.WDT_COLD = 0 →
      exec .watchdogExpiry s = .next (s.after (Dev.bigReset false 4 d))) ∧
    (∀ b v, (Instr.calCommit b v).wellFormed = true → d.rd .rs RS_CAL_CMD.STAT ≠ 1 →
      (∀ a, d.accepts b .rs RS_CAL_CMD.OP (RS_CAL_CMD.OP.set v 1) = true → d.activeBank = some a →
        let seq := ((d.bank a).seq + 1) % 2 ^ 32
        let d1 := ((d.wr .rs RS_CAL_CMD.OP 1).wr .rs RS_CAL_CMD.STAT 1).setBank (1 - a)
          { image := (d.wr .rs RS_CAL_CMD.OP 1).calImage seq, seq := seq, valid := false }
        exec (.calCommit b v) s = .next (s.after { d1 with pwr := { d1.pwr with commit := some (1 - a) } })) ∧
      (∀ a, d.accepts b .rs RS_CAL_CMD.OP (RS_CAL_CMD.OP.set v 2) = true → d.activeBank = some a →
        exec (.calReload b v) s = .next (s.after
          (((d.wr .rs RS_CAL_CMD.OP 2).wr .rs RS_CAL_CMD.STAT 0).rawLoad .rsCalImg (d.bank a).image)))) ∧
    (∀ k, d.pwr.commit = some k →
      let d1 := ({ d with pwr := { d.pwr with commit := none } } : Dev).wr .rs RS_CAL_CMD.STAT 0
      exec (.calDone true) s = .next (s.after (((d1.setBank k { d1.bank k with valid := true }).calShow).raise .rs 1)) ∧
      exec (.calDone false) s = .next (s.after (((d1.wr .rs RS_CAL_STAT.VERIFY_FAIL 1).raise .rs 2).report 10 0))) ∧
    (∀ cur, (Instr.inputCurrentHigh cur).wellFormed = true → 10000 ≤ cur →
      exec (.inputCurrentHigh cur) s = .next (s.after
        (((d.wrs .pw [(PW_INPUT.CURRENT, cur), (PW_INPUT.POWER, d.free)]).freed).report 56 0)))

/-! ## Configurations that a rule refuses -/

/-- R55, whole: a write of LINE_MODE is taken exactly while the framer and the receiver are off and the tree is not
bonded; any other leaves the field and counts error 0x101. -/
def Obligations.LineModeRule : Prop :=
  ∀ (s : State) (d : Dev), s.dev = d → ∀ b n v, (Instr.lineModeWrite b n v).wellFormed = true →
    d.accepts b (.te n 0) TE_MODE.LINE_MODE v = true →
    (d.rd (.te n 0) TE_TX_CTRL.FRAMER_EN = 0 ∧ d.rd (.te n 1) TE_RX_CTRL.RX_EN = 0 ∧ d.groupOf n = none →
      exec (.lineModeWrite b n v) s = .next (s.after (d.setLineMode n (TE_MODE.LINE_MODE.get v)))) ∧
    (¬ (d.rd (.te n 0) TE_TX_CTRL.FRAMER_EN = 0 ∧ d.rd (.te n 1) TE_RX_CTRL.RX_EN = 0 ∧ d.groupOf n = none) →
      let e := d.logErr (.te n 0) 0x101
      exec (.lineModeWrite b n v) s = .next (s.after e) ∧
      e.rd (.te n 0) TE_MODE.LINE_MODE = d.rd (.te n 0) TE_MODE.LINE_MODE ∧
      e.rd (.te n 0) ERR_COUNT.COUNT = min (d.rd (.te n 0) ERR_COUNT.COUNT + 1) 0xffffffff ∧
      (d.rd (.te n 0) ERR_FIRST.CODE = 0 → e.rd (.te n 0) ERR_FIRST.CODE = 0x101))

/-- R106, whole: a write of TE_RANGE_CFG whose TEQD_NS breaks its bounds, or that changes a field while the framer is
enabled, is refused whole with 0x140; so a TEQD_NS that a write changes is within its bounds for the MAX_KM written. -/
def Obligations.RangeConfigurationRule : Prop :=
  ∀ (d : Dev) (n v : Nat),
    let p : Page := .te n 2
    let km := TE_RANGE_CFG.MAX_KM.get v
    let t := TE_RANGE_CFG.TEQD_NS.get v
    let changes := t ≠ d.rd p TE_RANGE_CFG.TEQD_NS ∨ km ≠ d.rd p TE_RANGE_CFG.MAX_KM ∨
      TE_RANGE_CFG.DIFF_KM.get v ≠ d.rd p TE_RANGE_CFG.DIFF_KM
    let e := d.wRangeCfg n v
    ((¬ (37000 + 9800 * km ≤ t ∧ t ≤ 1000000) ∨ (changes ∧ d.rd (.te n 0) TE_TX_CTRL.FRAMER_EN ≠ 0)) →
      e = d.logErr p 0x140 ∧ (∀ f ∈ [TE_RANGE_CFG.TEQD_NS, TE_RANGE_CFG.MAX_KM, TE_RANGE_CFG.DIFF_KM], e.rd p f = d.rd p f) ∧
      e.rd p ERR_COUNT.COUNT = min (d.rd p ERR_COUNT.COUNT + 1) 0xffffffff ∧
      (d.rd p ERR_FIRST.CODE = 0 → e.rd p ERR_FIRST.CODE = 0x140)) ∧
    (e.rd p TE_RANGE_CFG.TEQD_NS ≠ d.rd p TE_RANGE_CFG.TEQD_NS → e.rd p TE_RANGE_CFG.TEQD_NS = t ∧
      37000 + 9800 * km ≤ t ∧ t ≤ 1000000 ∧ d.rd (.te n 0) TE_TX_CTRL.FRAMER_EN = 0)

/-- R420, whole: a write of FT_CTRL with COAL_MS outside 1 to 1,000, or with FAULT_MIN = 7, is refused whole with 0x363
and FT_CTRL keeps its value; any other is taken.  A TBL_WRITE or TBL_RMW of an FT_CLASS entry is refused whole with
0x360 when its image has N = 0, W_MS outside 1 to 3,600,000, ACTION 6 or 7, an ACTION that R413 refuses for the class's
scope (2 or 5 for a class of the module, of a tenant or of a link), or a read-only field that differs from its stored
value; a word that an RMW does not enable is the stored one in the image. -/
def Obligations.FaultControlRule : Prop :=
  (∀ (s : State) (d : Dev), s.dev = d → ∀ b pg v, (Instr.registerWrite b pg 0x100 (.write v)).wellFormed = true →
    let w := viaOf b pg
    d.pageOf w pg = some .ft → d.accepts w .ft FT_CTRL.COAL_MS v = true →
    let ms := FT_CTRL.COAL_MS.get v
    (ms < 1 ∨ 1000 < ms ∨ FT_CTRL.FAULT_MIN.get v = 7 →
      exec (.registerWrite b pg 0x100 (.write v)) s = .next (s.after (d.watchAll (fun x => x.logErr .ft 0x363))) ∧
      let e := d.logErr .ft 0x363
      (∀ f ∈ [FT_CTRL.COAL_MS, FT_CTRL.FAULT_MIN, FT_CTRL.RING_MSG], e.rd .ft f = d.rd .ft f) ∧
      e.rd .ft ERR_COUNT.COUNT = min (d.rd .ft ERR_COUNT.COUNT + 1) 0xffffffff ∧
      (d.rd .ft ERR_FIRST.CODE = 0 → e.rd .ft ERR_FIRST.CODE = 0x363)) ∧
    (1 ≤ ms → ms ≤ 1000 → FT_CTRL.FAULT_MIN.get v ≠ 7 →
      exec (.registerWrite b pg 0x100 (.write v)) s = .next (s.after (d.watchAll (fun x => x.wrPlain w .ft 0x100 v))))) ∧
  (∀ (s : State) (d : Dev), s.dev = d → ∀ b pg v (rmw : Bool),
    let c : Instr := if rmw then .tblRmw b pg v false else .tblWrite b pg v
    let o := if rmw then 3 else 2
    let w := viaOf b pg
    let arg := TBL_CMD.ARG.get v
    let d1 := d.tblStart .ft o arg
    let i := d1.rd .ft TBL_INDEX.INDEX
    let old := d1.viewEntry .ftClass i
    let e := if rmw then rmwImage arg old (d1.tblData .ft) else d1.tblData .ft
    let ms := FT_CLASS.W_MS.get e
    let act := FT_CLASS.ACTION.get e
    c.wellFormed = true → b.func = 0 → d.pageOf w pg = some .ft → d.accepts w .ft TBL_CMD.OP (TBL_CMD.OP.set v o) = true →
    d.rd .ft TBL_STAT.BUSY = 0 → d1.tblPick .ft = some (.ftClass, false) → i < 64 →
    FT_CLASS.N.get e = 0 ∨ ms < 1 ∨ 3600000 < ms ∨ act = 6 ∨ act = 7 ∨
      ((act = 2 ∨ act = 5) ∧ (ftRow i).scope ∈ [0, 1, 5]) ∨
      FT_CLASS.SCOPE.get e ≠ d1.view .ftClass i FT_CLASS.SCOPE ∨ FT_CLASS.FIXED.get e ≠ d1.view .ftClass i FT_CLASS.FIXED →
    exec c s = .next (s.after (d.watchAll (fun x => (x.tblStart .ft o arg).tblKeep .ft (TblCmd.fail 0x360)))))

end Slice0Statements
end

