-- ==== Sys2Proof/Laws/Store.lean ====
section
/-! SUPPORT. Laws of the sparse store: read after write, and that every operation keeps the canonical form. -/

namespace Sys2Proof.Machine

variable {α : Type}

/-- Reading the key just listed. -/
@[simp] theorem Store.get_ins_same (d : α) (st : Store α) (q : Nat) (v : α) : (st.ins q v).get d q = v := by
  induction st with
  | nil => simp [Store.ins, Store.get]
  | cons e t ih =>
    obtain ⟨k, w⟩ := e
    by_cases h : q < k
    · simp [Store.ins, Store.get, h]
    · by_cases h2 : q = k
      · subst h2; simp [Store.ins, Store.get]
      · simp [Store.ins, Store.get, h, h2, Ne.symm h2, ih]

/-- Reading another key than the one listed. -/
theorem Store.get_ins_other (d : α) (st : Store α) (q k : Nat) (v : α) (h : k ≠ q) :
    (st.ins q v).get d k = st.get d k := by
  induction st with
  | nil => simp [Store.ins, Store.get, Ne.symm h]
  | cons e t ih =>
    obtain ⟨j, w⟩ := e
    by_cases h1 : q < j
    · simp [Store.ins, Store.get, h1, Ne.symm h]
    · by_cases h2 : q = j
      · subst h2; simp [Store.ins, Store.get, Ne.symm h]
      · simp [Store.ins, Store.get, h1, h2, ih]

/-- Reading another key than the one taken out. -/
theorem Store.get_del_other (d : α) (st : Store α) (q k : Nat) (h : k ≠ q) : (st.del q).get d k = st.get d k := by
  induction st with
  | nil => rfl
  | cons e t ih =>
    obtain ⟨j, w⟩ := e
    by_cases h1 : j = q
    · subst h1
      simpa [Store.del, Store.get, Ne.symm h] using ih
    · by_cases h2 : j = k
      · simp [Store.del, Store.get, h2, h]
      · simpa [Store.del, Store.get, h1, h2] using ih

/-- Reading the key taken out. -/
@[simp] theorem Store.get_del_same (d : α) (st : Store α) (q : Nat) : (st.del q).get d q = d := by
  induction st with
  | nil => rfl
  | cons e t ih =>
    obtain ⟨j, w⟩ := e
    by_cases h1 : j = q
    · subst h1; simpa [Store.del] using ih
    · simpa [Store.del, Store.get, h1] using ih

/-- A read after a write of the same key gives the value written. -/
@[simp] theorem Store.get_put_same [DecidableEq α] (d : α) (st : Store α) (q : Nat) (v : α) :
    (st.put d q v).get d q = v := by
  by_cases h : v = d
  · simp [Store.put, h]
  · simp [Store.put, h]

/-- A write leaves every other key alone, whatever default it is read with. -/
theorem Store.get_put_other [DecidableEq α] (d e : α) (st : Store α) (q k : Nat) (v : α) (h : k ≠ q) :
    (st.put d q v).get e k = st.get e k := by
  by_cases h1 : v = d
  · simp [Store.put, h1, Store.get_del_other e st q k h]
  · simp [Store.put, h1, Store.get_ins_other e st q k v h]

/-- Every key of a rising store lies above one below its first. -/
theorem Store.rising_bound {k : Nat} {w : α} {t : Store α} (h : Store.rising ((k, w) :: t) = true) :
    ∀ e ∈ t, k < e.1 := by
  induction t generalizing k w with
  | nil => simp
  | cons e t ih =>
    obtain ⟨j, x⟩ := e
    simp only [Store.rising, Bool.and_eq_true, decide_eq_true_eq] at h
    intro e he
    rcases List.mem_cons.mp he with rfl | he
    · exact h.1
    · exact Nat.lt_trans h.1 (ih h.2 e he)

/-- The tail of a rising store is rising. -/
theorem Store.rising_tail {e : Nat × α} {t : Store α} (h : Store.rising (e :: t) = true) : Store.rising t = true := by
  cases t with
  | nil => rfl
  | cons x t => obtain ⟨k, v⟩ := e; obtain ⟨j, w⟩ := x; simp [Store.rising] at h; exact h.2

/-- A key below every key of a rising store goes in front of it. -/
theorem Store.rising_cons {k : Nat} {v : α} {t : Store α} (h : Store.rising t = true) (hb : ∀ e ∈ t, k < e.1) :
    Store.rising ((k, v) :: t) = true := by
  cases t with
  | nil => rfl
  | cons x t =>
    obtain ⟨j, w⟩ := x
    simp [Store.rising, h]
    exact hb (j, w) (by simp)

/-- Keeping some entries keeps the order. -/
theorem Store.rising_filter (p : Nat × α → Bool) (st : Store α) (h : st.rising = true) :
    Store.rising (List.filter p st) = true := by
  induction st with
  | nil => rfl
  | cons e t ih =>
    have ht := ih (Store.rising_tail h)
    by_cases hp : p e
    · obtain ⟨k, v⟩ := e
      simp only [List.filter_cons, hp, if_true]
      exact Store.rising_cons ht (fun x hx => Store.rising_bound h x (List.mem_filter.mp hx).1)
    · simpa [hp] using ht

/-- The entries of a store with one key listed. -/
theorem Store.mem_ins {st : Store α} {q : Nat} {v : α} {e : Nat × α} (h : e ∈ st.ins q v) : e = (q, v) ∨ e ∈ st := by
  induction st with
  | nil => simpa [Store.ins] using h
  | cons x t ih =>
    obtain ⟨k, w⟩ := x
    by_cases h1 : q < k
    · simpa [Store.ins, h1] using h
    · by_cases h2 : q = k
      · subst h2
        simp [Store.ins] at h
        rcases h with h | h <;> simp [h]
      · simp [Store.ins, h1, h2] at h
        rcases h with h | h
        · simp [h]
        · rcases ih h with h | h <;> simp [h]

/-- Listing a key keeps the order. -/
theorem Store.rising_ins (st : Store α) (q : Nat) (v : α) (h : st.rising = true) : (st.ins q v).rising = true := by
  induction st with
  | nil => rfl
  | cons x t ih =>
    obtain ⟨k, w⟩ := x
    by_cases h1 : q < k
    · simp [Store.ins, h1, Store.rising, h]
    · by_cases h2 : q = k
      · subst h2
        simp only [Store.ins, Nat.lt_irrefl, if_false, if_true]
        exact Store.rising_cons (Store.rising_tail h) (Store.rising_bound h)
      · simp only [Store.ins, h1, h2, if_false]
        refine Store.rising_cons (ih (Store.rising_tail h)) ?_
        intro e he
        rcases Store.mem_ins he with rfl | he
        · exact Nat.lt_of_le_of_ne (Nat.not_lt.mp h1) (Ne.symm h2)
        · exact Store.rising_bound h e he

/-- Keeping keys keeps the canonical form. -/
theorem Store.wf_keep [DecidableEq α] (d : Nat → α) (p : Nat → Bool) (st : Store α) (h : st.wf d = true) :
    (st.keep p).wf d = true := by
  simp only [Store.wf, Bool.and_eq_true, List.all_eq_true] at h ⊢
  exact ⟨Store.rising_filter _ st h.1, fun e he => h.2 e (List.mem_filter.mp he).1⟩

/-- Taking a key out keeps the canonical form. -/
theorem Store.wf_del [DecidableEq α] (d : Nat → α) (q : Nat) (st : Store α) (h : st.wf d = true) :
    (st.del q).wf d = true := by
  simp only [Store.wf, Bool.and_eq_true, List.all_eq_true] at h ⊢
  exact ⟨Store.rising_filter _ st h.1, fun e he => h.2 e (List.mem_filter.mp he).1⟩

/-- A write keeps the canonical form. -/
theorem Store.wf_put [DecidableEq α] (d : Nat → α) (st : Store α) (q : Nat) (v : α) (h : st.wf d = true) :
    (st.put (d q) q v).wf d = true := by
  by_cases hv : v = d q
  · simp only [Store.put, hv, if_true]; exact Store.wf_del d q st h
  · simp only [Store.put, hv, if_false]
    simp only [Store.wf, Bool.and_eq_true, List.all_eq_true] at h ⊢
    refine ⟨Store.rising_ins st q v h.1, fun e he => ?_⟩
    rcases Store.mem_ins he with rfl | he
    · simpa using hv
    · exact h.2 e he

/-- Keeping keys: a kept key reads as before, another as unlisted. -/
theorem Store.get_keep (d : α) (p : Nat → Bool) (st : Store α) (q : Nat) :
    (st.keep p).get d q = if p q then st.get d q else d := by
  induction st with
  | nil => by_cases h : p q <;> simp [Store.keep, Store.get, h]
  | cons e t ih =>
    obtain ⟨k, v⟩ := e
    by_cases hp : p k
    · by_cases hk : k = q
      · subst hk; simp [Store.keep, Store.get, hp]
      · simpa [Store.keep, Store.get, hp, hk] using ih
    · by_cases hk : k = q
      · subst hk; simpa [Store.keep, Store.get, hp] using ih
      · simpa [Store.keep, Store.get, hp, hk] using ih

end Sys2Proof.Machine
end

