-- ==== Sys2Proof/Laws/State.lean ====
section
/-! SUPPORT. Laws of the state's updates: what each leaves alone, reads after writes of register and table fields, and
what the end of a step does. -/

namespace Sys2Proof.Machine

variable (d : Dev)

/-! ## What each update leaves alone -/

@[simp] theorem Dev.wr_tbls (p : Page) (f : Fld) (v : Nat) : (d.wr p f v).tbls = d.tbls := rfl
@[simp] theorem Dev.wr_shads (p : Page) (f : Fld) (v : Nat) : (d.wr p f v).shads = d.shads := rfl
@[simp] theorem Dev.wr_fab (p : Page) (f : Fld) (v : Nat) : (d.wr p f v).fab = d.fab := rfl
@[simp] theorem Dev.wr_hif (p : Page) (f : Fld) (v : Nat) : (d.wr p f v).hif = d.hif := rfl
@[simp] theorem Dev.wr_freeCtr (p : Page) (f : Fld) (v : Nat) : (d.wr p f v).freeCtr = d.freeCtr := rfl
@[simp] theorem Dev.wr_now (p : Page) (f : Fld) (v : Nat) : (d.wr p f v).now = d.now := rfl
@[simp] theorem Dev.wr_out (p : Page) (f : Fld) (v : Nat) : (d.wr p f v).out = d.out := rfl
@[simp] theorem Dev.wr_ft (p : Page) (f : Fld) (v : Nat) : (d.wr p f v).ft = d.ft := rfl
@[simp] theorem Dev.wr_clk (p : Page) (f : Fld) (v : Nat) : (d.wr p f v).clk = d.clk := rfl
@[simp] theorem Dev.wr_pwr (p : Page) (f : Fld) (v : Nat) : (d.wr p f v).pwr = d.pwr := rfl
@[simp] theorem Dev.wr_sup (p : Page) (f : Fld) (v : Nat) : (d.wr p f v).sup = d.sup := rfl
@[simp] theorem Dev.wr_time (p : Page) (f : Fld) (v : Nat) : (d.wr p f v).time = d.time := rfl
@[simp] theorem Dev.wr_te (p : Page) (f : Fld) (v : Nat) : (d.wr p f v).te = d.te := rfl
@[simp] theorem Dev.wr_grp (p : Page) (f : Fld) (v : Nat) : (d.wr p f v).grp = d.grp := rfl
@[simp] theorem Dev.wr_eng (p : Page) (f : Fld) (v : Nat) : (d.wr p f v).eng = d.eng := rfl
@[simp] theorem Dev.wr_lanes (p : Page) (f : Fld) (v : Nat) : (d.wr p f v).lanes = d.lanes := rfl
@[simp] theorem Dev.wr_path (p : Page) (f : Fld) (v : Nat) : (d.wr p f v).path = d.path := rfl
@[simp] theorem Dev.wr_tm (p : Page) (f : Fld) (v : Nat) : (d.wr p f v).tm = d.tm := rfl

@[simp] theorem Dev.wrT_regs (t : Tbl) (i : Nat) (f : Fld) (v : Nat) : (d.wrT t i f v).regs = d.regs := rfl
@[simp] theorem Dev.wrT_shads (t : Tbl) (i : Nat) (f : Fld) (v : Nat) : (d.wrT t i f v).shads = d.shads := rfl
@[simp] theorem Dev.wrT_fab (t : Tbl) (i : Nat) (f : Fld) (v : Nat) : (d.wrT t i f v).fab = d.fab := rfl
@[simp] theorem Dev.wrT_hif (t : Tbl) (i : Nat) (f : Fld) (v : Nat) : (d.wrT t i f v).hif = d.hif := rfl
@[simp] theorem Dev.wrT_freeCtr (t : Tbl) (i : Nat) (f : Fld) (v : Nat) : (d.wrT t i f v).freeCtr = d.freeCtr := rfl
@[simp] theorem Dev.wrT_now (t : Tbl) (i : Nat) (f : Fld) (v : Nat) : (d.wrT t i f v).now = d.now := rfl
@[simp] theorem Dev.wrT_out (t : Tbl) (i : Nat) (f : Fld) (v : Nat) : (d.wrT t i f v).out = d.out := rfl
@[simp] theorem Dev.wrT_ft (t : Tbl) (i : Nat) (f : Fld) (v : Nat) : (d.wrT t i f v).ft = d.ft := rfl
@[simp] theorem Dev.wrT_clk (t : Tbl) (i : Nat) (f : Fld) (v : Nat) : (d.wrT t i f v).clk = d.clk := rfl
@[simp] theorem Dev.wrT_pwr (t : Tbl) (i : Nat) (f : Fld) (v : Nat) : (d.wrT t i f v).pwr = d.pwr := rfl
@[simp] theorem Dev.wrT_sup (t : Tbl) (i : Nat) (f : Fld) (v : Nat) : (d.wrT t i f v).sup = d.sup := rfl
@[simp] theorem Dev.wrT_time (t : Tbl) (i : Nat) (f : Fld) (v : Nat) : (d.wrT t i f v).time = d.time := rfl
@[simp] theorem Dev.wrT_te (t : Tbl) (i : Nat) (f : Fld) (v : Nat) : (d.wrT t i f v).te = d.te := rfl
@[simp] theorem Dev.wrT_grp (t : Tbl) (i : Nat) (f : Fld) (v : Nat) : (d.wrT t i f v).grp = d.grp := rfl
@[simp] theorem Dev.wrT_eng (t : Tbl) (i : Nat) (f : Fld) (v : Nat) : (d.wrT t i f v).eng = d.eng := rfl
@[simp] theorem Dev.wrT_lanes (t : Tbl) (i : Nat) (f : Fld) (v : Nat) : (d.wrT t i f v).lanes = d.lanes := rfl
@[simp] theorem Dev.wrT_path (t : Tbl) (i : Nat) (f : Fld) (v : Nat) : (d.wrT t i f v).path = d.path := rfl
@[simp] theorem Dev.wrT_tm (t : Tbl) (i : Nat) (f : Fld) (v : Nat) : (d.wrT t i f v).tm = d.tm := rfl

@[simp] theorem Dev.emit_regs (o : Out) : (d.emit o).regs = d.regs := rfl
@[simp] theorem Dev.emit_tbls (o : Out) : (d.emit o).tbls = d.tbls := rfl
@[simp] theorem Dev.emit_shads (o : Out) : (d.emit o).shads = d.shads := rfl
@[simp] theorem Dev.emit_fab (o : Out) : (d.emit o).fab = d.fab := rfl
@[simp] theorem Dev.emit_hif (o : Out) : (d.emit o).hif = d.hif := rfl
@[simp] theorem Dev.emit_freeCtr (o : Out) : (d.emit o).freeCtr = d.freeCtr := rfl
@[simp] theorem Dev.emit_now (o : Out) : (d.emit o).now = d.now := rfl
@[simp] theorem Dev.emit_ft (o : Out) : (d.emit o).ft = d.ft := rfl
@[simp] theorem Dev.emit_clk (o : Out) : (d.emit o).clk = d.clk := rfl
@[simp] theorem Dev.emit_pwr (o : Out) : (d.emit o).pwr = d.pwr := rfl
@[simp] theorem Dev.emit_sup (o : Out) : (d.emit o).sup = d.sup := rfl
@[simp] theorem Dev.emit_time (o : Out) : (d.emit o).time = d.time := rfl
@[simp] theorem Dev.emit_te (o : Out) : (d.emit o).te = d.te := rfl
@[simp] theorem Dev.emit_grp (o : Out) : (d.emit o).grp = d.grp := rfl
@[simp] theorem Dev.emit_eng (o : Out) : (d.emit o).eng = d.eng := rfl
@[simp] theorem Dev.emit_lanes (o : Out) : (d.emit o).lanes = d.lanes := rfl
@[simp] theorem Dev.emit_path (o : Out) : (d.emit o).path = d.path := rfl
@[simp] theorem Dev.emit_tm (o : Out) : (d.emit o).tm = d.tm := rfl

@[simp] theorem Dev.freed_regs (k : Nat) : (d.freed k).regs = d.regs := rfl
@[simp] theorem Dev.freed_tbls (k : Nat) : (d.freed k).tbls = d.tbls := rfl
@[simp] theorem Dev.freed_shads (k : Nat) : (d.freed k).shads = d.shads := rfl
@[simp] theorem Dev.freed_fab (k : Nat) : (d.freed k).fab = d.fab := rfl
@[simp] theorem Dev.freed_hif (k : Nat) : (d.freed k).hif = d.hif := rfl
@[simp] theorem Dev.freed_now (k : Nat) : (d.freed k).now = d.now := rfl
@[simp] theorem Dev.freed_out (k : Nat) : (d.freed k).out = d.out := rfl
@[simp] theorem Dev.freed_ft (k : Nat) : (d.freed k).ft = d.ft := rfl
@[simp] theorem Dev.freed_clk (k : Nat) : (d.freed k).clk = d.clk := rfl
@[simp] theorem Dev.freed_pwr (k : Nat) : (d.freed k).pwr = d.pwr := rfl
@[simp] theorem Dev.freed_sup (k : Nat) : (d.freed k).sup = d.sup := rfl
@[simp] theorem Dev.freed_time (k : Nat) : (d.freed k).time = d.time := rfl
@[simp] theorem Dev.freed_te (k : Nat) : (d.freed k).te = d.te := rfl
@[simp] theorem Dev.freed_grp (k : Nat) : (d.freed k).grp = d.grp := rfl
@[simp] theorem Dev.freed_eng (k : Nat) : (d.freed k).eng = d.eng := rfl
@[simp] theorem Dev.freed_lanes (k : Nat) : (d.freed k).lanes = d.lanes := rfl
@[simp] theorem Dev.freed_path (k : Nat) : (d.freed k).path = d.path := rfl
@[simp] theorem Dev.freed_tm (k : Nat) : (d.freed k).tm = d.tm := rfl

@[simp] theorem Dev.reportEv_regs (e : FtEv) : (d.reportEv e).regs = d.regs := rfl
@[simp] theorem Dev.reportEv_tbls (e : FtEv) : (d.reportEv e).tbls = d.tbls := rfl
@[simp] theorem Dev.reportEv_shads (e : FtEv) : (d.reportEv e).shads = d.shads := rfl
@[simp] theorem Dev.reportEv_fab (e : FtEv) : (d.reportEv e).fab = d.fab := rfl
@[simp] theorem Dev.reportEv_hif (e : FtEv) : (d.reportEv e).hif = d.hif := rfl
@[simp] theorem Dev.reportEv_freeCtr (e : FtEv) : (d.reportEv e).freeCtr = d.freeCtr := rfl
@[simp] theorem Dev.reportEv_now (e : FtEv) : (d.reportEv e).now = d.now := rfl
@[simp] theorem Dev.reportEv_out (e : FtEv) : (d.reportEv e).out = d.out := rfl
@[simp] theorem Dev.reportEv_clk (e : FtEv) : (d.reportEv e).clk = d.clk := rfl
@[simp] theorem Dev.reportEv_pwr (e : FtEv) : (d.reportEv e).pwr = d.pwr := rfl
@[simp] theorem Dev.reportEv_sup (e : FtEv) : (d.reportEv e).sup = d.sup := rfl
@[simp] theorem Dev.reportEv_time (e : FtEv) : (d.reportEv e).time = d.time := rfl
@[simp] theorem Dev.reportEv_te (e : FtEv) : (d.reportEv e).te = d.te := rfl
@[simp] theorem Dev.reportEv_grp (e : FtEv) : (d.reportEv e).grp = d.grp := rfl
@[simp] theorem Dev.reportEv_eng (e : FtEv) : (d.reportEv e).eng = d.eng := rfl
@[simp] theorem Dev.reportEv_lanes (e : FtEv) : (d.reportEv e).lanes = d.lanes := rfl
@[simp] theorem Dev.reportEv_path (e : FtEv) : (d.reportEv e).path = d.path := rfl
@[simp] theorem Dev.reportEv_tm (e : FtEv) : (d.reportEv e).tm = d.tm := rfl

@[simp] theorem Dev.setDom_regs (k : Nat) (v : Dom) : (d.setDom k v).regs = d.regs := rfl
@[simp] theorem Dev.setDom_tbls (k : Nat) (v : Dom) : (d.setDom k v).tbls = d.tbls := rfl
@[simp] theorem Dev.setDom_shads (k : Nat) (v : Dom) : (d.setDom k v).shads = d.shads := rfl
@[simp] theorem Dev.setDom_fab (k : Nat) (v : Dom) : (d.setDom k v).fab = d.fab := rfl
@[simp] theorem Dev.setDom_hif (k : Nat) (v : Dom) : (d.setDom k v).hif = d.hif := rfl
@[simp] theorem Dev.setDom_freeCtr (k : Nat) (v : Dom) : (d.setDom k v).freeCtr = d.freeCtr := rfl
@[simp] theorem Dev.setDom_now (k : Nat) (v : Dom) : (d.setDom k v).now = d.now := rfl
@[simp] theorem Dev.setDom_out (k : Nat) (v : Dom) : (d.setDom k v).out = d.out := rfl
@[simp] theorem Dev.setDom_ft (k : Nat) (v : Dom) : (d.setDom k v).ft = d.ft := rfl
@[simp] theorem Dev.setDom_pwr (k : Nat) (v : Dom) : (d.setDom k v).pwr = d.pwr := rfl
@[simp] theorem Dev.setDom_sup (k : Nat) (v : Dom) : (d.setDom k v).sup = d.sup := rfl
@[simp] theorem Dev.setDom_time (k : Nat) (v : Dom) : (d.setDom k v).time = d.time := rfl
@[simp] theorem Dev.setDom_te (k : Nat) (v : Dom) : (d.setDom k v).te = d.te := rfl
@[simp] theorem Dev.setDom_grp (k : Nat) (v : Dom) : (d.setDom k v).grp = d.grp := rfl
@[simp] theorem Dev.setDom_eng (k : Nat) (v : Dom) : (d.setDom k v).eng = d.eng := rfl
@[simp] theorem Dev.setDom_lanes (k : Nat) (v : Dom) : (d.setDom k v).lanes = d.lanes := rfl
@[simp] theorem Dev.setDom_path (k : Nat) (v : Dom) : (d.setDom k v).path = d.path := rfl
@[simp] theorem Dev.setDom_tm (k : Nat) (v : Dom) : (d.setDom k v).tm = d.tm := rfl

@[simp] theorem Dev.setRing_regs (f r : Nat) (v : Ring) : (d.setRing f r v).regs = d.regs := rfl
@[simp] theorem Dev.setRing_tbls (f r : Nat) (v : Ring) : (d.setRing f r v).tbls = d.tbls := rfl
@[simp] theorem Dev.setRing_shads (f r : Nat) (v : Ring) : (d.setRing f r v).shads = d.shads := rfl
@[simp] theorem Dev.setRing_fab (f r : Nat) (v : Ring) : (d.setRing f r v).fab = d.fab := rfl
@[simp] theorem Dev.setRing_freeCtr (f r : Nat) (v : Ring) : (d.setRing f r v).freeCtr = d.freeCtr := rfl
@[simp] theorem Dev.setRing_now (f r : Nat) (v : Ring) : (d.setRing f r v).now = d.now := rfl
@[simp] theorem Dev.setRing_out (f r : Nat) (v : Ring) : (d.setRing f r v).out = d.out := rfl
@[simp] theorem Dev.setRing_ft (f r : Nat) (v : Ring) : (d.setRing f r v).ft = d.ft := rfl
@[simp] theorem Dev.setRing_clk (f r : Nat) (v : Ring) : (d.setRing f r v).clk = d.clk := rfl
@[simp] theorem Dev.setRing_pwr (f r : Nat) (v : Ring) : (d.setRing f r v).pwr = d.pwr := rfl
@[simp] theorem Dev.setRing_sup (f r : Nat) (v : Ring) : (d.setRing f r v).sup = d.sup := rfl
@[simp] theorem Dev.setRing_time (f r : Nat) (v : Ring) : (d.setRing f r v).time = d.time := rfl
@[simp] theorem Dev.setRing_te (f r : Nat) (v : Ring) : (d.setRing f r v).te = d.te := rfl
@[simp] theorem Dev.setRing_grp (f r : Nat) (v : Ring) : (d.setRing f r v).grp = d.grp := rfl
@[simp] theorem Dev.setRing_eng (f r : Nat) (v : Ring) : (d.setRing f r v).eng = d.eng := rfl
@[simp] theorem Dev.setRing_lanes (f r : Nat) (v : Ring) : (d.setRing f r v).lanes = d.lanes := rfl
@[simp] theorem Dev.setRing_path (f r : Nat) (v : Ring) : (d.setRing f r v).path = d.path := rfl
@[simp] theorem Dev.setRing_tm (f r : Nat) (v : Ring) : (d.setRing f r v).tm = d.tm := rfl

@[simp] theorem Dev.setFr_regs (n : Nat) (v : Framer) : (d.setFr n v).regs = d.regs := rfl
@[simp] theorem Dev.setFr_tbls (n : Nat) (v : Framer) : (d.setFr n v).tbls = d.tbls := rfl
@[simp] theorem Dev.setFr_shads (n : Nat) (v : Framer) : (d.setFr n v).shads = d.shads := rfl
@[simp] theorem Dev.setFr_fab (n : Nat) (v : Framer) : (d.setFr n v).fab = d.fab := rfl
@[simp] theorem Dev.setFr_hif (n : Nat) (v : Framer) : (d.setFr n v).hif = d.hif := rfl
@[simp] theorem Dev.setFr_freeCtr (n : Nat) (v : Framer) : (d.setFr n v).freeCtr = d.freeCtr := rfl
@[simp] theorem Dev.setFr_now (n : Nat) (v : Framer) : (d.setFr n v).now = d.now := rfl
@[simp] theorem Dev.setFr_out (n : Nat) (v : Framer) : (d.setFr n v).out = d.out := rfl
@[simp] theorem Dev.setFr_ft (n : Nat) (v : Framer) : (d.setFr n v).ft = d.ft := rfl
@[simp] theorem Dev.setFr_clk (n : Nat) (v : Framer) : (d.setFr n v).clk = d.clk := rfl
@[simp] theorem Dev.setFr_pwr (n : Nat) (v : Framer) : (d.setFr n v).pwr = d.pwr := rfl
@[simp] theorem Dev.setFr_sup (n : Nat) (v : Framer) : (d.setFr n v).sup = d.sup := rfl
@[simp] theorem Dev.setFr_time (n : Nat) (v : Framer) : (d.setFr n v).time = d.time := rfl
@[simp] theorem Dev.setFr_grp (n : Nat) (v : Framer) : (d.setFr n v).grp = d.grp := rfl
@[simp] theorem Dev.setFr_eng (n : Nat) (v : Framer) : (d.setFr n v).eng = d.eng := rfl
@[simp] theorem Dev.setFr_lanes (n : Nat) (v : Framer) : (d.setFr n v).lanes = d.lanes := rfl
@[simp] theorem Dev.setFr_path (n : Nat) (v : Framer) : (d.setFr n v).path = d.path := rfl
@[simp] theorem Dev.setFr_tm (n : Nat) (v : Framer) : (d.setFr n v).tm = d.tm := rfl

@[simp] theorem Dev.setRx_regs (n : Nat) (v : Rx) : (d.setRx n v).regs = d.regs := rfl
@[simp] theorem Dev.setRx_tbls (n : Nat) (v : Rx) : (d.setRx n v).tbls = d.tbls := rfl
@[simp] theorem Dev.setRx_shads (n : Nat) (v : Rx) : (d.setRx n v).shads = d.shads := rfl
@[simp] theorem Dev.setRx_fab (n : Nat) (v : Rx) : (d.setRx n v).fab = d.fab := rfl
@[simp] theorem Dev.setRx_hif (n : Nat) (v : Rx) : (d.setRx n v).hif = d.hif := rfl
@[simp] theorem Dev.setRx_freeCtr (n : Nat) (v : Rx) : (d.setRx n v).freeCtr = d.freeCtr := rfl
@[simp] theorem Dev.setRx_now (n : Nat) (v : Rx) : (d.setRx n v).now = d.now := rfl
@[simp] theorem Dev.setRx_out (n : Nat) (v : Rx) : (d.setRx n v).out = d.out := rfl
@[simp] theorem Dev.setRx_ft (n : Nat) (v : Rx) : (d.setRx n v).ft = d.ft := rfl
@[simp] theorem Dev.setRx_clk (n : Nat) (v : Rx) : (d.setRx n v).clk = d.clk := rfl
@[simp] theorem Dev.setRx_pwr (n : Nat) (v : Rx) : (d.setRx n v).pwr = d.pwr := rfl
@[simp] theorem Dev.setRx_sup (n : Nat) (v : Rx) : (d.setRx n v).sup = d.sup := rfl
@[simp] theorem Dev.setRx_time (n : Nat) (v : Rx) : (d.setRx n v).time = d.time := rfl
@[simp] theorem Dev.setRx_grp (n : Nat) (v : Rx) : (d.setRx n v).grp = d.grp := rfl
@[simp] theorem Dev.setRx_eng (n : Nat) (v : Rx) : (d.setRx n v).eng = d.eng := rfl
@[simp] theorem Dev.setRx_lanes (n : Nat) (v : Rx) : (d.setRx n v).lanes = d.lanes := rfl
@[simp] theorem Dev.setRx_path (n : Nat) (v : Rx) : (d.setRx n v).path = d.path := rfl
@[simp] theorem Dev.setRx_tm (n : Nat) (v : Rx) : (d.setRx n v).tm = d.tm := rfl

@[simp] theorem Dev.setSq_regs (n : Nat) (v : Seq) : (d.setSq n v).regs = d.regs := rfl
@[simp] theorem Dev.setSq_tbls (n : Nat) (v : Seq) : (d.setSq n v).tbls = d.tbls := rfl
@[simp] theorem Dev.setSq_shads (n : Nat) (v : Seq) : (d.setSq n v).shads = d.shads := rfl
@[simp] theorem Dev.setSq_fab (n : Nat) (v : Seq) : (d.setSq n v).fab = d.fab := rfl
@[simp] theorem Dev.setSq_hif (n : Nat) (v : Seq) : (d.setSq n v).hif = d.hif := rfl
@[simp] theorem Dev.setSq_freeCtr (n : Nat) (v : Seq) : (d.setSq n v).freeCtr = d.freeCtr := rfl
@[simp] theorem Dev.setSq_now (n : Nat) (v : Seq) : (d.setSq n v).now = d.now := rfl
@[simp] theorem Dev.setSq_out (n : Nat) (v : Seq) : (d.setSq n v).out = d.out := rfl
@[simp] theorem Dev.setSq_ft (n : Nat) (v : Seq) : (d.setSq n v).ft = d.ft := rfl
@[simp] theorem Dev.setSq_clk (n : Nat) (v : Seq) : (d.setSq n v).clk = d.clk := rfl
@[simp] theorem Dev.setSq_pwr (n : Nat) (v : Seq) : (d.setSq n v).pwr = d.pwr := rfl
@[simp] theorem Dev.setSq_sup (n : Nat) (v : Seq) : (d.setSq n v).sup = d.sup := rfl
@[simp] theorem Dev.setSq_time (n : Nat) (v : Seq) : (d.setSq n v).time = d.time := rfl
@[simp] theorem Dev.setSq_grp (n : Nat) (v : Seq) : (d.setSq n v).grp = d.grp := rfl
@[simp] theorem Dev.setSq_eng (n : Nat) (v : Seq) : (d.setSq n v).eng = d.eng := rfl
@[simp] theorem Dev.setSq_lanes (n : Nat) (v : Seq) : (d.setSq n v).lanes = d.lanes := rfl
@[simp] theorem Dev.setSq_path (n : Nat) (v : Seq) : (d.setSq n v).path = d.path := rfl
@[simp] theorem Dev.setSq_tm (n : Nat) (v : Seq) : (d.setSq n v).tm = d.tm := rfl

@[simp] theorem Dev.setBd_regs (g : Nat) (v : BdGrp) : (d.setBd g v).regs = d.regs := rfl
@[simp] theorem Dev.setBd_tbls (g : Nat) (v : BdGrp) : (d.setBd g v).tbls = d.tbls := rfl
@[simp] theorem Dev.setBd_shads (g : Nat) (v : BdGrp) : (d.setBd g v).shads = d.shads := rfl
@[simp] theorem Dev.setBd_fab (g : Nat) (v : BdGrp) : (d.setBd g v).fab = d.fab := rfl
@[simp] theorem Dev.setBd_hif (g : Nat) (v : BdGrp) : (d.setBd g v).hif = d.hif := rfl
@[simp] theorem Dev.setBd_freeCtr (g : Nat) (v : BdGrp) : (d.setBd g v).freeCtr = d.freeCtr := rfl
@[simp] theorem Dev.setBd_now (g : Nat) (v : BdGrp) : (d.setBd g v).now = d.now := rfl
@[simp] theorem Dev.setBd_out (g : Nat) (v : BdGrp) : (d.setBd g v).out = d.out := rfl
@[simp] theorem Dev.setBd_ft (g : Nat) (v : BdGrp) : (d.setBd g v).ft = d.ft := rfl
@[simp] theorem Dev.setBd_clk (g : Nat) (v : BdGrp) : (d.setBd g v).clk = d.clk := rfl
@[simp] theorem Dev.setBd_pwr (g : Nat) (v : BdGrp) : (d.setBd g v).pwr = d.pwr := rfl
@[simp] theorem Dev.setBd_sup (g : Nat) (v : BdGrp) : (d.setBd g v).sup = d.sup := rfl
@[simp] theorem Dev.setBd_time (g : Nat) (v : BdGrp) : (d.setBd g v).time = d.time := rfl
@[simp] theorem Dev.setBd_te (g : Nat) (v : BdGrp) : (d.setBd g v).te = d.te := rfl
@[simp] theorem Dev.setBd_eng (g : Nat) (v : BdGrp) : (d.setBd g v).eng = d.eng := rfl
@[simp] theorem Dev.setBd_lanes (g : Nat) (v : BdGrp) : (d.setBd g v).lanes = d.lanes := rfl
@[simp] theorem Dev.setBd_path (g : Nat) (v : BdGrp) : (d.setBd g v).path = d.path := rfl
@[simp] theorem Dev.setBd_tm (g : Nat) (v : BdGrp) : (d.setBd g v).tm = d.tm := rfl

@[simp] theorem Dev.setPx_regs (n : Nat) (v : PxTree) : (d.setPx n v).regs = d.regs := rfl
@[simp] theorem Dev.setPx_tbls (n : Nat) (v : PxTree) : (d.setPx n v).tbls = d.tbls := rfl
@[simp] theorem Dev.setPx_shads (n : Nat) (v : PxTree) : (d.setPx n v).shads = d.shads := rfl
@[simp] theorem Dev.setPx_fab (n : Nat) (v : PxTree) : (d.setPx n v).fab = d.fab := rfl
@[simp] theorem Dev.setPx_hif (n : Nat) (v : PxTree) : (d.setPx n v).hif = d.hif := rfl
@[simp] theorem Dev.setPx_freeCtr (n : Nat) (v : PxTree) : (d.setPx n v).freeCtr = d.freeCtr := rfl
@[simp] theorem Dev.setPx_now (n : Nat) (v : PxTree) : (d.setPx n v).now = d.now := rfl
@[simp] theorem Dev.setPx_out (n : Nat) (v : PxTree) : (d.setPx n v).out = d.out := rfl
@[simp] theorem Dev.setPx_ft (n : Nat) (v : PxTree) : (d.setPx n v).ft = d.ft := rfl
@[simp] theorem Dev.setPx_clk (n : Nat) (v : PxTree) : (d.setPx n v).clk = d.clk := rfl
@[simp] theorem Dev.setPx_pwr (n : Nat) (v : PxTree) : (d.setPx n v).pwr = d.pwr := rfl
@[simp] theorem Dev.setPx_sup (n : Nat) (v : PxTree) : (d.setPx n v).sup = d.sup := rfl
@[simp] theorem Dev.setPx_time (n : Nat) (v : PxTree) : (d.setPx n v).time = d.time := rfl
@[simp] theorem Dev.setPx_te (n : Nat) (v : PxTree) : (d.setPx n v).te = d.te := rfl
@[simp] theorem Dev.setPx_eng (n : Nat) (v : PxTree) : (d.setPx n v).eng = d.eng := rfl
@[simp] theorem Dev.setPx_lanes (n : Nat) (v : PxTree) : (d.setPx n v).lanes = d.lanes := rfl
@[simp] theorem Dev.setPx_path (n : Nat) (v : PxTree) : (d.setPx n v).path = d.path := rfl
@[simp] theorem Dev.setPx_tm (n : Nat) (v : PxTree) : (d.setPx n v).tm = d.tm := rfl

@[simp] theorem Dev.setLnk_regs (k : Nat) (v : PxLink) : (d.setLnk k v).regs = d.regs := rfl
@[simp] theorem Dev.setLnk_tbls (k : Nat) (v : PxLink) : (d.setLnk k v).tbls = d.tbls := rfl
@[simp] theorem Dev.setLnk_shads (k : Nat) (v : PxLink) : (d.setLnk k v).shads = d.shads := rfl
@[simp] theorem Dev.setLnk_fab (k : Nat) (v : PxLink) : (d.setLnk k v).fab = d.fab := rfl
@[simp] theorem Dev.setLnk_hif (k : Nat) (v : PxLink) : (d.setLnk k v).hif = d.hif := rfl
@[simp] theorem Dev.setLnk_freeCtr (k : Nat) (v : PxLink) : (d.setLnk k v).freeCtr = d.freeCtr := rfl
@[simp] theorem Dev.setLnk_now (k : Nat) (v : PxLink) : (d.setLnk k v).now = d.now := rfl
@[simp] theorem Dev.setLnk_out (k : Nat) (v : PxLink) : (d.setLnk k v).out = d.out := rfl
@[simp] theorem Dev.setLnk_ft (k : Nat) (v : PxLink) : (d.setLnk k v).ft = d.ft := rfl
@[simp] theorem Dev.setLnk_clk (k : Nat) (v : PxLink) : (d.setLnk k v).clk = d.clk := rfl
@[simp] theorem Dev.setLnk_pwr (k : Nat) (v : PxLink) : (d.setLnk k v).pwr = d.pwr := rfl
@[simp] theorem Dev.setLnk_sup (k : Nat) (v : PxLink) : (d.setLnk k v).sup = d.sup := rfl
@[simp] theorem Dev.setLnk_time (k : Nat) (v : PxLink) : (d.setLnk k v).time = d.time := rfl
@[simp] theorem Dev.setLnk_te (k : Nat) (v : PxLink) : (d.setLnk k v).te = d.te := rfl
@[simp] theorem Dev.setLnk_eng (k : Nat) (v : PxLink) : (d.setLnk k v).eng = d.eng := rfl
@[simp] theorem Dev.setLnk_lanes (k : Nat) (v : PxLink) : (d.setLnk k v).lanes = d.lanes := rfl
@[simp] theorem Dev.setLnk_path (k : Nat) (v : PxLink) : (d.setLnk k v).path = d.path := rfl
@[simp] theorem Dev.setLnk_tm (k : Nat) (v : PxLink) : (d.setLnk k v).tm = d.tm := rfl

@[simp] theorem Dev.setBw_regs (n : Nat) (v : BwTree) : (d.setBw n v).regs = d.regs := rfl
@[simp] theorem Dev.setBw_tbls (n : Nat) (v : BwTree) : (d.setBw n v).tbls = d.tbls := rfl
@[simp] theorem Dev.setBw_shads (n : Nat) (v : BwTree) : (d.setBw n v).shads = d.shads := rfl
@[simp] theorem Dev.setBw_fab (n : Nat) (v : BwTree) : (d.setBw n v).fab = d.fab := rfl
@[simp] theorem Dev.setBw_hif (n : Nat) (v : BwTree) : (d.setBw n v).hif = d.hif := rfl
@[simp] theorem Dev.setBw_freeCtr (n : Nat) (v : BwTree) : (d.setBw n v).freeCtr = d.freeCtr := rfl
@[simp] theorem Dev.setBw_now (n : Nat) (v : BwTree) : (d.setBw n v).now = d.now := rfl
@[simp] theorem Dev.setBw_out (n : Nat) (v : BwTree) : (d.setBw n v).out = d.out := rfl
@[simp] theorem Dev.setBw_ft (n : Nat) (v : BwTree) : (d.setBw n v).ft = d.ft := rfl
@[simp] theorem Dev.setBw_clk (n : Nat) (v : BwTree) : (d.setBw n v).clk = d.clk := rfl
@[simp] theorem Dev.setBw_pwr (n : Nat) (v : BwTree) : (d.setBw n v).pwr = d.pwr := rfl
@[simp] theorem Dev.setBw_sup (n : Nat) (v : BwTree) : (d.setBw n v).sup = d.sup := rfl
@[simp] theorem Dev.setBw_time (n : Nat) (v : BwTree) : (d.setBw n v).time = d.time := rfl
@[simp] theorem Dev.setBw_te (n : Nat) (v : BwTree) : (d.setBw n v).te = d.te := rfl
@[simp] theorem Dev.setBw_grp (n : Nat) (v : BwTree) : (d.setBw n v).grp = d.grp := rfl
@[simp] theorem Dev.setBw_lanes (n : Nat) (v : BwTree) : (d.setBw n v).lanes = d.lanes := rfl
@[simp] theorem Dev.setBw_path (n : Nat) (v : BwTree) : (d.setBw n v).path = d.path := rfl
@[simp] theorem Dev.setBw_tm (n : Nat) (v : BwTree) : (d.setBw n v).tm = d.tm := rfl

@[simp] theorem Dev.setHy_regs (n : Nat) (v : HyTree) : (d.setHy n v).regs = d.regs := rfl
@[simp] theorem Dev.setHy_tbls (n : Nat) (v : HyTree) : (d.setHy n v).tbls = d.tbls := rfl
@[simp] theorem Dev.setHy_shads (n : Nat) (v : HyTree) : (d.setHy n v).shads = d.shads := rfl
@[simp] theorem Dev.setHy_fab (n : Nat) (v : HyTree) : (d.setHy n v).fab = d.fab := rfl
@[simp] theorem Dev.setHy_hif (n : Nat) (v : HyTree) : (d.setHy n v).hif = d.hif := rfl
@[simp] theorem Dev.setHy_freeCtr (n : Nat) (v : HyTree) : (d.setHy n v).freeCtr = d.freeCtr := rfl
@[simp] theorem Dev.setHy_now (n : Nat) (v : HyTree) : (d.setHy n v).now = d.now := rfl
@[simp] theorem Dev.setHy_out (n : Nat) (v : HyTree) : (d.setHy n v).out = d.out := rfl
@[simp] theorem Dev.setHy_ft (n : Nat) (v : HyTree) : (d.setHy n v).ft = d.ft := rfl
@[simp] theorem Dev.setHy_clk (n : Nat) (v : HyTree) : (d.setHy n v).clk = d.clk := rfl
@[simp] theorem Dev.setHy_pwr (n : Nat) (v : HyTree) : (d.setHy n v).pwr = d.pwr := rfl
@[simp] theorem Dev.setHy_sup (n : Nat) (v : HyTree) : (d.setHy n v).sup = d.sup := rfl
@[simp] theorem Dev.setHy_time (n : Nat) (v : HyTree) : (d.setHy n v).time = d.time := rfl
@[simp] theorem Dev.setHy_te (n : Nat) (v : HyTree) : (d.setHy n v).te = d.te := rfl
@[simp] theorem Dev.setHy_grp (n : Nat) (v : HyTree) : (d.setHy n v).grp = d.grp := rfl
@[simp] theorem Dev.setHy_lanes (n : Nat) (v : HyTree) : (d.setHy n v).lanes = d.lanes := rfl
@[simp] theorem Dev.setHy_path (n : Nat) (v : HyTree) : (d.setHy n v).path = d.path := rfl
@[simp] theorem Dev.setHy_tm (n : Nat) (v : HyTree) : (d.setHy n v).tm = d.tm := rfl

@[simp] theorem Dev.setLane_regs (l : Nat) (v : Lane) : (d.setLane l v).regs = d.regs := rfl
@[simp] theorem Dev.setLane_tbls (l : Nat) (v : Lane) : (d.setLane l v).tbls = d.tbls := rfl
@[simp] theorem Dev.setLane_shads (l : Nat) (v : Lane) : (d.setLane l v).shads = d.shads := rfl
@[simp] theorem Dev.setLane_fab (l : Nat) (v : Lane) : (d.setLane l v).fab = d.fab := rfl
@[simp] theorem Dev.setLane_hif (l : Nat) (v : Lane) : (d.setLane l v).hif = d.hif := rfl
@[simp] theorem Dev.setLane_freeCtr (l : Nat) (v : Lane) : (d.setLane l v).freeCtr = d.freeCtr := rfl
@[simp] theorem Dev.setLane_now (l : Nat) (v : Lane) : (d.setLane l v).now = d.now := rfl
@[simp] theorem Dev.setLane_out (l : Nat) (v : Lane) : (d.setLane l v).out = d.out := rfl
@[simp] theorem Dev.setLane_ft (l : Nat) (v : Lane) : (d.setLane l v).ft = d.ft := rfl
@[simp] theorem Dev.setLane_clk (l : Nat) (v : Lane) : (d.setLane l v).clk = d.clk := rfl
@[simp] theorem Dev.setLane_pwr (l : Nat) (v : Lane) : (d.setLane l v).pwr = d.pwr := rfl
@[simp] theorem Dev.setLane_sup (l : Nat) (v : Lane) : (d.setLane l v).sup = d.sup := rfl
@[simp] theorem Dev.setLane_time (l : Nat) (v : Lane) : (d.setLane l v).time = d.time := rfl
@[simp] theorem Dev.setLane_te (l : Nat) (v : Lane) : (d.setLane l v).te = d.te := rfl
@[simp] theorem Dev.setLane_grp (l : Nat) (v : Lane) : (d.setLane l v).grp = d.grp := rfl
@[simp] theorem Dev.setLane_eng (l : Nat) (v : Lane) : (d.setLane l v).eng = d.eng := rfl
@[simp] theorem Dev.setLane_path (l : Nat) (v : Lane) : (d.setLane l v).path = d.path := rfl
@[simp] theorem Dev.setLane_tm (l : Nat) (v : Lane) : (d.setLane l v).tm = d.tm := rfl

@[simp] theorem Dev.setBp_regs (v : Bp) : (d.setBp v).regs = d.regs := rfl
@[simp] theorem Dev.setBp_tbls (v : Bp) : (d.setBp v).tbls = d.tbls := rfl
@[simp] theorem Dev.setBp_shads (v : Bp) : (d.setBp v).shads = d.shads := rfl
@[simp] theorem Dev.setBp_fab (v : Bp) : (d.setBp v).fab = d.fab := rfl
@[simp] theorem Dev.setBp_hif (v : Bp) : (d.setBp v).hif = d.hif := rfl
@[simp] theorem Dev.setBp_freeCtr (v : Bp) : (d.setBp v).freeCtr = d.freeCtr := rfl
@[simp] theorem Dev.setBp_now (v : Bp) : (d.setBp v).now = d.now := rfl
@[simp] theorem Dev.setBp_out (v : Bp) : (d.setBp v).out = d.out := rfl
@[simp] theorem Dev.setBp_ft (v : Bp) : (d.setBp v).ft = d.ft := rfl
@[simp] theorem Dev.setBp_clk (v : Bp) : (d.setBp v).clk = d.clk := rfl
@[simp] theorem Dev.setBp_pwr (v : Bp) : (d.setBp v).pwr = d.pwr := rfl
@[simp] theorem Dev.setBp_sup (v : Bp) : (d.setBp v).sup = d.sup := rfl
@[simp] theorem Dev.setBp_time (v : Bp) : (d.setBp v).time = d.time := rfl
@[simp] theorem Dev.setBp_te (v : Bp) : (d.setBp v).te = d.te := rfl
@[simp] theorem Dev.setBp_grp (v : Bp) : (d.setBp v).grp = d.grp := rfl
@[simp] theorem Dev.setBp_eng (v : Bp) : (d.setBp v).eng = d.eng := rfl
@[simp] theorem Dev.setBp_lanes (v : Bp) : (d.setBp v).lanes = d.lanes := rfl
@[simp] theorem Dev.setBp_tm (v : Bp) : (d.setBp v).tm = d.tm := rfl

@[simp] theorem Dev.setSc_regs (v : Sched) : (d.setSc v).regs = d.regs := rfl
@[simp] theorem Dev.setSc_tbls (v : Sched) : (d.setSc v).tbls = d.tbls := rfl
@[simp] theorem Dev.setSc_shads (v : Sched) : (d.setSc v).shads = d.shads := rfl
@[simp] theorem Dev.setSc_fab (v : Sched) : (d.setSc v).fab = d.fab := rfl
@[simp] theorem Dev.setSc_hif (v : Sched) : (d.setSc v).hif = d.hif := rfl
@[simp] theorem Dev.setSc_freeCtr (v : Sched) : (d.setSc v).freeCtr = d.freeCtr := rfl
@[simp] theorem Dev.setSc_now (v : Sched) : (d.setSc v).now = d.now := rfl
@[simp] theorem Dev.setSc_out (v : Sched) : (d.setSc v).out = d.out := rfl
@[simp] theorem Dev.setSc_ft (v : Sched) : (d.setSc v).ft = d.ft := rfl
@[simp] theorem Dev.setSc_clk (v : Sched) : (d.setSc v).clk = d.clk := rfl
@[simp] theorem Dev.setSc_pwr (v : Sched) : (d.setSc v).pwr = d.pwr := rfl
@[simp] theorem Dev.setSc_sup (v : Sched) : (d.setSc v).sup = d.sup := rfl
@[simp] theorem Dev.setSc_time (v : Sched) : (d.setSc v).time = d.time := rfl
@[simp] theorem Dev.setSc_te (v : Sched) : (d.setSc v).te = d.te := rfl
@[simp] theorem Dev.setSc_grp (v : Sched) : (d.setSc v).grp = d.grp := rfl
@[simp] theorem Dev.setSc_eng (v : Sched) : (d.setSc v).eng = d.eng := rfl
@[simp] theorem Dev.setSc_lanes (v : Sched) : (d.setSc v).lanes = d.lanes := rfl
@[simp] theorem Dev.setSc_tm (v : Sched) : (d.setSc v).tm = d.tm := rfl

@[simp] theorem Dev.setCx_regs (v : Cx) : (d.setCx v).regs = d.regs := rfl
@[simp] theorem Dev.setCx_tbls (v : Cx) : (d.setCx v).tbls = d.tbls := rfl
@[simp] theorem Dev.setCx_shads (v : Cx) : (d.setCx v).shads = d.shads := rfl
@[simp] theorem Dev.setCx_fab (v : Cx) : (d.setCx v).fab = d.fab := rfl
@[simp] theorem Dev.setCx_hif (v : Cx) : (d.setCx v).hif = d.hif := rfl
@[simp] theorem Dev.setCx_freeCtr (v : Cx) : (d.setCx v).freeCtr = d.freeCtr := rfl
@[simp] theorem Dev.setCx_now (v : Cx) : (d.setCx v).now = d.now := rfl
@[simp] theorem Dev.setCx_out (v : Cx) : (d.setCx v).out = d.out := rfl
@[simp] theorem Dev.setCx_ft (v : Cx) : (d.setCx v).ft = d.ft := rfl
@[simp] theorem Dev.setCx_clk (v : Cx) : (d.setCx v).clk = d.clk := rfl
@[simp] theorem Dev.setCx_pwr (v : Cx) : (d.setCx v).pwr = d.pwr := rfl
@[simp] theorem Dev.setCx_sup (v : Cx) : (d.setCx v).sup = d.sup := rfl
@[simp] theorem Dev.setCx_time (v : Cx) : (d.setCx v).time = d.time := rfl
@[simp] theorem Dev.setCx_te (v : Cx) : (d.setCx v).te = d.te := rfl
@[simp] theorem Dev.setCx_grp (v : Cx) : (d.setCx v).grp = d.grp := rfl
@[simp] theorem Dev.setCx_eng (v : Cx) : (d.setCx v).eng = d.eng := rfl
@[simp] theorem Dev.setCx_lanes (v : Cx) : (d.setCx v).lanes = d.lanes := rfl
@[simp] theorem Dev.setCx_tm (v : Cx) : (d.setCx v).tm = d.tm := rfl

@[simp] theorem Dev.setTm_regs (v : Tm) : (d.setTm v).regs = d.regs := rfl
@[simp] theorem Dev.setTm_tbls (v : Tm) : (d.setTm v).tbls = d.tbls := rfl
@[simp] theorem Dev.setTm_shads (v : Tm) : (d.setTm v).shads = d.shads := rfl
@[simp] theorem Dev.setTm_fab (v : Tm) : (d.setTm v).fab = d.fab := rfl
@[simp] theorem Dev.setTm_hif (v : Tm) : (d.setTm v).hif = d.hif := rfl
@[simp] theorem Dev.setTm_freeCtr (v : Tm) : (d.setTm v).freeCtr = d.freeCtr := rfl
@[simp] theorem Dev.setTm_now (v : Tm) : (d.setTm v).now = d.now := rfl
@[simp] theorem Dev.setTm_out (v : Tm) : (d.setTm v).out = d.out := rfl
@[simp] theorem Dev.setTm_ft (v : Tm) : (d.setTm v).ft = d.ft := rfl
@[simp] theorem Dev.setTm_clk (v : Tm) : (d.setTm v).clk = d.clk := rfl
@[simp] theorem Dev.setTm_pwr (v : Tm) : (d.setTm v).pwr = d.pwr := rfl
@[simp] theorem Dev.setTm_sup (v : Tm) : (d.setTm v).sup = d.sup := rfl
@[simp] theorem Dev.setTm_time (v : Tm) : (d.setTm v).time = d.time := rfl
@[simp] theorem Dev.setTm_te (v : Tm) : (d.setTm v).te = d.te := rfl
@[simp] theorem Dev.setTm_grp (v : Tm) : (d.setTm v).grp = d.grp := rfl
@[simp] theorem Dev.setTm_eng (v : Tm) : (d.setTm v).eng = d.eng := rfl
@[simp] theorem Dev.setTm_lanes (v : Tm) : (d.setTm v).lanes = d.lanes := rfl
@[simp] theorem Dev.setTm_path (v : Tm) : (d.setTm v).path = d.path := rfl

@[simp] theorem Dev.setCtl_regs (n : Nat) (v : Bool) : (d.setCtl n v).regs = d.regs := rfl
@[simp] theorem Dev.setCtl_tbls (n : Nat) (v : Bool) : (d.setCtl n v).tbls = d.tbls := rfl
@[simp] theorem Dev.setCtl_shads (n : Nat) (v : Bool) : (d.setCtl n v).shads = d.shads := rfl
@[simp] theorem Dev.setCtl_fab (n : Nat) (v : Bool) : (d.setCtl n v).fab = d.fab := rfl
@[simp] theorem Dev.setCtl_hif (n : Nat) (v : Bool) : (d.setCtl n v).hif = d.hif := rfl
@[simp] theorem Dev.setCtl_freeCtr (n : Nat) (v : Bool) : (d.setCtl n v).freeCtr = d.freeCtr := rfl
@[simp] theorem Dev.setCtl_now (n : Nat) (v : Bool) : (d.setCtl n v).now = d.now := rfl
@[simp] theorem Dev.setCtl_out (n : Nat) (v : Bool) : (d.setCtl n v).out = d.out := rfl
@[simp] theorem Dev.setCtl_ft (n : Nat) (v : Bool) : (d.setCtl n v).ft = d.ft := rfl
@[simp] theorem Dev.setCtl_clk (n : Nat) (v : Bool) : (d.setCtl n v).clk = d.clk := rfl
@[simp] theorem Dev.setCtl_pwr (n : Nat) (v : Bool) : (d.setCtl n v).pwr = d.pwr := rfl
@[simp] theorem Dev.setCtl_time (n : Nat) (v : Bool) : (d.setCtl n v).time = d.time := rfl
@[simp] theorem Dev.setCtl_te (n : Nat) (v : Bool) : (d.setCtl n v).te = d.te := rfl
@[simp] theorem Dev.setCtl_grp (n : Nat) (v : Bool) : (d.setCtl n v).grp = d.grp := rfl
@[simp] theorem Dev.setCtl_eng (n : Nat) (v : Bool) : (d.setCtl n v).eng = d.eng := rfl
@[simp] theorem Dev.setCtl_lanes (n : Nat) (v : Bool) : (d.setCtl n v).lanes = d.lanes := rfl
@[simp] theorem Dev.setCtl_path (n : Nat) (v : Bool) : (d.setCtl n v).path = d.path := rfl
@[simp] theorem Dev.setCtl_tm (n : Nat) (v : Bool) : (d.setCtl n v).tm = d.tm := rfl

@[simp] theorem Dev.latch_regs (p : Page) (off f v : Nat) : (d.latch p off f v).regs = d.regs := rfl
@[simp] theorem Dev.latch_tbls (p : Page) (off f v : Nat) : (d.latch p off f v).tbls = d.tbls := rfl
@[simp] theorem Dev.latch_shads (p : Page) (off f v : Nat) : (d.latch p off f v).shads = d.shads := rfl
@[simp] theorem Dev.latch_hif (p : Page) (off f v : Nat) : (d.latch p off f v).hif = d.hif := rfl
@[simp] theorem Dev.latch_freeCtr (p : Page) (off f v : Nat) : (d.latch p off f v).freeCtr = d.freeCtr := rfl
@[simp] theorem Dev.latch_now (p : Page) (off f v : Nat) : (d.latch p off f v).now = d.now := rfl
@[simp] theorem Dev.latch_out (p : Page) (off f v : Nat) : (d.latch p off f v).out = d.out := rfl
@[simp] theorem Dev.latch_ft (p : Page) (off f v : Nat) : (d.latch p off f v).ft = d.ft := rfl
@[simp] theorem Dev.latch_clk (p : Page) (off f v : Nat) : (d.latch p off f v).clk = d.clk := rfl
@[simp] theorem Dev.latch_pwr (p : Page) (off f v : Nat) : (d.latch p off f v).pwr = d.pwr := rfl
@[simp] theorem Dev.latch_sup (p : Page) (off f v : Nat) : (d.latch p off f v).sup = d.sup := rfl
@[simp] theorem Dev.latch_time (p : Page) (off f v : Nat) : (d.latch p off f v).time = d.time := rfl
@[simp] theorem Dev.latch_te (p : Page) (off f v : Nat) : (d.latch p off f v).te = d.te := rfl
@[simp] theorem Dev.latch_grp (p : Page) (off f v : Nat) : (d.latch p off f v).grp = d.grp := rfl
@[simp] theorem Dev.latch_eng (p : Page) (off f v : Nat) : (d.latch p off f v).eng = d.eng := rfl
@[simp] theorem Dev.latch_lanes (p : Page) (off f v : Nat) : (d.latch p off f v).lanes = d.lanes := rfl
@[simp] theorem Dev.latch_path (p : Page) (off f v : Nat) : (d.latch p off f v).path = d.path := rfl
@[simp] theorem Dev.latch_tm (p : Page) (off f v : Nat) : (d.latch p off f v).tm = d.tm := rfl

@[simp] theorem Dev.setFtKey_regs (c u : Nat) (v : FtKey) : (d.setFtKey c u v).regs = d.regs := rfl
@[simp] theorem Dev.setFtKey_tbls (c u : Nat) (v : FtKey) : (d.setFtKey c u v).tbls = d.tbls := rfl
@[simp] theorem Dev.setFtKey_shads (c u : Nat) (v : FtKey) : (d.setFtKey c u v).shads = d.shads := rfl
@[simp] theorem Dev.setFtKey_fab (c u : Nat) (v : FtKey) : (d.setFtKey c u v).fab = d.fab := rfl
@[simp] theorem Dev.setFtKey_hif (c u : Nat) (v : FtKey) : (d.setFtKey c u v).hif = d.hif := rfl
@[simp] theorem Dev.setFtKey_freeCtr (c u : Nat) (v : FtKey) : (d.setFtKey c u v).freeCtr = d.freeCtr := rfl
@[simp] theorem Dev.setFtKey_now (c u : Nat) (v : FtKey) : (d.setFtKey c u v).now = d.now := rfl
@[simp] theorem Dev.setFtKey_out (c u : Nat) (v : FtKey) : (d.setFtKey c u v).out = d.out := rfl
@[simp] theorem Dev.setFtKey_clk (c u : Nat) (v : FtKey) : (d.setFtKey c u v).clk = d.clk := rfl
@[simp] theorem Dev.setFtKey_pwr (c u : Nat) (v : FtKey) : (d.setFtKey c u v).pwr = d.pwr := rfl
@[simp] theorem Dev.setFtKey_sup (c u : Nat) (v : FtKey) : (d.setFtKey c u v).sup = d.sup := rfl
@[simp] theorem Dev.setFtKey_time (c u : Nat) (v : FtKey) : (d.setFtKey c u v).time = d.time := rfl
@[simp] theorem Dev.setFtKey_te (c u : Nat) (v : FtKey) : (d.setFtKey c u v).te = d.te := rfl
@[simp] theorem Dev.setFtKey_grp (c u : Nat) (v : FtKey) : (d.setFtKey c u v).grp = d.grp := rfl
@[simp] theorem Dev.setFtKey_eng (c u : Nat) (v : FtKey) : (d.setFtKey c u v).eng = d.eng := rfl
@[simp] theorem Dev.setFtKey_lanes (c u : Nat) (v : FtKey) : (d.setFtKey c u v).lanes = d.lanes := rfl
@[simp] theorem Dev.setFtKey_path (c u : Nat) (v : FtKey) : (d.setFtKey c u v).path = d.path := rfl
@[simp] theorem Dev.setFtKey_tm (c u : Nat) (v : FtKey) : (d.setFtKey c u v).tm = d.tm := rfl

@[simp] theorem Dev.setLasting_regs (v : List Lasting) : (d.setLasting v).regs = d.regs := rfl
@[simp] theorem Dev.setLasting_tbls (v : List Lasting) : (d.setLasting v).tbls = d.tbls := rfl
@[simp] theorem Dev.setLasting_shads (v : List Lasting) : (d.setLasting v).shads = d.shads := rfl
@[simp] theorem Dev.setLasting_fab (v : List Lasting) : (d.setLasting v).fab = d.fab := rfl
@[simp] theorem Dev.setLasting_hif (v : List Lasting) : (d.setLasting v).hif = d.hif := rfl
@[simp] theorem Dev.setLasting_freeCtr (v : List Lasting) : (d.setLasting v).freeCtr = d.freeCtr := rfl
@[simp] theorem Dev.setLasting_now (v : List Lasting) : (d.setLasting v).now = d.now := rfl
@[simp] theorem Dev.setLasting_out (v : List Lasting) : (d.setLasting v).out = d.out := rfl
@[simp] theorem Dev.setLasting_clk (v : List Lasting) : (d.setLasting v).clk = d.clk := rfl
@[simp] theorem Dev.setLasting_pwr (v : List Lasting) : (d.setLasting v).pwr = d.pwr := rfl
@[simp] theorem Dev.setLasting_sup (v : List Lasting) : (d.setLasting v).sup = d.sup := rfl
@[simp] theorem Dev.setLasting_time (v : List Lasting) : (d.setLasting v).time = d.time := rfl
@[simp] theorem Dev.setLasting_te (v : List Lasting) : (d.setLasting v).te = d.te := rfl
@[simp] theorem Dev.setLasting_grp (v : List Lasting) : (d.setLasting v).grp = d.grp := rfl
@[simp] theorem Dev.setLasting_eng (v : List Lasting) : (d.setLasting v).eng = d.eng := rfl
@[simp] theorem Dev.setLasting_lanes (v : List Lasting) : (d.setLasting v).lanes = d.lanes := rfl
@[simp] theorem Dev.setLasting_path (v : List Lasting) : (d.setLasting v).path = d.path := rfl
@[simp] theorem Dev.setLasting_tm (v : List Lasting) : (d.setLasting v).tm = d.tm := rfl

@[simp] theorem Dev.quiet_regs : (d.quiet).regs = d.regs := rfl
@[simp] theorem Dev.quiet_tbls : (d.quiet).tbls = d.tbls := rfl
@[simp] theorem Dev.quiet_shads : (d.quiet).shads = d.shads := rfl
@[simp] theorem Dev.quiet_fab : (d.quiet).fab = d.fab := rfl
@[simp] theorem Dev.quiet_hif : (d.quiet).hif = d.hif := rfl
@[simp] theorem Dev.quiet_freeCtr : (d.quiet).freeCtr = d.freeCtr := rfl
@[simp] theorem Dev.quiet_now : (d.quiet).now = d.now := rfl
@[simp] theorem Dev.quiet_out : (d.quiet).out = d.out := rfl
@[simp] theorem Dev.quiet_clk : (d.quiet).clk = d.clk := rfl
@[simp] theorem Dev.quiet_pwr : (d.quiet).pwr = d.pwr := rfl
@[simp] theorem Dev.quiet_sup : (d.quiet).sup = d.sup := rfl
@[simp] theorem Dev.quiet_time : (d.quiet).time = d.time := rfl
@[simp] theorem Dev.quiet_te : (d.quiet).te = d.te := rfl
@[simp] theorem Dev.quiet_grp : (d.quiet).grp = d.grp := rfl
@[simp] theorem Dev.quiet_eng : (d.quiet).eng = d.eng := rfl
@[simp] theorem Dev.quiet_lanes : (d.quiet).lanes = d.lanes := rfl
@[simp] theorem Dev.quiet_path : (d.quiet).path = d.path := rfl
@[simp] theorem Dev.quiet_tm : (d.quiet).tm = d.tm := rfl

/-! ## Reads after writes -/

/-- A register field read after its own write. -/
@[simp] theorem Dev.rd_wr_same (p : Page) (f : Fld) (v : Nat) : (d.wr p f v).rd p f = v % 2 ^ f.width := by
  simp [Dev.rd, Dev.wr]

/-- A register field read after the write of another. -/
theorem Dev.rd_wr_other (p q : Page) (f g : Fld) (v : Nat) (h : q.key g ≠ p.key f) : (d.wr p f v).rd q g = d.rd q g := by
  simp [Dev.rd, Dev.wr, Store.get_put_other _ _ _ _ _ _ h]

/-- A table field read after its own write. -/
@[simp] theorem Dev.rdT_wrT_same (t : Tbl) (i : Nat) (f : Fld) (v : Nat) :
    (d.wrT t i f v).rdT t i f = v % 2 ^ f.width := by
  simp [Dev.rdT, Dev.wrT]

/-- A table field read after the write of another. -/
theorem Dev.rdT_wrT_other (t u : Tbl) (i j : Nat) (f g : Fld) (v : Nat) (h : u.key j g ≠ t.key i f) :
    (d.wrT t i f v).rdT u j g = d.rdT u j g := by
  simp [Dev.rdT, Dev.wrT, Store.get_put_other _ _ _ _ _ _ h]

/-- A table field read after the write of a register. -/
@[simp] theorem Dev.rdT_wr (p : Page) (f : Fld) (v : Nat) (t : Tbl) (i : Nat) (g : Fld) :
    (d.wr p f v).rdT t i g = d.rdT t i g := rfl

/-- A register field read after the write of a table. -/
@[simp] theorem Dev.rd_wrT (t : Tbl) (i : Nat) (f : Fld) (v : Nat) (p : Page) (g : Fld) :
    (d.wrT t i f v).rd p g = d.rd p g := rfl

/-- A register write keeps the register store canonical. -/
theorem Dev.wr_wf (p : Page) (f : Fld) (v : Nat) (h : d.regs.wf regDefault = true) :
    (d.wr p f v).regs.wf regDefault = true := Store.wf_put regDefault d.regs _ _ h

/-- A table write keeps the table store canonical. -/
theorem Dev.wrT_wf (t : Tbl) (i : Nat) (f : Fld) (v : Nat) (h : d.tbls.wf tblDefault = true) :
    (d.wrT t i f v).tbls.wf tblDefault = true := Store.wf_put tblDefault d.tbls _ _ h

/-! ## Interrupts, errors, counters -/

/-- A message changes what the host interface holds for a vector and what has left, nothing else. -/
theorem Dev.msixSend_regs (f v : Nat) : (d.msixSend f v).regs = d.regs := by
  unfold Dev.msixSend; dsimp only; split
  · rfl
  · split <;> rfl

/-- Signalling a page's interrupt leaves the registers. -/
theorem Dev.pendEdge_regs (p : Page) (old : Nat) : (d.pendEdge p old).regs = d.regs := by
  unfold Dev.pendEdge; split
  · exact d.msixSend_regs _ _
  · rfl

/-- An event sets its bit of INT_RAW and no other register field. -/
theorem Dev.raise_regs (p : Page) (b : Nat) :
    (d.raise p b).regs = (d.wr p INT_RAW.RAW (setBit (d.rd p INT_RAW.RAW) b)).regs := by
  simp [Dev.raise, Dev.pendEdge_regs]

/-- A message leaves the tables. -/
theorem Dev.msixSend_tbls (f v : Nat) : (d.msixSend f v).tbls = d.tbls := by
  unfold Dev.msixSend; dsimp only; split
  · rfl
  · split <;> rfl

/-- An event leaves the tables. -/
theorem Dev.raise_tbls (p : Page) (b : Nat) : (d.raise p b).tbls = d.tbls := by
  unfold Dev.raise Dev.pendEdge; split
  · simp [Dev.msixPage, Dev.msixSend_tbls]
  · rfl

/-- Adding nothing to a counter changes nothing. -/
@[simp] theorem Dev.cnt_zero (t : Tbl) (i : Nat) : d.cnt t i 0 = d := by simp [Dev.cnt]

/-- A counter read after its count. -/
theorem Dev.rdT_cnt (t : Tbl) (i k : Nat) (h : k ≠ 0) :
    (d.cnt t i k).rdT t i CNT.COUNT = (d.rdT t i CNT.COUNT + k) % 2 ^ CNT.COUNT.width := by
  simp [Dev.cnt, h]

/-! ## The end of a step -/

/-- A device without waiting events is settled. -/
theorem Dev.settleN_of_drained (k : Nat) (h : d.ft.queue = []) : d.settleN k = d := by
  cases k with
  | zero => cases d with | mk regs tbls shads fab hif freeCtr now out ft clk pwr sup time te grp eng lanes path tm =>
    cases ft; simp_all [Dev.settleN, Dev.quiet]
  | succ k => simp [Dev.settleN, h]

/-- A device without waiting events is settled. -/
theorem Dev.settle_of_drained (h : d.ft.queue = []) : d.settle = d := d.settleN_of_drained 16 h

/-- A well-formed command acts. -/
theorem State.run_next (c : Instr) (f : Dev → Dev) (s : State) (h : c.wellFormed = true) :
    s.run c f = .next { s with dev := (f s.dev).settle } := by simp [State.run, h]

/-- A command that is not well formed is stopped by name. -/
theorem State.run_fault (c : Instr) (f : Dev → Dev) (s : State) (h : c.wellFormed = false) :
    s.run c f = .fault .noSuchUnit := by simp [State.run, h]

end Sys2Proof.Machine
end

