-- ==== Sys2Proof/Laws/Access.lean ====
section
/-! SUPPORT. Laws of host accesses: what an access that reaches its register does, and that an unlisted way makes none. -/

namespace Sys2Proof.Machine

/-- A write that reaches its page acts on the device as it stands. -/
theorem Dev.hostW_reaches (d : Dev) (b : By) (p : Page) (off : Nat) (k : Dev → Dev) (hn : d.names b p = true)
    (hd : d.deny b p true = 0) : d.hostW b p off k = k d := by
  simp [Dev.hostW, hn, hd]

/-- A write that is accepted acts on the device as it stands. -/
theorem Dev.hostF_accepts (d : Dev) (b : By) (p : Page) (f : Fld) (v : Nat) (k : Dev → Dev)
    (h : d.accepts b p f v = true) : d.hostF b p f v k = k d := by
  simp only [Dev.accepts, Bool.and_eq_true, beq_iff_eq, Bool.not_eq_true'] at h
  obtain ⟨⟨⟨hn, hd⟩, hm⟩, hf⟩ := h
  rw [Dev.hostF, Dev.hostW_reaches _ _ _ _ _ hn hd]
  simp [hm, Dev.logForbidden, hf]

/-- A read that reaches its page returns its value and has its effect. -/
theorem Dev.hostR_readable (d : Dev) (b : By) (p : Page) (off : Nat) (k : Dev → Nat × Dev)
    (h : d.readable b p = true) : d.hostR b p off k = (k d).2.rdata b (k d).1 := by
  simp only [Dev.readable, Bool.and_eq_true, beq_iff_eq] at h
  simp [Dev.hostR, h.1, h.2]

/-- An access through a slot that does not show the page is none. -/
theorem Dev.hostW_elsewhere (d : Dev) (b : By) (p : Page) (off : Nat) (k : Dev → Dev) (h : d.names b p = false) :
    d.hostW b p off k = d := by simp [Dev.hostW, h]

/-- Off the pages near key A a write needs no watch. -/
theorem Page.guarded_off (p : Page) (f : Dev → Dev) (d : Dev) (h : p.nearKeyA = false) : p.guarded f d = f d := by
  simp [Page.guarded, h]

/-- The field that was set. -/
theorem Fld.get_set (f : Fld) (v x : Nat) : f.get (f.set v x) = x % 2 ^ f.width := by
  simp only [Fld.get, Fld.set, Fld.put]
  have hL : 0 < 2 ^ f.lo := Nat.two_pow_pos _
  have hW : 0 < 2 ^ f.width := Nat.two_pow_pos _
  generalize 2 ^ f.lo = L at *
  generalize 2 ^ f.width = W at *
  have hv := Nat.div_add_mod v L
  have ha := Nat.div_add_mod (v / L) W
  have hr := Nat.mod_lt v hL
  have hx := Nat.mod_lt x hW
  set a := v / L
  set r := v % L
  set q := a / W
  set m := a % W
  have e1 : v = L * (W * q) + L * m + r := by
    have : L * a = L * (W * q) + L * m := by rw [← ha]; ring
    omega
  have e2 : m % W * L = L * m := by rw [Nat.mod_eq_of_lt (Nat.mod_lt a hW)]; ring
  have e3 : v - m % W * L + x % W * L = r + L * (x % W + W * q) := by
    rw [e2]
    have : L * (x % W + W * q) = L * (W * q) + (x % W) * L := by ring
    omega
  rw [e3, Nat.add_mul_div_left _ _ hL, Nat.div_eq_of_lt hr, Nat.zero_add, Nat.add_mul_mod_self_left, Nat.mod_mod]

end Sys2Proof.Machine
end

