-- ==== Sys2Proof/Laws/Exec.lean ====
section
/-! SUPPORT. What the dispatch of any command is: its effect on the device, run in the one form of a meaning. -/

namespace Sys2Proof.Machine

/-- Every command is run by `State.run` with an effect on the device that does not depend on the state's queue. -/
theorem exec_eq_run (c : Instr) : ∃ f : Dev → Dev, ∀ s, exec c s = s.run c f := by
  cases c with
  | registerWrite _ _ _ _ => exact ⟨_, fun _ => by rw [exec, execRegisterWrite]⟩
  | errCountRead _ _ => exact ⟨_, fun _ => by rw [exec, execErrCountRead]⟩
  | intRawClear _ _ _ => exact ⟨_, fun _ => by rw [exec, execIntRawClear]⟩
  | intForceWrite _ _ _ => exact ⟨_, fun _ => by rw [exec, execIntForceWrite]⟩
  | msixVectorUnmask _ _ => exact ⟨_, fun _ => by rw [exec, execMsixVectorUnmask]⟩
  | pageOwnerWrite _ _ _ => exact ⟨_, fun _ => by rw [exec, execPageOwnerWrite]⟩
  | pageEnableWrite _ _ _ => exact ⟨_, fun _ => by rw [exec, execPageEnableWrite]⟩
  | quiesceRequest _ _ _ => exact ⟨_, fun _ => by rw [exec, execQuiesceRequest]⟩
  | quiesceReached _ => exact ⟨_, fun _ => by rw [exec, execQuiesceReached]⟩
  | quiesceRelease _ _ _ => exact ⟨_, fun _ => by rw [exec, execQuiesceRelease]⟩
  | softRst _ _ _ => exact ⟨_, fun _ => by rw [exec, execSoftRst]⟩
  | blockResetDone _ => exact ⟨_, fun _ => by rw [exec, execBlockResetDone]⟩
  | tblNop _ _ _ => exact ⟨_, fun _ => by rw [exec, execTblNop]⟩
  | tblRead _ _ _ _ => exact ⟨_, fun _ => by rw [exec, execTblRead]⟩
  | tblWrite _ _ _ => exact ⟨_, fun _ => by rw [exec, execTblWrite]⟩
  | tblRmw _ _ _ _ => exact ⟨_, fun _ => by rw [exec, execTblRmw]⟩
  | tblClearRange _ _ _ => exact ⟨_, fun _ => by rw [exec, execTblClearRange]⟩
  | tblCmdDone _ => exact ⟨_, fun _ => by rw [exec, execTblCmdDone]⟩
  | frameStart _ => exact ⟨_, fun _ => by rw [exec, execFrameStart]⟩
  | ocHiWrite _ _ _ => exact ⟨_, fun _ => by rw [exec, execOcHiWrite]⟩
  | todArm _ _ _ => exact ⟨_, fun _ => by rw [exec, execTodArm]⟩
  | framerEnable _ _ _ => exact ⟨_, fun _ => by rw [exec, execFramerEnable]⟩
  | framerDisable _ _ _ => exact ⟨_, fun _ => by rw [exec, execFramerDisable]⟩
  | lineModeWrite _ _ _ => exact ⟨_, fun _ => by rw [exec, execLineModeWrite]⟩
  | dsXgemFrame _ => exact ⟨_, fun _ => by rw [exec, execDsXgemFrame]⟩
  | todAnnouncement _ => exact ⟨_, fun _ => by rw [exec, execTodAnnouncement]⟩
  | hostPloamSubmit _ => exact ⟨_, fun _ => by rw [exec, execHostPloamSubmit]⟩
  | cycleOpen _ => exact ⟨_, fun _ => by rw [exec, execCycleOpen]⟩
  | bellowsStart _ _ _ => exact ⟨_, fun _ => by rw [exec, execBellowsStart]⟩
  | speculativeMapComplete _ => exact ⟨_, fun _ => by rw [exec, execSpeculativeMapComplete]⟩
  | confirmationCut _ => exact ⟨_, fun _ => by rw [exec, execConfirmationCut]⟩
  | grantCheck _ _ => exact ⟨_, fun _ => by rw [exec, execGrantCheck]⟩
  | reconciliationDeadline _ => exact ⟨_, fun _ => by rw [exec, execReconciliationDeadline]⟩
  | mapHandover _ => exact ⟨_, fun _ => by rw [exec, execMapHandover]⟩
  | mapDeadline _ _ => exact ⟨_, fun _ => by rw [exec, execMapDeadline]⟩
  | txdisSample _ _ => exact ⟨_, fun _ => by rw [exec, execTxdisSample]⟩
  | rxDisable _ _ _ => exact ⟨_, fun _ => by rw [exec, execRxDisable]⟩
  | burstLockStart _ _ => exact ⟨_, fun _ => by rw [exec, execBurstLockStart]⟩
  | searchWindowOpen _ _ _ => exact ⟨_, fun _ => by rw [exec, execSearchWindowOpen]⟩
  | delimiterMatch _ _ _ _ _ _ _ => exact ⟨_, fun _ => by rw [exec, execDelimiterMatch]⟩
  | searchWindowClose _ _ _ => exact ⟨_, fun _ => by rw [exec, execSearchWindowClose]⟩
  | burstPayloadEnd _ _ _ _ _ _ _ _ _ => exact ⟨_, fun _ => by rw [exec, execBurstPayloadEnd]⟩
  | brstPulse _ _ => exact ⟨_, fun _ => by rw [exec, execBrstPulse]⟩
  | fecCodewordDecode _ _ _ _ _ _ => exact ⟨_, fun _ => by rw [exec, execFecCodewordDecode]⟩
  | idleSpanListen _ _ _ _ _ => exact ⟨_, fun _ => by rw [exec, execIdleSpanListen]⟩
  | discoveryWindowOpen _ => exact ⟨_, fun _ => by rw [exec, execDiscoveryWindowOpen]⟩
  | snBurstAccept _ _ _ _ _ _ _ _ _ => exact ⟨_, fun _ => by rw [exec, execSnBurstAccept]⟩
  | discoveryWindowEnd _ _ _ => exact ⟨_, fun _ => by rw [exec, execDiscoveryWindowEnd]⟩
  | discoveredTimeout _ _ => exact ⟨_, fun _ => by rw [exec, execDiscoveredTimeout]⟩
  | rangingBurstAccept _ _ => exact ⟨_, fun _ => by rw [exec, execRangingBurstAccept]⟩
  | rangingTimeAck _ _ _ _ => exact ⟨_, fun _ => by rw [exec, execRangingTimeAck]⟩
  | rangingAckTimeout _ _ => exact ⟨_, fun _ => by rw [exec, execRangingAckTimeout]⟩
  | onuAuthorise _ _ _ => exact ⟨_, fun _ => by rw [exec, execOnuAuthorise]⟩
  | onuRerange _ _ _ => exact ⟨_, fun _ => by rw [exec, execOnuRerange]⟩
  | onuDeactivate _ _ _ => exact ⟨_, fun _ => by rw [exec, execOnuDeactivate]⟩
  | onuDisable _ _ _ => exact ⟨_, fun _ => by rw [exec, execOnuDisable]⟩
  | onuEnable _ _ _ => exact ⟨_, fun _ => by rw [exec, execOnuEnable]⟩
  | onuRelease _ _ _ => exact ⟨_, fun _ => by rw [exec, execOnuRelease]⟩
  | huntAbort _ _ _ => exact ⟨_, fun _ => by rw [exec, execHuntAbort]⟩
  | huntRoundEnd _ => exact ⟨_, fun _ => by rw [exec, execHuntRoundEnd]⟩
  | traceEnable _ _ => exact ⟨_, fun _ => by rw [exec, execTraceEnable]⟩
  | safeEnter _ _ => exact ⟨_, fun _ => by rw [exec, execSafeEnter]⟩
  | safeExit _ _ => exact ⟨_, fun _ => by rw [exec, execSafeExit]⟩
  | groupForm _ _ _ => exact ⟨_, fun _ => by rw [exec, execGroupForm]⟩
  | groupDissolve _ _ => exact ⟨_, fun _ => by rw [exec, execGroupDissolve]⟩
  | groupLineMode _ _ _ => exact ⟨_, fun _ => by rw [exec, execGroupLineMode]⟩
  | memberDown _ _ => exact ⟨_, fun _ => by rw [exec, execMemberDown]⟩
  | memberRestore _ _ => exact ⟨_, fun _ => by rw [exec, execMemberRestore]⟩
  | skewRemeasure _ _ => exact ⟨_, fun _ => by rw [exec, execSkewRemeasure]⟩
  | memberRestoreTimeout _ _ => exact ⟨_, fun _ => by rw [exec, execMemberRestoreTimeout]⟩
  | dsFragmentDistribute _ => exact ⟨_, fun _ => by rw [exec, execDsFragmentDistribute]⟩
  | usFragmentReceive _ => exact ⟨_, fun _ => by rw [exec, execUsFragmentReceive]⟩
  | fragmentWaitTimeout _ _ => exact ⟨_, fun _ => by rw [exec, execFragmentWaitTimeout]⟩
  | oamTemplateSend _ => exact ⟨_, fun _ => by rw [exec, execOamTemplateSend]⟩
  | holdGapDetect _ _ _ => exact ⟨_, fun _ => by rw [exec, execHoldGapDetect]⟩
  | holdGapEnd _ => exact ⟨_, fun _ => by rw [exec, execHoldGapEnd]⟩
  | protectionCellSend _ => exact ⟨_, fun _ => by rw [exec, execProtectionCellSend]⟩
  | protectionCellReceive _ _ _ => exact ⟨_, fun _ => by rw [exec, execProtectionCellReceive]⟩
  | linkSilent _ => exact ⟨_, fun _ => by rw [exec, execLinkSilent]⟩
  | timeCellSend _ => exact ⟨_, fun _ => by rw [exec, execTimeCellSend]⟩
  | timeCellReceive _ _ _ => exact ⟨_, fun _ => by rw [exec, execTimeCellReceive]⟩
  | mirrorRecordApply _ _ => exact ⟨_, fun _ => by rw [exec, execMirrorRecordApply]⟩
  | mirrorDeadline _ => exact ⟨_, fun _ => by rw [exec, execMirrorDeadline]⟩
  | acquisitionTimeout _ => exact ⟨_, fun _ => by rw [exec, execAcquisitionTimeout]⟩
  | reqClear _ _ => exact ⟨_, fun _ => by rw [exec, execReqClear]⟩
  | reqLockout _ _ => exact ⟨_, fun _ => by rw [exec, execReqLockout]⟩
  | reqForced _ _ => exact ⟨_, fun _ => by rw [exec, execReqForced]⟩
  | reqManual _ _ => exact ⟨_, fun _ => by rw [exec, execReqManual]⟩
  | reqExercise _ _ => exact ⟨_, fun _ => by rw [exec, execReqExercise]⟩
  | exerciseTimeout _ => exact ⟨_, fun _ => by rw [exec, execExerciseTimeout]⟩
  | wtrExpiry _ => exact ⟨_, fun _ => by rw [exec, execWtrExpiry]⟩
  | startTimeout _ => exact ⟨_, fun _ => by rw [exec, execStartTimeout]⟩
  | holdFault _ => exact ⟨_, fun _ => by rw [exec, execHoldFault]⟩
  | pxRoleWrite _ _ _ => exact ⟨_, fun _ => by rw [exec, execPxRoleWrite]⟩
  | aztilMessageReceive _ _ => exact ⟨_, fun _ => by rw [exec, execAztilMessageReceive]⟩
  | dsFrameClassify _ _ _ => exact ⟨_, fun _ => by rw [exec, execDsFrameClassify]⟩
  | usFrameClassify _ _ _ => exact ⟨_, fun _ => by rw [exec, execUsFrameClassify]⟩
  | clProfileDrainDone => exact ⟨_, fun _ => by rw [exec, execClProfileDrainDone]⟩
  | bufferAdmit _ _ => exact ⟨_, fun _ => by rw [exec, execBufferAdmit]⟩
  | releaseRequest _ _ _ _ => exact ⟨_, fun _ => by rw [exec, execReleaseRequest]⟩
  | freeRequest _ _ _ _ => exact ⟨_, fun _ => by rw [exec, execFreeRequest]⟩
  | slackTubReceive => exact ⟨_, fun _ => by rw [exec, execSlackTubReceive]⟩
  | dequeueSelect _ _ => exact ⟨_, fun _ => by rw [exec, execDequeueSelect]⟩
  | launchTimeReached _ => exact ⟨_, fun _ => by rw [exec, execLaunchTimeReached]⟩
  | flush _ _ => exact ⟨_, fun _ => by rw [exec, execFlush]⟩
  | flushDone => exact ⟨_, fun _ => by rw [exec, execFlushDone]⟩
  | latencySample _ => exact ⟨_, fun _ => by rw [exec, execLatencySample]⟩
  | dsEncrypt _ _ _ => exact ⟨_, fun _ => by rw [exec, execDsEncrypt]⟩
  | usDecrypt _ _ => exact ⟨_, fun _ => by rw [exec, execUsDecrypt]⟩
  | pauseScanDone _ => exact ⟨_, fun _ => by rw [exec, execPauseScanDone]⟩
  | jobCfbEncrypt _ _ _ _ _ _ _ => exact ⟨_, fun _ => by rw [exec, execJobCfbEncrypt]⟩
  | jobCfbDecrypt _ _ _ _ _ _ _ => exact ⟨_, fun _ => by rw [exec, execJobCfbDecrypt]⟩
  | jobCmacGenerate _ _ _ _ _ _ _ => exact ⟨_, fun _ => by rw [exec, execJobCmacGenerate]⟩
  | jobCmacVerify _ _ _ _ _ _ _ => exact ⟨_, fun _ => by rw [exec, execJobCmacVerify]⟩
  | jobComplete _ _ => exact ⟨_, fun _ => by rw [exec, execJobComplete]⟩
  | jobqPiWrite _ _ _ => exact ⟨_, fun _ => by rw [exec, execJobqPiWrite]⟩
  | functionLevelReset _ => exact ⟨_, fun _ => by rw [exec, execFunctionLevelReset]⟩
  | flrDone _ => exact ⟨_, fun _ => by rw [exec, execFlrDone]⟩
  | todSet _ _ => exact ⟨_, fun _ => by rw [exec, execTodSet]⟩
  | todStep _ _ => exact ⟨_, fun _ => by rw [exec, execTodStep]⟩
  | todRead _ => exact ⟨_, fun _ => by rw [exec, execTodRead]⟩
  | sfcLoRead _ _ => exact ⟨_, fun _ => by rw [exec, execSfcLoRead]⟩
  | oneSecondTick => exact ⟨_, fun _ => by rw [exec, execOneSecondTick]⟩
  | hostOffsetSample _ _ => exact ⟨_, fun _ => by rw [exec, execHostOffsetSample]⟩
  | ptpSyncReceive _ _ _ _ _ _ _ _ _ _ _ => exact ⟨_, fun _ => by rw [exec, execPtpSyncReceive]⟩
  | ptpFollowUpReceive _ _ _ _ _ _ _ _ _ _ => exact ⟨_, fun _ => by rw [exec, execPtpFollowUpReceive]⟩
  | servoTimeout => exact ⟨_, fun _ => by rw [exec, execServoTimeout]⟩
  | xtalGate _ => exact ⟨_, fun _ => by rw [exec, execXtalGate]⟩
  | tsqPop _ _ => exact ⟨_, fun _ => by rw [exec, execTsqPop]⟩
  | pstateRequest _ _ _ => exact ⟨_, fun _ => by rw [exec, execPstateRequest]⟩
  | pstateTransitionDone _ => exact ⟨_, fun _ => by rw [exec, execPstateTransitionDone]⟩
  | clkGoodRise _ => exact ⟨_, fun _ => by rw [exec, execClkGoodRise]⟩
  | adaptRestart _ _ _ => exact ⟨_, fun _ => by rw [exec, execAdaptRestart]⟩
  | adaptDone _ => exact ⟨_, fun _ => by rw [exec, execAdaptDone]⟩
  | adaptFail _ _ => exact ⟨_, fun _ => by rw [exec, execAdaptFail]⟩
  | prbsInject _ _ _ => exact ⟨_, fun _ => by rw [exec, execPrbsInject]⟩
  | prbsClear _ _ _ => exact ⟨_, fun _ => by rw [exec, execPrbsClear]⟩
  | prbsLost _ _ _ => exact ⟨_, fun _ => by rw [exec, execPrbsLost]⟩
  | prbsErrLoRead _ _ _ _ _ => exact ⟨_, fun _ => by rw [exec, execPrbsErrLoRead]⟩
  | ulFrameReceive _ _ _ _ _ _ => exact ⟨_, fun _ => by rw [exec, execUlFrameReceive]⟩
  | ulFrameTransmit _ _ _ => exact ⟨_, fun _ => by rw [exec, execUlFrameTransmit]⟩
  | linkUp _ => exact ⟨_, fun _ => by rw [exec, execLinkUp]⟩
  | linkDown _ _ _ _ _ => exact ⟨_, fun _ => by rw [exec, execLinkDown]⟩
  | refclkDetect _ => exact ⟨_, fun _ => by rw [exec, execRefclkDetect]⟩
  | refclkLoss => exact ⟨_, fun _ => by rw [exec, execRefclkLoss]⟩
  | reflLock => exact ⟨_, fun _ => by rw [exec, execReflLock]⟩
  | clockFailure _ _ => exact ⟨_, fun _ => by rw [exec, execClockFailure]⟩
  | xtalBFailure _ => exact ⟨_, fun _ => by rw [exec, execXtalBFailure]⟩
  | xtalBReturn => exact ⟨_, fun _ => by rw [exec, execXtalBReturn]⟩
  | sysLock => exact ⟨_, fun _ => by rw [exec, execSysLock]⟩
  | sourceSwitch _ _ _ => exact ⟨_, fun _ => by rw [exec, execSourceSwitch]⟩
  | sourceSwitchDone _ => exact ⟨_, fun _ => by rw [exec, execSourceSwitchDone]⟩
  | deadSource _ _ => exact ⟨_, fun _ => by rw [exec, execDeadSource]⟩
  | gateRequest _ _ => exact ⟨_, fun _ => by rw [exec, execGateRequest]⟩
  | gateComplete _ => exact ⟨_, fun _ => by rw [exec, execGateComplete]⟩
  | gateTimeout _ => exact ⟨_, fun _ => by rw [exec, execGateTimeout]⟩
  | ungate _ _ => exact ⟨_, fun _ => by rw [exec, execUngate]⟩
  | clockFailClear _ _ _ _ => exact ⟨_, fun _ => by rw [exec, execClockFailClear]⟩
  | feedStateChange _ _ _ => exact ⟨_, fun _ => by rw [exec, execFeedStateChange]⟩
  | feedUsable _ => exact ⟨_, fun _ => by rw [exec, execFeedUsable]⟩
  | lastWordStart _ _ _ => exact ⟨_, fun _ => by rw [exec, execLastWordStart]⟩
  | lastWordRecordDone => exact ⟨_, fun _ => by rw [exec, execLastWordRecordDone]⟩
  | holdupOk _ => exact ⟨_, fun _ => by rw [exec, execHoldupOk]⟩
  | lwArmed => exact ⟨_, fun _ => by rw [exec, execLwArmed]⟩
  | powerOnReset _ => exact ⟨_, fun _ => by rw [exec, execPowerOnReset]⟩
  | rstNAssert => exact ⟨_, fun _ => by rw [exec, execRstNAssert]⟩
  | rstNRelease => exact ⟨_, fun _ => by rw [exec, execRstNRelease]⟩
  | pcieHotReset => exact ⟨_, fun _ => by rw [exec, execPcieHotReset]⟩
  | resetCold _ _ => exact ⟨_, fun _ => by rw [exec, execResetCold]⟩
  | resetWarm _ _ => exact ⟨_, fun _ => by rw [exec, execResetWarm]⟩
  | resetDomain _ _ => exact ⟨_, fun _ => by rw [exec, execResetDomain]⟩
  | releaseEscalated _ _ => exact ⟨_, fun _ => by rw [exec, execReleaseEscalated]⟩
  | domainResetDone _ => exact ⟨_, fun _ => by rw [exec, execDomainResetDone]⟩
  | releaseStep => exact ⟨_, fun _ => by rw [exec, execReleaseStep]⟩
  | watchdogKick _ _ => exact ⟨_, fun _ => by rw [exec, execWatchdogKick]⟩
  | watchdogWarn => exact ⟨_, fun _ => by rw [exec, execWatchdogWarn]⟩
  | watchdogExpiry => exact ⟨_, fun _ => by rw [exec, execWatchdogExpiry]⟩
  | calCommit _ _ => exact ⟨_, fun _ => by rw [exec, execCalCommit]⟩
  | calReload _ _ => exact ⟨_, fun _ => by rw [exec, execCalReload]⟩
  | calDone _ => exact ⟨_, fun _ => by rw [exec, execCalDone]⟩
  | quenchNAssert => exact ⟨_, fun _ => by rw [exec, execQuenchNAssert]⟩
  | qrelWrite _ _ => exact ⟨_, fun _ => by rw [exec, execQrelWrite]⟩
  | lockstepMismatch _ => exact ⟨_, fun _ => by rw [exec, execLockstepMismatch]⟩
  | cmpTest _ _ => exact ⟨_, fun _ => by rw [exec, execCmpTest]⟩
  | cmpTestDone _ => exact ⟨_, fun _ => by rw [exec, execCmpTestDone]⟩
  | holdOutputMismatch _ => exact ⟨_, fun _ => by rw [exec, execHoldOutputMismatch]⟩
  | thermalSample _ _ => exact ⟨_, fun _ => by rw [exec, execThermalSample]⟩
  | faultEvent _ _ _ _ => exact ⟨_, fun _ => by rw [exec, execFaultEvent]⟩
  | faultWindowClose _ _ => exact ⟨_, fun _ => by rw [exec, execFaultWindowClose]⟩
  | lastingExpiry _ _ => exact ⟨_, fun _ => by rw [exec, execLastingExpiry]⟩
  | coalIntervalEnd _ _ => exact ⟨_, fun _ => by rw [exec, execCoalIntervalEnd]⟩
  | ftClear _ _ => exact ⟨_, fun _ => by rw [exec, execFtClear]⟩
  | ftInject _ _ => exact ⟨_, fun _ => by rw [exec, execFtInject]⟩
  | txRingDoorbell _ _ _ _ => exact ⟨_, fun _ => by rw [exec, execTxRingDoorbell]⟩
  | rxRingConsume _ _ _ _ _ => exact ⟨_, fun _ => by rw [exec, execRxRingConsume]⟩
  | txFlowFrame _ _ _ _ _ _ _ _ _ _ _ => exact ⟨_, fun _ => by rw [exec, execTxFlowFrame]⟩
  | txAggFrame _ _ _ _ _ _ _ _ _ _ _ => exact ⟨_, fun _ => by rw [exec, execTxAggFrame]⟩
  | txPloam _ _ _ _ _ _ _ _ => exact ⟨_, fun _ => by rw [exec, execTxPloam]⟩
  | txOmci _ _ _ _ _ => exact ⟨_, fun _ => by rw [exec, execTxOmci]⟩
  | txAztilMessage _ _ _ _ _ => exact ⟨_, fun _ => by rw [exec, execTxAztilMessage]⟩
  | hostAggDequeue _ _ _ => exact ⟨_, fun _ => by rw [exec, execHostAggDequeue]⟩
  | dmaError _ _ _ _ _ => exact ⟨_, fun _ => by rw [exec, execDmaError]⟩
  | ringCoalesceTimeout _ _ => exact ⟨_, fun _ => by rw [exec, execRingCoalesceTimeout]⟩
  | pcieLinkChange _ _ _ => exact ⟨_, fun _ => by rw [exec, execPcieLinkChange]⟩
  | hiErrCntRead _ => exact ⟨_, fun _ => by rw [exec, execHiErrCntRead]⟩
  | hiOmciDropRead _ => exact ⟨_, fun _ => by rw [exec, execHiOmciDropRead]⟩
  | pmSnap _ _ _ => exact ⟨_, fun _ => by rw [exec, execPmSnap]⟩
  | pmCntLoRead _ _ _ _ => exact ⟨_, fun _ => by rw [exec, execPmCntLoRead]⟩
  | cvAlgWrite _ _ _ => exact ⟨_, fun _ => by rw [exec, execCvAlgWrite]⟩
  | cvStart _ _ _ => exact ⟨_, fun _ => by rw [exec, execCvStart]⟩
  | cvData8 _ _ _ => exact ⟨_, fun _ => by rw [exec, execCvData8]⟩
  | cvData16 _ _ _ => exact ⟨_, fun _ => by rw [exec, execCvData16]⟩
  | cvData32 _ _ _ => exact ⟨_, fun _ => by rw [exec, execCvData32]⟩
  | cvStatRead _ _ => exact ⟨_, fun _ => by rw [exec, execCvStatRead]⟩
  | quenchNRelease => exact ⟨_, fun _ => by rw [exec, execQuenchNRelease]⟩
  | prbsLock _ => exact ⟨_, fun _ => by rw [exec, execPrbsLock]⟩
  | prbsInjectDone _ => exact ⟨_, fun _ => by rw [exec, execPrbsInjectDone]⟩
  | soscFailure => exact ⟨_, fun _ => by rw [exec, execSoscFailure]⟩
  | opticBusError _ => exact ⟨_, fun _ => by rw [exec, execOpticBusError]⟩
  | pcieUncorrectableError => exact ⟨_, fun _ => by rw [exec, execPcieUncorrectableError]⟩
  | inputCurrentHigh _ => exact ⟨_, fun _ => by rw [exec, execInputCurrentHigh]⟩
  | aztilMessageAck _ _ _ => exact ⟨_, fun _ => by rw [exec, execAztilMessageAck]⟩

/-- A step with a command in front is that command on the rest of the queue. -/
theorem step_cons (s : State) (c : Instr) (l : List Instr) :
    step { s with pending := c :: l } = exec c { s with pending := l } := rfl

/-- A step with none waiting lets time pass. -/
theorem step_nil (s : State) (h : s.pending = []) : step s = .next { s with dev := s.dev.idle } := by
  simp [step, h]

end Sys2Proof.Machine
end

