-- ==== Sys2Proof/Tests/Slice0.lean ====
section
/-! SUPPORT. Small checks of single steps, the ill-formed commands that WellFormed refuses, and for every statement with
hypotheses a state and operands that meet them (`wit_<statement>`). -/

namespace Sys2Proof.Tests

set_option Elab.async false

open Sys2Proof Sys2Proof.Machine

/-- The physical function at its own BAR0. -/
def T0 : By := { func := 0, slot := 0 }
/-- A function that does not exist. -/
def B16 : By := { func := 16, slot := 0 }
/-- Function 1 at slot 0 of its window. -/
def F1 : By := { func := 1, slot := 0 }
/-- An empty mirror record of tree 0. -/
def rec0 : MirrorRec :=
  { sfc := 1, tree := 0, subst := false, arrOfs := 0, queued := 0, digest := 0, map := [], deltas := [], keys := [] }

/-- A module that has come up: every domain released, the release sequence over. -/
def up : Dev :=
  { Dev.reset with
    clk := { Dev.reset.clk with dom := (List.range 179).map (fun k => (k, { Dom.init with released := true })) }
    pwr := { Dev.reset.pwr with scope := 0 } }
/-- Pages enabled. -/
def en (d : Dev) (l : List Page) : Dev := l.foldl (fun (x : Dev) p => x.wr p PAGE_CTRL.EN 1) d
/-- A state with a device and nothing waiting. -/
def st (d : Dev) : State := { dev := d, pending := [] }
/-- The device after a command, or the one given where it did not answer a next state. -/
def aft (c : Instr) (d : Dev) : Dev :=
  match exec c (st d) with
  | .next s => s.dev
  | _ => d

/-! ## Witnesses: the queue, registers, tables -/

/-- The window of BD set to table `t`, entry `i`, command word fields `op` and `arg`. -/
def bdWin (d : Dev) (t i op arg : Nat) : Dev :=
  (d.wrs .bd [(TBL_SEL.TABLE, t), (TBL_INDEX.INDEX, i)]).tblStart .bd op arg
/-- A table command in progress on page number `n`. -/
def busy (d : Dev) (n : Nat) (c : TblCmd) : Dev :=
  { d with fab := { d.fab with tcmd := d.fab.tcmd.put none n (some c) } }

theorem wit_FrontCommandRuns : ∃ s c l, State.pending s = c :: l := ⟨{ dev := up, pending := [.linkUp 0] }, _, _, rfl⟩
theorem wit_EmptyQueueIdles : (st up).pending = [] := rfl
theorem wit_StepLeavesNoEvent : ∃ t, step (st up) = .next t := ⟨_, rfl⟩
theorem wit_CommandsIgnoreQueue : ∃ t, exec .soscFailure (st up) = .next t := ⟨_, rfl⟩
theorem wit_EveryCommandAnswers :
    (Instr.frameStart 47).wellFormed = true ∧ (Instr.frameStart 48).wellFormed = false := by decide
theorem wit_StoreOperationsKeepCanonical : Dev.reset.canonical = true ∧ Tbl.clCnt.isCounter = true := by decide +kernel
theorem wit_RegisterWriteTaken :
    (Instr.registerWrite T0 0x73f 0x100 (.write 5)).wellFormed = true ∧ up.pageOf T0 0x73f = some (.bwt 47) ∧
    BW_TREE_CFG.EN ∈ (Page.bwt 47).at 0x100 ∧ up.accepts T0 (.bwt 47) BW_TREE_CFG.EN 5 = true ∧
    up.readable T0 (.bwt 47) = true ∧ up.present 0 = true ∧ T0.ok = true := by decide +kernel
theorem wit_RegisterWriteFields_1 : (∃ g ∈ (Page.bwt 47).at 0x100, g.acc = .rw) ∧ T0.func = 0 ∧ F1.func ≠ 0 ∧
    up.mayWrite F1.func (.bwt 47) BW_TREE_CFG.EN = false := by decide +kernel
theorem wit_RegisterWriteFields_2 : (∃ g ∈ (Page.cv 0).at 0x104, g.acc = .rwt) ∧ T0.func = up.owner (.cv 0) ∧
    F1.func ≠ up.owner (.cv 0) ∧ ∀ h ∈ (Page.cv 0).at 0x104, (Page.cv 1).key CV_INIT.INIT ≠ (Page.cv 0).key h := by
  decide +kernel
theorem wit_InterruptRegistersComplete : up.pageOf T0 0x1 = some .ck ∧
    (Instr.intRawClear T0 0x1 31).wellFormed = true ∧ up.accepts T0 .ck INT_RAW.RAW 31 = true ∧
    (Instr.intForceWrite T0 0x1 31).wellFormed = true ∧ up.accepts T0 .ck INT_FORCE.FORCE 31 = true ∧
    (Instr.errCountRead T0 0x1).wellFormed = true ∧ up.readable T0 .ck = true := by decide +kernel
theorem wit_PageOwnerWriteCompletes_1 : (Instr.pageOwnerWrite T0 0xa0 0x10003).wellFormed = true ∧
    up.pageOf T0 0xa0 = some (.cv 0) ∧ up.names T0 (.cv 0) = true ∧ up.deny T0 (.cv 0) true = 0 ∧
    up.ownerBad (.cv 0) 1 3 = false ∧ up.rd (.cv 0) TBL_STAT.BUSY = 0 ∧ up.ownerBad (.cv 0) 0 0 = true := by decide +kernel
theorem wit_PageOwnerWriteCompletes_2 : let d := up.wr (.hir 1) TBL_STAT.BUSY 1
    d.pageOf T0 0x31 = some (.hir 1) ∧ d.names T0 (.hir 1) = true ∧ d.deny T0 (.hir 1) true = 0 ∧
    d.ownerBad (.hir 1) 1 3 = false ∧ d.rd (.hir 1) TBL_STAT.BUSY ≠ 0 := by decide +kernel
theorem wit_PageControlCompletes : T0.ok = true ∧ up.pageOf T0 0x6e0 = some (.te 47 0) ∧
    PAGE_CTRL.SOFT_RST.get 1 = 0 ∧ up.accepts T0 (.te 47 0) PAGE_CTRL.EN 1 = true ∧ (Page.te 47 0).cap.quiesce = true ∧
    up.accepts T0 (.te 47 0) PAGE_CTRL.EN (PAGE_CTRL.QUIESCE_REQ.set 1 1) = true ∧
    up.accepts T0 (.te 47 0) PAGE_CTRL.EN (PAGE_CTRL.QUIESCE_REQ.set 1 0) = true ∧ (Page.te 47 0).cap.softrst = true ∧
    up.accepts T0 (.te 47 0) PAGE_CTRL.EN (PAGE_CTRL.SOFT_RST.set 1 1) = true := by decide +kernel
theorem wit_QuiesceAndResetEnd : let d := up.wr (.te 47 1) PAGE_CTRL.QUIESCE_REQ 1
    Page.ofNum 0x6e1 = some (.te 47 1) ∧ d.live (.te 47 1) = true ∧ d.on (.te 47 1) PAGE_CTRL.QUIESCE_REQ = true ∧
    d.burstsOut (.te 47 1) = false := by decide +kernel
theorem wit_BlockResetKeepsRws : Page.ofNum (Page.te 47 2).num = some (.te 47 2) ∧ (Page.te 47 2).cap.softrst = true ∧
    PAGE_OWNER.OWNER ∈ (Page.te 47 2).fields ∧ Page.ofNum (Page.te 47 1).num = some (.te 47 1) := by decide +kernel
theorem wit_TableCommandsComplete_0 : up.pageOf T0 0x760 = some .bd ∧ up.rd .bd TBL_STAT.BUSY = 0 ∧
    up.accepts T0 .bd TBL_CMD.OP (TBL_CMD.OP.set 0 0) = true := by decide +kernel
theorem wit_TableCommandsComplete_1 : let d := bdWin up 0 23 1 0
    d.accepts T0 .bd TBL_CMD.OP (TBL_CMD.OP.set 0 1) = true ∧ (d.tblStart .bd 1 0).tblPick .bd = some (.bdGroup, false) ∧
    d.rd .bd TBL_INDEX.INDEX < (d.tblStart .bd 1 0).tblSize .bdGroup := by decide +kernel
/-- An entry of a group of two members. -/
def pair23 : Nat := BD_GROUP.SIZE.set (up.viewEntry .bdGroup 23) 1
theorem wit_TableCommandsComplete_2 : let x := (up.tblLoad .bd 0 23 pair23).tblStart .bd 2 0
    (up.tblLoad .bd 0 23 pair23).accepts T0 .bd TBL_CMD.OP (TBL_CMD.OP.set 0 2) = true ∧ x.tblPick .bd = some (.bdGroup, false) ∧
    23 < x.tblSize .bdGroup ∧ x.imageCheck 0 .bdGroup 23 (x.tblData .bd) = 0 := by decide +kernel
theorem wit_TableCommandsComplete_3 : let d := bdWin up 0 23 3 0
    let x := d.tblStart .bd 3 0
    d.accepts T0 .bd TBL_CMD.OP (TBL_CMD.OP.set 0 3) = true ∧ x.tblPick .bd = some (.bdGroup, false) ∧
    23 < x.tblSize .bdGroup ∧ x.imageCheck 0 .bdGroup 23 (rmwImage 0 (x.viewEntry .bdGroup 23) (x.tblData .bd)) = 0 := by
  decide +kernel
theorem wit_TableCommandsComplete_4 : let d := bdWin up 0 0 4 23
    let x := d.tblStart .bd 4 23
    d.accepts T0 .bd TBL_CMD.OP (TBL_CMD.OP.set (TBL_CMD.ARG.set 0 23) 4) = true ∧ x.tblPick .bd = some (.bdGroup, false) ∧
    0 + 23 < x.tblSize .bdGroup ∧ ∀ k ≤ 23, x.clearCheck 0 .bdGroup k = 0 := by decide +kernel
theorem wit_TableCommandsEnd : Page.ofNum 0x801 = some (.cl 1) ∧
    (busy up 0x801 TblCmd.ok).fab.tcmd.get none 0x801 = some TblCmd.ok ∧
    (busy up 0x801 { TblCmd.ok with drain := true }).fab.tcmd.get none 0x801 = some { TblCmd.ok with drain := true } ∧
    TblCmd.ok.drain = false ∧ 0x801 = (Page.cl 1).num := by decide +kernel
theorem wit_TableErrorChangesNothing : ((bdWin up 0 24 2 0).tblRun 0 .bd 2 0 false).1.code ≠ 0 := by decide +kernel
theorem wit_TableIndexNeverWraps : (bdWin up 0 24 1 0).tblPick .bd = some (.bdGroup, false) ∧
    (bdWin up 0 24 1 0).tblSize .bdGroup ≤ (bdWin up 0 24 1 0).rd .bd TBL_INDEX.INDEX ∧
    (bdWin up 0 0 4 24).tblSize .bdGroup ≤ (bdWin up 0 0 4 24).rd .bd TBL_INDEX.INDEX + 24 := by decide +kernel
theorem wit_BusyWindowDiscards : (up.wr .bd TBL_STAT.BUSY 1).rd .bd TBL_STAT.BUSY ≠ 0 := by decide +kernel
theorem wit_EntryCommandsComplete_1 : let d := up.tblLoad .bd 0 23 pair23
    up.accepts T0 .bd TBL_CMD.OP 0 = true ∧ up.rd .bd TBL_STAT.BUSY = 0 ∧
    (d.tblStart .bd 2 0).imageCheck 0 .bdGroup 23 pair23 = 0 ∧ pair23 < 2 ^ 512 ∧ up.accepts T0 .px0 TBL_CMD.OP 0 = true ∧
    ((up.tblLoad .px0 0 47 0).tblStart .px0 2 0).imageCheck 0 .pxRole 47 0 = 0 := by decide +kernel
/-- The check of an RMW of one field, by T0. -/
def rmwOk (t : Tbl) (i : Nat) (f : Fld) (v : Nat) : Bool :=
  let y := (up.tblLoad t.page t.slot i (f.set (up.viewEntry t i % 2 ^ 32) v)).tblStart t.page 3 1
  up.accepts T0 t.page TBL_CMD.OP 0 && y.imageCheck 0 t i (rmwImage 1 (y.viewEntry t i) (y.tblData t.page)) == 0
theorem wit_EntryCommandsComplete_2 : rmwOk .bdGroup 23 BD_GROUP.SIZE 0 = true ∧ rmwOk .bdGroup 23 BD_GROUP.LINE_MODE 0 = true ∧
    rmwOk .ckDomainCtrl 178 CK_DOMAIN_CTRL.GATE 0 = true := by decide +kernel
theorem wit_EntryCommandsComplete_3 : rmwOk .ckDomainCtrl 178 CK_DOMAIN_CTRL.GATE 1 = true ∧
    rmwOk .ckDomainCtrl 178 CK_DOMAIN_CTRL.SRC 33 = true := by decide +kernel

/-! ## Witnesses: faults, lanes, links -/

/-- The module a millisecond after reset, QUENCH_N high. -/
def late : Dev := { (up.wr .rs RS_KEYS.QUENCH_PIN 0) with now := 1000000 }
/-- A lasting state of a class. -/
def last0 (cls unit act : Nat) : Lasting := { cls := cls, unit := unit, act := act, lastEv := 0, wMs := 10 }
/-- A state with one lasting state. -/
def lasts (d : Dev) (l : Lasting) : Dev := { d with ft := { d.ft with lasting := [l] } }

theorem wit_SupervisorCommandsComplete_1 : late.rd .rs RS_KEYS.QUENCH_PIN = 0 ∧
    (late.wr .rs RS_KEYS.QUENCH_PIN 1).rd .rs RS_KEYS.QUENCH_PIN ≠ 0 ∧
    (Instr.qrelWrite T0 0).wellFormed = true ∧ late.accepts T0 .rs RS_KEYS.QREL (RS_KEYS.QREL.set 0 1) = true ∧
    late.sup.quenchHighAt + 1000 ≤ late.now ∧ late.quenchAll = false ∧ late.rd .rs RS_KEYS.MISMATCH = 0 := by decide +kernel
theorem wit_SupervisorCommandsComplete_2 : (Instr.lockstepMismatch 7).wellFormed = true ∧
    (Instr.cmpTest T0 0).wellFormed = true ∧ late.accepts T0 .rs RS_SUP_CTRL.CMP_TEST (RS_SUP_CTRL.CMP_TEST.set 0 1) = true ∧
    (late.wr .rs RS_SUP_STAT.CMP_RUN 1).rd .rs RS_SUP_STAT.CMP_RUN ≠ 0 := by decide +kernel
theorem wit_FaultCommandsComplete_1 : (Instr.faultEvent 53 0 none 8).wellFormed = true ∧ 0 < (ftRow 53).count ∧
    (Instr.faultEvent 63 0 (some 255) 0).wellFormed = true ∧ (Instr.opticBusError 0).wellFormed = true ∧
    (Instr.thermalSample 0 1120).wellFormed = true ∧ (Instr.thermalSample 0 959).wellFormed = true ∧
    (Instr.faultWindowClose 49 1).wellFormed = true := by decide +kernel
theorem wit_FaultCommandsComplete_2 : (Instr.lastingExpiry 49 1).wellFormed = true ∧
    (lasts up (last0 49 1 3)).lastingAt 49 1 = some (last0 49 1 3) ∧ (last0 49 1 3).act = 3 := by decide +kernel
theorem wit_FaultCommandsComplete_3 : (Instr.coalIntervalEnd 49 1).wellFormed = true ∧
    ((up.setFtKey 49 1 { up.ftKey 49 1 with coal := some ⟨0, 0, 0, 1, 0, 0, 0, false, 0, false⟩ }).ftKey 49 1).coal.isSome =
      true := by decide +kernel
theorem wit_FaultCommandsComplete_4 : let v := FT_CMD.CLASS.set (FT_CMD.INST.set 0 1) 49
    (Instr.ftClear T0 v).wellFormed = true ∧ up.accepts T0 .ft FT_CMD.OP (FT_CMD.OP.set v 1) = true ∧
    up.accepts T0 .ft FT_CMD.OP (FT_CMD.OP.set v 2) = true ∧ FT_CMD.CLASS.get v = 49 ∧ FT_CMD.INST.get v = 1 ∧
    1 < (ftRow 49).count ∧ ((lasts up (last0 49 1 3)).lastingAt 49 1).isSome = true := by decide +kernel

/-- Lane `l` as it stands with a value written into its page. -/
def ln (l : Nat) (f : Fld) (v : Nat) : Dev := up.wr (.ln l) f v
theorem wit_LaneStateComplete_1 : (Instr.pstateRequest T0 87 2).wellFormed = true ∧
    up.accepts T0 (.ln 87) LN_PSTATE.TARGET 2 = true ∧ LN_PSTATE.TARGET.get 2 ≠ 3 ∧ up.laneActive 87 = false ∧
    up.prbsOn 87 = false ∧ up.accepts T0 (.ln 0) LN_PSTATE.TARGET 0 = true ∧ LN_PSTATE.TARGET.get 0 = 0 ∧
    (ln 87 LN_PSTATE.TRANS 1).rd (.ln 87) LN_PSTATE.TRANS ≠ 0 := by decide +kernel
theorem wit_LaneStateComplete_2 : (Instr.adaptRestart T0 48 0).wellFormed = true ∧
    up.accepts T0 (.ln 48) LN_RX_ADAPT.RESTART (LN_RX_ADAPT.RESTART.set 0 1) = true ∧
    (ln 87 LN_RX_ADAPT.STATE 1).adapting 87 = true ∧ (ln 87 LN_RX_ADAPT.STATE 3).adapting 87 = true := by decide +kernel
theorem wit_PrbsComplete_1 : let d := ln 87 LN_PRBS.GEN_EN 1
    let v := LN_PRBS_INJ.LEN.set 0 1
    (Instr.prbsInject T0 87 v).wellFormed = true ∧ d.accepts T0 (.ln 87) LN_PRBS_INJ.INJ (LN_PRBS_INJ.INJ.set v 1) = true ∧
    LN_PRBS_INJ.LEN.get v ≠ 0 ∧ d.rd (.ln 87) LN_PRBS.GEN_EN ≠ 0 ∧ d.rd (.ln 87) LN_PRBS_INJ.PENDING = 0 := by
  decide +kernel
theorem wit_PrbsComplete_2 : let w := LN_PRBS.CLR.set (LN_PRBS.GEN_POLY.set 0 4) 1
    (Instr.prbsClear T0 0 (LN_PRBS.GEN_POLY.set 0 4)).wellFormed = true ∧ up.accepts T0 (.ln 0) LN_PRBS.CLR w = true ∧
    LN_PRBS.GEN_POLY.get w < 5 ∧ LN_PRBS.CHK_POLY.get w < 5 ∧ up.laneActive 0 = false := by decide +kernel
theorem wit_PrbsComplete_3 : (ln 0 LN_PRBS.CHK_EN 1).rd (.ln 0) LN_PRBS.CHK_EN ≠ 0 ∧
    (Instr.prbsLost 87 31 1).wellFormed = true ∧ (ln 87 LN_PRBS.CHK_LOCK 1).rd (.ln 87) LN_PRBS.CHK_LOCK ≠ 0 ∧
    (Instr.prbsErrLoRead T0 87 true 31 1).wellFormed = true ∧
    ((ln 87 LN_PRBS.CHK_LOCK 1).prbsCompared 87 31 1).readable T0 (.ln 87) = true := by decide +kernel

/-- Port `u` enabled, its lanes up, its link up. -/
def portUp (u : Nat) : Dev :=
  let d := (en up [.ulp u, .cl 0]).wr (.ulp u) UL_PORT_STAT.LINK_UP 1
  (d.portLanes u).foldl (fun (x : Dev) l => (x.wrT .ckDomainCtrl (59 + l) CK_DOMAIN_CTRL.CLK_GOOD 1).wrs (.ln l)
    [(LN_PSTATE.STATE, 0), (LN_PSTATE.TARGET, 0), (LN_STAT.SIG_DET, 1), (LN_STAT.CDR_LOCK, 1), (LN_RX_ADAPT.STATE, 2)]) d
/-- A frame at port 0's MAC. -/
def macF : TxFrame := { handle := 0, tag := 0, bytes := List.replicate 60 0#8, req := none }
theorem wit_UplinkComplete_1 : (portUp 0).portOn 0 = true ∧ (portUp 0).portLanesGood 0 = true ∧
    ((portUp 0).wr (.ulp 0) UL_PORT_STAT.LINK_UP 0).portOn 0 = true ∧
    ((portUp 0).wr (.ulp 0) UL_PORT_STAT.LINK_UP 0).portLanesGood 0 = true ∧
    ((portUp 0).wr (.ulp 0) UL_PORT_STAT.LINK_UP 0).rd (.ulp 0) UL_PORT_STAT.LINK_UP = 0 ∧
    (portUp 31).rd (.ulp 31) PAGE_CTRL.EN ≠ 0 ∧ (true && !true && !false) = false := by decide +kernel
theorem wit_UplinkComplete_2 : let b := List.replicate 60 1#8
    (Instr.ulFrameReceive 0 (withFcs b) false 0 0 0).wellFormed = true ∧ (portUp 0).rd (.ulp 0) UL_PORT_STAT.LINK_UP ≠ 0 ∧
    60 ≤ b.length ∧ b.length + 4 ≤ (portUp 0).rd (.ulp 0) UL_PORT_CFG.MAX_FRAME ∧ beAt b 12 2 ≠ 0x8808 ∧
    (portUp 0).takes (.cl 0) = true := by decide +kernel
/-- A frame whose FCS does not fit is counted and goes no further (R349). -/
theorem test_bad_fcs : let d := Dev.ulReceive 0 (List.replicate 64 1#8) false 0 0 0 (portUp 0)
    d.path.cl = [] ∧ d.rdT (.ulCnt 0) 2 ⟨0, 0, 32, .ro, 0⟩ = 1 := by decide +kernel
theorem wit_UplinkComplete_3 :
    let d := { portUp 0 with path := { (portUp 0).path with mac := (portUp 0).path.mac.put [] 0 [macF] } }
    d.portOn 0 = true ∧ d.rd (.ulp 0) UL_PORT_STAT.LINK_UP ≠ 0 ∧ d.macNext 0 = some (macF, []) ∧ macF.req = none := by
  decide +kernel

/-! ## Witnesses: buffers, scheduler, classifier, cipher engine -/

/-- The packet path enabled. -/
def pth : Dev := en up [.bp 0, .sc 0, .cl 0, .cx0]
/-- A result for flow `f` at the pools' input. -/
def adm (f : Nat) : Admit :=
  { rt := 0, first := .flow f, second := none, bytes := List.replicate 60 0#8, ts := none, source := 0, req := none, tx := none }
/-- The path with one result waiting. -/
def withAdm (d : Dev) : Dev := d.setBp { d.path.bp with inq := [adm 131071] }
/-- Descriptor 0 of the lowest pool taken for flow 131071. -/
def held : Dev := (pth.wr (.bp 0) BP_CTRL.MODE 1).takeBuf (adm 131071) 0 0 0 0
/-- Its handle, and the tag of its holder. -/
def h0 : Nat := held.handleOf 0
def t0 : Nat := held.rdT .bpDesc 0 BP_DESC.HOLDER_A
/-- A frame in the queue of aggregate `a`, whose port is up. -/
def aggHeld (a : Nat) : Dev :=
  let d := ((en (portUp 0) [.bp 0, .sc 0]).wr (.bp 0) BP_CTRL.MODE 1).wrTs .scNode 111952 [(SC_NODE.EN, 1)]
  let e := d.takeBuf { adm 0 with first := .agg a } 0 (d.acctFor (.agg a)) 0 0
  e.enqueue (aggQ a) { handle := e.handleOf 0, tag := e.targetTag (.agg a), isB := false, len := 60, enq := 0, req := none }
/-- The head of that queue. -/
def aggHead (a : Nat) : Held :=
  { handle := 1048576, tag := (aggHeld a).targetTag (.agg a), isB := false, len := 60, enq := 0, req := none }
theorem wit_AdmissionCompletes :
    (let d := (withAdm pth).drainOut
     d.path.bp.inq = [adm 131071] ∧ d.takes (.bp 0) = true ∧
     2 ≤ d.admission (d.acctFor (adm 131071).first) (poolOf (adm 131071).bytes.length)) ∧
    (let d := (withAdm (pth.wr (.bp 0) BP_CTRL.MODE 1)).drainOut
     d.path.bp.inq = [adm 131071] ∧ d.takes (.bp 0) = true ∧
     d.admission (d.acctFor (adm 131071).first) (poolOf (adm 131071).bytes.length) < 2 ∧ d.tierOf 0 = some 0 ∧
     d.descFree 0 0 0 = true ∧ d.enqCheck (adm 131071).rt (adm 131071).first = 0) := by decide +kernel
theorem wit_BufferTaken : (adm 131071).bytes.length < 16385 := by decide
theorem wit_ReleaseCompletes_1 : held.path.bp.cycle = [] ∧ h0 < 2 ^ 28 ∧ t0 < 2 ^ 26 ∧ held.path.bp.retired.contains (handleIdx h0) = false ∧
    held.rdT .bpDesc (handleIdx h0) BP_DESC.GEN = h0 / 1048576 ∧ tagFits t0 = true ∧
    held.rdT .bpDesc (handleIdx h0) BP_DESC.REFCNT = 1 ∧ held.rdT .bpDesc (handleIdx h0) BP_DESC.HOLDER_A = t0 ∧
    held.rdT .bpDesc (handleIdx h0) BP_DESC.LAST = 1 := by decide +kernel
/-- The buffer with a second holder: a copy for function 0's ring. -/
def held2 : Dev := (pth.wr (.bp 0) BP_CTRL.MODE 1).takeBuf { adm 131071 with second := some (.ring 0 1) } 0 0 0 0
theorem wit_ReleaseCompletes_2 : let t1 := held2.rdT .bpDesc 0 BP_DESC.HOLDER_B
    held2.path.bp.cycle = [] ∧ held2.path.bp.retired.contains (handleIdx h0) = false ∧ held2.rdT .bpDesc (handleIdx h0) BP_DESC.GEN = h0 / 1048576 ∧
    tagFits t1 = true ∧ held2.rdT .bpDesc 0 BP_DESC.REFCNT = 2 ∧ held2.rdT .bpDesc 0 BP_DESC.HOLDER_A = t0 ∧
    held2.rdT .bpDesc 0 BP_DESC.HOLDER_A ≠ t1 ∧ t1 ≠ 0 ∧ t1 < 2 ^ 26 := by decide +kernel
theorem wit_ReleaseCompletes_3 : let r : TubRef := ⟨h0, t0, t0, 1, 1, 0⟩
    (held.setBp { held.path.bp with tub := [r] }).path.bp.tub = [r] := by decide +kernel
theorem wit_RejectedReturnKeepsBuffer : held.rdT .bpDesc (handleIdx 0) BP_DESC.GEN ≠ 0 / 1048576 ∧
    pth.rdT .bpDesc 1048575 BP_DESC.REFCNT = 0 ∧ held.path.bp.retired.contains (handleIdx h0) = false ∧
    held.rdT .bpDesc (handleIdx h0) BP_DESC.GEN = h0 / 1048576 ∧ held.rdT .bpDesc (handleIdx h0) BP_DESC.REFCNT ≠ 0 ∧
    held.rdT .bpDesc (handleIdx h0) BP_DESC.HOLDER_A ≠ 1 ∧ held.rdT .bpDesc (handleIdx h0) BP_DESC.HOLDER_B ≠ 1 := by
  decide +kernel
theorem wit_SchedulerComplete_1 : let d := aggHeld 16367
    d.takes (.sc 0) = true ∧ d.drainOut.choose 48 = some (aggQ 16367) ∧
    (d.drainOut.queue (aggQ 16367)).frames = [aggHead 16367] ∧ d.drainOut.deqOk (aggQ 16367) (aggHead 16367) = true ∧ 131072 ≤ aggQ 16367 := by decide +kernel
theorem wit_SchedulerComplete_2 : let h := { aggHead 0 with req := some ⟨0, 0, 0, 0, 0, some (10, 5)⟩ }
    let d := ({ pth with time := { pth.time with ns := 5 } }).setQueue (aggQ 0) { Queue.init with frames := [h] }
    (d.queue (aggQ 0)).frames = [h] ∧ h.req.bind TxReq.launch = some (10, 5) ∧ 5 ≤ d.nowNs := by decide +kernel
theorem wit_SchedulerComplete_3 : let v := SC_CMD.QUEUE.set 0 147455
    (Instr.flush T0 v).wellFormed = true ∧ pth.accepts T0 (.sc 0) SC_CMD.OP (SC_CMD.OP.set v 1) = true ∧
    pth.rd (.sc 0) SC_CMD.STAT ≠ 1 ∧ SC_CMD.QUEUE.get v < 147456 ∧
    (pth.wr (.sc 0) SC_CMD.STAT 1).rd (.sc 0) SC_CMD.STAT = 1 ∧
    (let d := pth.wr (.sc 0) SC_SAMPLE_CFG.EN 1
     d.enabled (.sc 0) = true ∧ d.rd (.sc 0) SC_SAMPLE_CFG.EN ≠ 0 ∧ d.rdT .scSample 147455 SC_SAMPLE.DLY_THR = 65535 ∧
     d.rdT .scSample 147455 SC_SAMPLE.DEP_THR = 65535) := by decide +kernel

/-- Flow 131071: tree 47, ONU 255, XGEM port 2000, upstream profile 63 of the upstream direction. -/
def flw : Dev := (pth.wrTs .clFlow 131071 [(CL_FLOW.VALID, 1), (CL_FLOW.US_EN, 1), (CL_FLOW.TREE, 47), (CL_FLOW.ONU, 255),
    (CL_FLOW.XGEM_PORT, 2000), (CL_FLOW.US_PROFILE, 63), (CL_FLOW.KEY_CTX, 32766), (CL_FLOW.CIPHER_EN, 0)]).wrTs .clProfile 63
    [(CL_PROFILE.VALID, 1), (CL_PROFILE.DIR, 1)]
/-- Inputs at the classifier. -/
def clI (up : Bool) (p f : Nat) : ClIn := { up := up, port := p, flow := f, bytes := List.replicate 60 0#8, ts := none }
/-- An upstream XGEM frame of that ONU. -/
def usx (k : Nat) : UsXgem :=
  { onu := 255, port := 2000, keyIdx := k, sfc := 1, pos := 0, seq := 0, allocId := 1024, payload := [1#8, 2#8] }
theorem wit_ClassifierComplete_1 :
    let d := { pth.wrTs .clProfile 0 [(CL_PROFILE.VALID, 1)] with path := { pth.path with cl := [clI false 31 0] } }
    d.takes (.cl 0) = true ∧ takeIn (fun y => !y.up && y.port == 31) d.path.cl = some (clI false 31 0, []) ∧
    0 = d.rdT .clPortProf 31 CL_PORT_PROF.PROFILE ∧ d.profOk 0 false = true := by decide +kernel
theorem wit_ClassifierComplete_2 : let d := { flw with path := { flw.path with cl := [clI true 47 131071] } }
    d.takes (.cl 0) = true ∧ takeIn (fun y => y.up && y.port == 47) d.path.cl = some (clI true 47 131071, []) ∧
    63 = d.rdT .clFlow 131071 CL_FLOW.US_PROFILE ∧ d.rdT .clProfile 63 CL_PROFILE.VALID ≠ 0 ∧
    d.rdT .clProfile 63 CL_PROFILE.DIR ≠ 0 := by decide +kernel
theorem wit_ClassifierComplete_3 : let d := flw.setCx { flw.path.cx with us := flw.path.cx.us.put [] 47 [usx 1] }
    d.takes (.cl 0) = true ∧ takeIn (fun y => y.up && y.port == 47) d.path.cl = none ∧
    d.path.cx.us.get [] 47 = [usx 1] ∧ d.usFlow 47 (usx 1).port = some 131071 ∧
    d.rdT .clFlow 131071 CL_FLOW.ONU = (usx 1).onu := by decide +kernel

/-- That flow encrypted under context 32767, the second of its pair, valid and in use downstream. -/
def enc : Dev := ((flw.wrT .clFlow 131071 CL_FLOW.CIPHER_EN 1).wrTs .cxKey 32767 [(CX_KEY.VALID, 1), (CX_KEY.ACTIVE_DS, 1)]).wrTs
  .cxKey 32767 [(CX_KEY.TAG_TREE, 47), (CX_KEY.TAG_ONU, 255), (CX_KEY.TAG_TENANT, 0),
    (CX_KEY.TAG_P, keyTag 0 47 255 / 2 ^ 19)]
/-- Tree 47 sends and has room. -/
def sends47 (d : Dev) : Dev :=
  let e := (en d [.te 47 0]).wr (.te 47 0) TE_TX_STAT.FSTATE 2
  e.setFr 47 { e.fr 47 with room := 65536 }
/-- A downstream frame at the cipher engine. -/
def cxi : CxItem := { flow := 131071, handle := 0, tag := 0, bytes := List.replicate 60 0#8 }
/-- The cipher engine with that frame waiting. -/
def withCx (d : Dev) : Dev := d.setCx { d.path.cx with ds := d.path.cx.ds.put [] 47 [cxi] }
theorem wit_CipherComplete_1 : let d := withCx (sends47 flw)
    d.encReady 47 = true ∧ d.standby 47 = false ∧ d.takeItem (d.path.cx.ds.get [] 47) = some (cxi, []) ∧
    d.rdT .clFlow cxi.flow CL_FLOW.CIPHER_EN = 0 := by decide +kernel
theorem wit_CipherComplete_2 : let d := withCx (sends47 enc)
    d.encReady 47 = true ∧ d.standby 47 = false ∧ d.takeItem (d.path.cx.ds.get [] 47) = some (cxi, []) ∧
    d.rdT .clFlow cxi.flow CL_FLOW.CIPHER_EN ≠ 0 ∧ d.dsKey (d.flowPair cxi.flow) = some 32767 ∧
    d.keyTagOk cxi.flow 32767 false = true ∧ d.rdT .cxKey 32767 CX_KEY.HWM_SFC ≤ d.sfc (d.lead 47) := by decide +kernel
/-- A matched upstream frame waiting for decryption. -/
def withDec (d : Dev) (k : Nat) : Dev := d.setCx { d.path.cx with dec := d.path.cx.dec.put [] 47 [(131071, usx k)] }
theorem wit_CipherComplete_3 : (withDec flw 0).path.cx.dec.get [] 47 = [(131071, usx 0)] ∧
    (withDec flw 0).rdT .clFlow 131071 CL_FLOW.CIPHER_EN = 0 ∧ (usx 0).keyIdx = 0 := by decide +kernel
theorem wit_CipherComplete_4 : let d := withDec enc 2
    d.path.cx.dec.get [] 47 = [(131071, usx 2)] ∧ d.rdT .clFlow 131071 CL_FLOW.CIPHER_EN ≠ 0 ∧ d.enabled .cx0 = true ∧
    (usx 2).keyIdx = 2 ∧ d.flowPair 131071 * 2 + ((usx 2).keyIdx - 1) = 32767 ∧ d.rdT .cxKey 32767 CX_KEY.VALID ≠ 0 ∧
    d.keyTagOk 131071 32767 true = true ∧
    (d.setCx { d.path.cx with scan := [16383] }).path.cx.scan.contains 16383 = true := by decide +kernel

/-- The device with 15 virtual functions enabled. -/
def vfs (d : Dev) : Dev := { d with hif := { d.hif with numVfs := 15 } }
/-- Function 15's job queue ready, its window one KIND 3 context. -/
def jobs : Dev :=
  let d := (en (vfs pth) [.cxt 15]).wrs (.cxt 15) [(CX_JOBQ_CFG.EN, 1), (CX_JOBQ_PI.PI, 1)]
  ((d.wr .cx0 CX_CTRL.JOB_EN 1).wrTs .cxJobWin 15 [(CX_JOB_WIN.BASE, 32767), (CX_JOB_WIN.COUNT, 1)]).wrTs .cxKey 32767
    [(CX_KEY.VALID, 1), (CX_KEY.KIND, 3)]
/-- A job of one byte more than a chunk, as the core begins it. -/
def job1 : Job := ⟨1, 0, 32767, 4097, [1#8], [], 0, 0, false, []⟩
theorem wit_JobsComplete_1 : jobs.jobTakes 15 = true ∧ jobs.rdT .cxKey 32767 CX_KEY.FROZEN = 0 ∧
    (jobs.setJob 15 (some job1)).job 15 = some job1 ∧ (jobs.setJob 15 (some job1)).jobTakes 15 = true ∧
    jobs.job 15 = none ∧ jobs.rdT .cxJobWin 15 CX_JOB_WIN.BASE + 0 = job1.ctx ∧
    0 < jobs.rdT .cxJobWin 15 CX_JOB_WIN.COUNT ∧ jobs.rdT .cxKey job1.ctx CX_KEY.VALID ≠ 0 ∧
    jobs.rdT .cxKey job1.ctx CX_KEY.KIND = 3 := by decide +kernel
theorem wit_JobsComplete_2 : (jobs.setJob 15 (some { job1 with fin := true })).job 15 = some { job1 with fin := true } ∧
    (Instr.jobqPiWrite T0 15 16).wellFormed = true ∧ jobs.accepts T0 (.cxt 15) CX_JOBQ_PI.PI 16 = true ∧
    (CX_JOBQ_PI.PI.get 16 + 8192 - jobs.rd (.cxt 15) CX_JOBQ_CI.CI) % 8192 ≤ 2 ^ jobs.rd (.cxt 15) CX_JOBQ_CFG.SIZE_LOG2 := by
  decide +kernel
theorem wit_FunctionResetCompletes : (vfs pth).present 15 = true ∧
    (pth.wrT .tnTenant 15 TN_TENANT.FLR_BUSY 1).rdT .tnTenant 15 TN_TENANT.FLR_BUSY ≠ 0 := by decide +kernel

/-! ## Witnesses: time, host interface -/

/-- Servo fed by the uplink protocol at port 0, whose link is up; no master to match. -/
def ptp : Dev := (portUp 0).wrs (.tm 0) [(TM_SERVO.EN, 1), (TM_SERVO.SRC, 1), (TM_SERVO.MATCH_EN, 0)]
theorem wit_ModuleTimeComplete_1 : (Instr.todSet T0 0).wellFormed = true ∧ (Instr.todStep T0 0).wellFormed = true ∧
    up.accepts T0 (.tm 0) TM_TOD_CMD.OP (TM_TOD_CMD.OP.set 0 1) = true ∧
    up.accepts T0 (.tm 0) TM_TOD_CMD.OP (TM_TOD_CMD.OP.set 0 2) = true ∧
    (up.wr (.tm 0) TM_TOD_SET.NS 999999999).rd (.tm 0) TM_TOD_SET.NS ≤ 999999999 ∧ T0.ok = true ∧
    up.rd (.tm 0) TM_TOD_CMD.STAT ≠ 1 ∧ up.live (.tm 0) = true ∧ up.tm.todCmd = none ∧
    (up.setTm { up.tm with todCmd := some (1, 0) }).tm.todCmd = some (1, 0) ∧
    (up.setTm { up.tm with todCmd := some (2, -1) }).tm.todCmd = some (2, -1) ∧
    (up.setTm { up.tm with todCmd := some (1, 0) }).live (.tm 0) = true ∧
    up.readable T0 (.tm 0) = true ∧ up.readable T0 (.te 47 0) = true := by decide +kernel
theorem wit_ModuleTimeComplete_2 : let e : TsqEntry := { id := 7, dropped := false, sec := 1, ns := 2, frac := 3 }
    (up.setTm { up.tm with tsq := up.tm.tsq.put [] 31 [e] }).readable T0 (.tm 1) = true ∧
    (up.setTm { up.tm with tsq := up.tm.tsq.put [] 31 [e] }).tm.tsq.get [] 31 = [e] := by decide +kernel
theorem wit_ServoComplete_1 : let d := up.wrs (.tm 0) [(TM_SERVO.EN, 1), (TM_SERVO.SRC, 0)]
    (Instr.hostOffsetSample T0 0xffffffff).wellFormed = true ∧ d.accepts T0 (.tm 0) TM_OFS_IN.OFS 0xffffffff = true ∧
    d.rd (.tm 0) TM_SERVO.EN ≠ 0 ∧ d.rd (.tm 0) TM_SERVO.SRC = 0 ∧
    ((up.wr (.tm 0) TM_STAT.FREERUN 0).rd (.tm 0) TM_STAT.FREERUN = 0) ∧
    (up.wrs (.tm 0) [(TM_STAT.REF, 1), (TM_STAT.HOLDOVER, 0)]).rd (.tm 0) TM_STAT.REF ≠ 0 ∧
    (up.wrs (.tm 0) [(TM_STAT.REF, 1), (TM_STAT.HOLDOVER, 0)]).rd (.tm 0) TM_STAT.HOLDOVER = 0 := by decide +kernel
theorem wit_ServoComplete_2 : let tr := ptp.rd (.tm 0) TM_SERVO.TRANSPORT
    let dm := ptp.rd (.tm 0) TM_SERVO.DOMAIN
    (Instr.ptpSyncReceive 0 tr 2 dm 1 1 5 false 0 0 0).wellFormed = true ∧ ptp.ptpMatch 0 tr 2 dm 1 1 = true ∧
    ptp.tm.sync = none ∧ (Instr.ptpFollowUpReceive 0 tr 2 dm 1 1 5 0 0 0).wellFormed = true ∧
    (ptp.setTm { ptp.tm with sync := some ⟨5, 0, false⟩ }).ptpMatch 0 tr 2 dm 1 1 = true ∧
    (ptp.setTm { ptp.tm with sync := some ⟨5, 0, false⟩ }).tm.sync = some ⟨5, 0, false⟩ := by decide +kernel
theorem wit_ModuleTimeStaysTime : up.time.ok = true := by decide +kernel

/-- Function 0 and 15 with TX ring 0 and RX ring 8 enabled, the RX ring for every class. -/
def rng : Dev := [0, 15].foldl (fun (d : Dev) f => (en d [.hir f]).wrs (.hir f)
  [(HI_RING_CFG.EN 0, 1), (HI_RING_CFG.EN 8, 1), (HI_RING_CFG.CLASSES 8, 63), (HI_RING_IDX.PI 0, 1)]) (en (vfs up) [.bp 0, .sc 0])
theorem wit_DoorbellsComplete : (Instr.txRingDoorbell T0 0 7 16).wellFormed = true ∧
    rng.accepts T0 (.hir 0) (HI_RING_IDX.PI 7) 16 = true ∧
    ((HI_RING_IDX.PI 7).get 16 + 8192 - rng.rd (.hir 0) (HI_RING_IDX.CI 7)) % 8192 ≤ rng.ringSize 0 7 ∧
    (Instr.rxRingConsume T0 0 7 0 []).wellFormed = true ∧ rng.accepts T0 (.hir 0) (HI_RING_IDX.CI 15) 0 = true ∧
    (rng.rd (.hir 0) (HI_RING_IDX.PI 15) + 8192 - (HI_RING_IDX.CI 15).get 0) % 8192 ≤ rng.ringSize 0 15 := by decide +kernel
/-- After the next descriptor of function 0's ring 0 is taken. -/
def took (len : Nat) : Dev := rng.setRing 0 0 { rng.ring 0 0 with taken := [⟨0, len, none⟩] }
theorem wit_TxMessagesComplete_1 : rng.txTake 0 0 60 = some (0, took 60) ∧
    (Instr.txFlowFrame 0 0 131071 (List.replicate 60 0#8) 0 0 0 0 false 0 0).wellFormed = true ∧
    Stamp.bad ⟨0, 0, 0, 0, false, 0, 0⟩ 0 60 false = false ∧
    (Instr.txAggFrame 0 0 16383 (List.replicate 60 0#8) 0 0 0 0 true 0 0).wellFormed = true ∧
    Stamp.bad ⟨0, 0, 0, 0, true, 0, 0⟩ 0 60 true = false := by decide +kernel
theorem wit_TxMessagesComplete_2 :
    let d := (rng.wr (.cv 7) CV_CTRL.PATH 1).wrT .cxOnuKeys 12287 CX_ONU_KEYS.OMCI_V 1
    let e := d.setRing 0 0 { d.ring 0 0 with taken := [⟨0, 1, none⟩] }
    d.txTake 0 0 1 = some (0, e) ∧ (Instr.txOmci 0 0 12287 [1#8] false).wellFormed = true ∧
    e.rdT .cxOnuKeys 12287 CX_ONU_KEYS.OMCI_V ≠ 0 ∧ e.pathUnit = some 7 := by decide +kernel
theorem wit_TxMessagesComplete_3 : (Instr.txPloam 0 0 47 40 255 .calibrationRequest (List.replicate 36 0#8) false).wellFormed = true ∧
    rng.txTake 0 0 40 = some (0, took 40) ∧ rng.hostPloams 47 < 64 := by decide +kernel
/-- Both Aztil links in use. -/
def lnk2 (d : Dev) : Dev :=
  ((en d [.px0, .pxl 0, .pxl 1]).wr (.pxl 0) PX_PEER_CFG.EN 1).wr (.pxl 1) PX_PEER_CFG.EN 1
theorem wit_TxMessagesComplete_4 : let d := lnk2 rng
    d.txTake 0 0 1 = some (0, d.setRing 0 0 { d.ring 0 0 with taken := [⟨0, 1, none⟩] }) ∧
    (Instr.txAztilMessage 0 0 1 [1#8] false).wellFormed = true ∧ d.linkOn 1 = true ∧ (d.lnk 1).unacked.length < 64 ∧
    d.rd (.pxl 1) PX_PEER_CFG.EN ≠ 0 := by decide +kernel
theorem wit_TxTakeIsNext : rng.ringsLive 15 = true ∧ rng.rd (.hir 15) (HI_RING_CFG.EN 0) ≠ 0 ∧
    (rng.ring 15 0).taken.length < rng.ringUsed 15 0 := by decide +kernel
/-- A frame held for the host's aggregate of function 15. -/
def hag : Dev :=
  let d := (rng.wr (.bp 0) BP_CTRL.MODE 1)
  let e := d.takeBuf { adm 0 with first := .agg 16383 } 0 0 0 0
  e.enqueue (aggQ 16383) { handle := e.handleOf 0, tag := e.targetTag (.agg 16383), isB := false, len := 60, enq := 0, req := none }
/-- Its head. -/
def hagH : Held :=
  { handle := 1048576, tag := hag.targetTag (.agg 16383), isB := false, len := 60, enq := 0, req := none }
theorem wit_RingEventsComplete_1 : let m : RxMsg :=
      { cls := 2, reason := 0, source := 16383, ts := (hag.pkt 1048576).bind Pkt.ts, epoch := hag.epoch 15,
        bytes := hag.pktBytes 1048576 }
    hag.takes (.sc 0) = true ∧ hag.ringsLive 15 = true ∧ (hag.drainOut.queue (aggQ 16383)).frames = [hagH] ∧
    hag.drainOut.rxRing 15 2 = some 8 ∧ hag.drainOut.itemReady (.queue (aggQ 16383)) = true ∧
    hag.drainOut.rxFree 15 8 = true ∧ hag.drainOut.deqOk (aggQ 16383) hagH = true ∧
    ((((hag.drainOut.pm 9 16383).pm 10 16383 60).takeHead (aggQ 16383) 60).rxOffer 15 m).1 = .written := by decide +kernel
theorem wit_RingEventsComplete_2 : rng.ringsLive 15 = true ∧ rng.rd (.hir 15) (HI_RING_CFG.EN 8) ≠ 0 ∧
    ((rng.setRing 15 15 { rng.ring 15 15 with unsig := 1 }).ring 15 15).unsig ≠ 0 := by decide +kernel
theorem wit_HostEventsComplete : (Instr.pcieLinkChange false 0 0).wellFormed = true ∧
    (up.wr .hi0 HI_LINK.L0 1).on .hi0 HI_LINK.L0 ≠ false ∧ (up.wr .hi0 HI_LINK.L0 0).on .hi0 HI_LINK.L0 = false ∧
    up.readable T0 .hi0 = true := by decide +kernel
theorem wit_AccessErrorRecord : 15 < 16 ∧ 67108863 < 2 ^ 26 := by decide
theorem wit_CountersAndChecksComplete_1 : (Instr.pmSnap T0 127 0).wellFormed = true ∧
    up.accepts T0 (.pmg 127) PM_SNAP_CMD.SNAP (PM_SNAP_CMD.SNAP.set 0 1) = true ∧
    (Instr.pmCntLoRead T0 127 31 false).wellFormed = true ∧ up.readable T0 (.pmg 127) = true := by decide +kernel
theorem wit_CountersAndChecksComplete_2 : let d := up.wrs (.cv 7) [(CV_CTRL.PATH, 0), (CV_CTRL.ALG, 3)]
    T0.func = d.owner (.cv 7) ∧ d.rd (.cv 7) CV_CTRL.PATH = 0 ∧ CV_CTRL.ALG.get 3 = d.rd (.cv 7) CV_CTRL.ALG ∧
    d.accepts T0 (.cv 7) CV_CTRL.ALG (CV_CTRL.START.set 3 0) = true ∧
    d.accepts T0 (.cv 7) CV_CTRL.START (CV_CTRL.START.set 3 1) = true ∧ d.accepts T0 (.cv 7) CV_DATA8.D 255 = true ∧
    d.accepts T0 (.cv 7) CV_DATA16.D 65535 = true ∧ d.accepts T0 (.cv 7) CV_DATA32.D 0xffffffff = true ∧
    d.readable T0 (.cv 7) = true := by decide +kernel

/-! ## Witnesses: framer, receiver, ranging -/

/-- The three pages of tree 47 enabled. -/
def tre : Dev := en up [.te 47 0, .te 47 1, .te 47 2]
/-- Framer of tree 47 in state `k`, its field empty. -/
def frm (k : Nat) : Dev := (tre.wr (.te 47 0) TE_TX_STAT.FSTATE k).setFr 47 { (tre.fr 47) with room := 65536 }
/-- XGEM frames for the framer. -/
def xg (n : Nat) : Xgem :=
  { port := 2000, keyIdx := 0, options := 0, cipher := false, done := false, payload := List.replicate n 0#8, rest := [],
    item := none }
/-- A framer with one frame ready and `r` bytes left. -/
def rdy (n r : Nat) : Dev := (frm 2).setFr 47 { (frm 2).fr 47 with ready := [xg n], room := r }
theorem wit_FramerComplete_1 : (frm 1).live (.te 47 0) = true ∧ (frm 1).groupOf 47 = none ∧
    (frm 1).rd (.te 47 0) TE_TX_STAT.FSTATE = 1 ∧ (frm 2).rd (.te 47 0) TE_TX_STAT.FSTATE = 2 ∧
    (frm 3).rd (.te 47 0) TE_TX_STAT.FSTATE = 3 ∧ (((frm 3).closeField 47).fr 47).oweRem = false := by decide +kernel
theorem wit_FramerComplete_2 : (Instr.ocHiWrite T0 47 0xffffffff).wellFormed = true ∧
    up.accepts T0 (.te 47 0) TE_OC_HI.OC_HI 0xffffffff = true ∧ (Instr.todArm T0 47 0).wellFormed = true ∧
    up.accepts T0 (.te 47 0) TE_TOD_CTRL.ARM (TE_TOD_CTRL.ARM.set 0 1) = true ∧ up.rd (.te 47 0) TE_TOD_CTRL.ARM = 0 ∧
    up.sfc 47 + 1 < (up.wr (.te 47 0) TE_TOD_SF_LO.SF_LO 2).todTarget 47 ∧
    ¬ up.sfc 47 + 1 < (up.wr (.te 47 0) TE_TOD_SF_LO.SF_LO 1).todTarget 47 := by decide +kernel
theorem wit_FramerComplete_3 : let v := TE_TX_CTRL.PLOAM_MAX.set 0 8
    (Instr.framerEnable T0 47 v).wellFormed = true ∧ 1 ≤ TE_TX_CTRL.PLOAM_MAX.get v ∧ TE_TX_CTRL.PLOAM_MAX.get v ≤ 8 ∧
    up.accepts T0 (.te 47 0) TE_TX_CTRL.FRAMER_EN (TE_TX_CTRL.FRAMER_EN.set v 1) = true ∧
    up.accepts T0 (.te 47 0) TE_TX_CTRL.FRAMER_EN (TE_TX_CTRL.FRAMER_EN.set v 0) = true ∧
    (Instr.lineModeWrite T0 47 1).wellFormed = true ∧ up.accepts T0 (.te 47 0) TE_MODE.LINE_MODE 1 = true ∧
    up.rd (.te 47 0) TE_TX_CTRL.FRAMER_EN = 0 ∧ up.rd (.te 47 1) TE_RX_CTRL.RX_EN = 0 ∧ up.groupOf 47 = none := by
  decide +kernel
theorem wit_FramerComplete_4 : (rdy 60 65536).fieldOpen 47 = true ∧ (xg 60).rest = [] ∧
    ((rdy 60 65536).fr 47).room ≠ 0 ∧ ((rdy 60 65536).fr 47).ready = [xg 60] ∧ (xg 60).cipher = false ∧
    xgemBytes (xg 60).payload.length ≤ ((rdy 60 65536).fr 47).room := by decide +kernel
theorem wit_FramerComplete_5 : (rdy 60 15).fieldOpen 47 = true ∧
    ((rdy 60 15).fr 47).room ≠ 0 ∧ ((rdy 60 15).fr 47).ready = [xg 60] ∧ (xg 60).cipher = false ∧
    ((rdy 60 15).fr 47).room < 16 ∧ ((rdy 60 15).fr 47).room < xgemBytes ((xg 60).payload.length + (xg 60).rest.length) ∧
    (rdy 60 15).rd (.te 47 0) TE_TX_STAT.FSTATE = 2 := by decide +kernel
theorem wit_FramerComplete_6 : let a (k : Nat) : AnnFrame := { slot := 0, sendSfc := k, frame := xg 8 }
    let d (k : Nat) : Dev := { frm 2 with te := { (frm 2).te with anns := [(47, a k)] } }
    (d 1).te.anns.find? (fun e => e.1 == 47) = some (47, a 1) ∧ (d 1).sfc 47 < (a 1).sendSfc ∧
    (d 0).te.anns.find? (fun e => e.1 == 47) = some (47, a 0) ∧ (a 0).sendSfc ≤ (d 0).sfc 47 ∧ (d 0).sending 47 = true := by
  decide +kernel
theorem wit_FramerComplete_7 : let m : Ploam := { ring := none, host := true, onu := bcastOnu, type := .other 99, body := [] }
    let d : Dev := { tre with te := { tre.te with subs := [(47, m)] } }
    d.te.subs.find? (fun e => e.1 == 47) = some (47, m) ∧ ploamBarred m.type = false ∧
    (let e := d.wrT (.teOnu 47) 255 TE_ONU.STATE 4
     255 < 256 ∧ e.onuSt (e.groupPort 47) 255 ≠ 0) := by decide +kernel
theorem wit_FramerComplete_8 : tre.live (.te 47 0) = true ∧
    ((tre.setFr 47 { tre.fr 47 with disRun := 1 }).fr 47).disRun = 1 := by decide +kernel

/-- A grant to ONU 255, and an armed burst of it. -/
def gr (kind : Nat) : Grant :=
  { wireId := 1024, start := 0, size := 100, prof := 0, dbru := true, ploamu := false, seq := false, alloc := some 16383,
    onu := 255, tenant := 0, kind := kind }
def slt (kind : Nat) (st : BurstState) : Slot :=
  { onu := 255, grants := [gr kind], d := 0, prof := 0, guard := 0, preamble := 0, fec := true, sfc := 1, recalled := false,
    recallCopy := 0, st := st, locked := false, lastUncorr := false, foreign := false, foreignIds := [], corrected := false,
    cfg := ⟨64, 6, 0, 10, 20, false, 0, 0, 0⟩, delimErr := 0, arrErr := 0, taken := false, ended := [] }
/-- The receiver on, with that burst. -/
def rxd (kind : Nat) (st : BurstState) : Dev :=
  let d := tre.wrs (.te 47 1) [(TE_RX_CTRL.RX_EN, 1), (TE_RX_CTRL.LISTEN_EN, 1)]
  d.setRx 47 { d.rx 47 with cur := [slt kind st], done := [slt kind .closed] }
theorem wit_ReceiverComplete_1 : (Instr.rxDisable T0 47 0).wellFormed = true ∧
    up.accepts T0 (.te 47 1) TE_RX_CTRL.RX_EN (TE_RX_CTRL.RX_EN.set 0 0) = true := by decide +kernel
theorem wit_ReceiverComplete_2 : ((rxd 0 .armed).slots 47)[0]? = some (slt 0 .armed) ∧
    (rxd 0 .armed).live (.te 47 1) = true ∧ (slt 0 .armed).st = .armed ∧
    ((rxd 0 .lock).slots 47)[0]? = some (slt 0 .lock) ∧ (rxd 0 .lock).live (.te 47 1) = true := by decide +kernel
theorem wit_ReceiverComplete_3 : ((rxd 0 .search).slots 47)[0]? = some (slt 0 .search) ∧
    (rxd 0 .search).live (.te 47 1) = true ∧ (rxd 0 .search).inService 47 = true ∧
    bitDiff 0x3f ((rxd 0 .search).rdT (.teBurstProfile 47) (slt 0 .search).prof TE_BURST_PROFILE.DELIMITER) ≤
      (slt 0 .search).cfg.tol ∧
    ((rxd 0 .search).window 47 (slt 0 .search)).isSome = true ∧
    (∀ w ∈ (rxd 0 .search).window 47 (slt 0 .search), (1 : Int).natAbs ≤ w) ∧ (slt 0 .search).onu < 1024 ∧
    1023 ≠ (slt 0 .search).onu ∧ (rxd 0 .search).acquiring 47 = false ∧
    (slt 0 .search).foreignIds.contains 1023 = false := by decide +kernel
/-- A closed burst and one that is to come, `e` picoseconds after the first. -/
def rxb (e : Int) : Dev :=
  (rxd 0 .payload).setRx 47 { (rxd 0 .payload).rx 47 with
    cur := [{ slt 0 .armed with d := e }], done := [slt 0 .closed] }
theorem wit_ReceiverComplete_4 : ((rxd 0 .payload).slots 47)[0]? = some (slt 0 .payload) ∧
    (rxd 0 .payload).live (.te 47 1) = true ∧ (Instr.burstPayloadEnd 47 2047 0 0 0 0 0 0 0).wellFormed = true ∧
    ((rxb 0).rx 47).done[0]? = some (slt 0 .closed) ∧ (rxb 0).rxOn 47 = true ∧
    (rxb 0).brstRoom 47 (slt 0 .closed) = none ∧ (rxb 1400000).brstRoom 47 (slt 0 .closed) = some 9 ∧
    9 < (slt 0 .closed).cfg.brstMin ∧ (rxb 1400500).brstRoom 47 (slt 0 .closed) = some 10 := by decide +kernel
theorem wit_ReceiverComplete_5 : (Instr.fecCodewordDecode 47 1 3 false 1 []).wellFormed = true ∧
    ((rxd 0 .payload).decoding 47)[1]? = some (slt 0 .closed) ∧ (rxd 0 .payload).live (.te 47 1) = true ∧
    (rxd 0 .payload).inService 47 = true ∧ (slt 0 .closed).fec = true ∧ { slt 0 .closed with fec := false }.fec = false := by
  decide +kernel
/-- Nothing granted: one idle span of a whole frame. -/
def rxi : Dev := (rxd 0 .payload).setRx 47 { (rxd 0 .payload).rx 47 with cur := [], done := [] }
theorem wit_ReceiverComplete_6 : (Instr.idleSpanListen 47 0 255 65535 none).wellFormed = true ∧
    (rxi.idleSpans 47)[0]?.isSome = true ∧ rxi.rxOn 47 = true ∧ (rxi.sq (rxi.groupPort 47)).win = none ∧
    (rxi.sq (rxi.groupPort 47)).hunt = none ∧ rxi.rd (.te 47 1) TE_RX_CTRL.LISTEN_EN ≠ 0 ∧
    rxi.isEnergy 47 0 0 = false ∧ rxi.isEnergy 47 255 65535 = true ∧ (rxi.bw (rxi.groupPort 47)).takeover = 0 := by
  decide +kernel

theorem wit_OnuCommandsComplete : let ok (op : Nat) := tre.accepts T0 (.te 47 2) TE_ONU_CMD.OP (TE_ONU_CMD.OP.set 0 op)
    (Instr.onuAuthorise T0 47 0).wellFormed = true ∧ tre.rd (.te 47 2) TE_ONU_CMD.STAT ≠ 1 ∧
    ok 1 = true ∧ ok 2 = true ∧ ok 3 = true ∧ ok 4 = true ∧ ok 5 = true ∧ ok 6 = true ∧ ok 7 = true := by decide +kernel
/-- A tree that may discover: framer sending, receiver on, discovery enabled. -/
def dsc : Dev := ((frm 2).wr (.te 47 1) TE_RX_CTRL.RX_EN 1).wr (.te 47 2) TE_DISC_CFG.DISC_EN 1
/-- A discovery window that has seen `l`. -/
def dwin (l : List Nat) : DiscWin := { sfc := 0, serials := l, overflow := false, resent := [] }
def inWin (l : List Nat) : Dev := dsc.setSq 47 { dsc.sq 47 with win := some (dwin l) }
theorem wit_RangingComplete_1 : dsc.discPending 47 = true ∧ (dsc.sq 47).win = none ∧ (dsc.sq 47).quiet = [] := by
  decide +kernel
theorem wit_RangingComplete_2 : (Instr.snBurstAccept 47 7 1 1023 5 0 0 [] ((inWin []).ploamMic none [])).wellFormed = true ∧
    bitDiff 7 ((inWin []).rdT (.teBurstProfile 47) ((inWin []).rd (.te 47 2) TE_DISC_CFG.DISC_PROFILE)
      TE_BURST_PROFILE.DELIMITER) ≤ ((inWin []).rxCfgAt ((inWin []).lead 47)).tol ∧ 1023 = bcastOnu ∧
    ((inWin [1]).sq 47).win = some (dwin [1]) ∧ (dwin [1]).serials.length < 16 ∧ (dwin [1]).serials.contains 5 = false ∧
    ((inWin [5]).sq 47).win = some (dwin [5]) ∧ (dwin [5]).serials.contains 5 = true ∧
    ((inWin (List.range 16)).sq 47).win = some (dwin (List.range 16)) ∧ 16 ≤ (dwin (List.range 16)).serials.length ∧
    (dwin (List.range 16)).overflow = false := by decide +kernel
theorem wit_RangingComplete_9 : (Instr.discoveryWindowEnd 47 255 65535).wellFormed = true ∧
    ((inWin [1]).sq 47).win = some (dwin [1]) ∧
    ((inWin [1]).isEnergy ((inWin [1]).lead 47) 255 65535 && (dwin [1]).serials.isEmpty) = false ∧
    ((inWin []).sq 47).win = some (dwin []) ∧ (inWin []).isEnergy ((inWin []).lead 47) 255 65535 = true ∧
    (dwin []).serials = [] := by decide +kernel
/-- ONU 255 of tree 47 in a state, being ranged. -/
def rg (st : Nat) (r : Ranging) : Dev :=
  let d := (rxd 2 .payload).wrT (.teOnu 47) 255 TE_ONU.STATE st
  d.setSq 47 { d.sq 47 with rng := [(255, r)] }
theorem wit_RangingComplete_3 : let r : Ranging := { confirm := true, fails := 0, wait := false, sends := 0, seqs := [], used := 0 }
    let x := slt 2 .payload
    ((rg 2 r).slots 47)[0]? = some x ∧ (rg 2 r).live (.te 47 1) = true ∧ x.kind = 2 ∧ x.taken = false ∧
    x.st = .payload ∧ (rg 2 r).groupPort 47 = 47 ∧ (rg 2 r).onuSt 47 x.onu = 2 ∧ (rg 2 r).live (.te 47 2) = true ∧
    (rg 2 r).standby 47 = false ∧ (rg 2 r).rng 47 x.onu = some r ∧ (rg 2 { r with confirm := false }).rng 47 x.onu =
      some { r with confirm := false } ∧ x.arrErr.natAbs ≤ marginUi x.cfg.margin := by decide +kernel
theorem wit_RangingComplete_4 : let d := tre.wrT (.teOnu 47) 255 TE_ONU.STATE 1
    d.onuSt 47 255 = 1 ∧ d.rdT (.teOnu 47) 255 TE_ONU.AUTH = 0 ∧ d.standby 47 = false := by decide +kernel
/-- A Ranging_Time waits for ONU 255's acknowledgement. -/
def rgw (k : Nat) : Ranging := { confirm := false, fails := 0, wait := true, sends := k, seqs := [0], used := 0 }
theorem wit_RangingComplete_5 (st : Nat) : let d := rg st (rgw 1)
    let d1 := d.useMgmt (d.ploamCtx 47 255) 8
    d.usPloamOk 47 255 (List.replicate 8 0#8) (d1.ploamMic (d.ploamCtx 47 255) (List.replicate 8 0#8)) = (true, d1) :=
  if_pos rfl
theorem wit_RangingComplete_6 : let d (st : Nat) := (rg st (rgw 1)).useMgmt ((rg st (rgw 1)).ploamCtx 47 255) 8
    (d 2).rng 47 255 = some (rgw 1) ∧ (d 2).onuSt 47 255 = 2 ∧ (rgw 1).seqs.contains (ploamSeqOf (List.replicate 8 0#8)) = true ∧
    (rgw 1).wait = true ∧ (d 4).rng 47 255 = some (rgw 1) ∧ (d 4).onuSt 47 255 ≠ 2 := by
  decide +kernel
theorem wit_RangingComplete_7 : let t := tre.rd (.te 47 2) TE_DRIFT_CFG.RANGE_TRIES
    (rg 2 (rgw 0)).live (.te 47 2) = true ∧ (rg 2 (rgw 0)).standby 47 = false ∧ (rg 2 (rgw 0)).rangingWaits 47 255 = false ∧ (rg 2 (rgw 0)).rng 47 255 = some (rgw 0) ∧ (rgw 0).sends < t ∧
    (rg 2 (rgw t)).rng 47 255 = some (rgw t) ∧ t ≤ (rgw t).sends ∧ (rg 2 (rgw t)).onuSt 47 255 = 2 ∧
    (rg 4 (rgw t)).live (.te 47 2) = true ∧ (rg 4 (rgw t)).onuSt 47 255 ≠ 2 := by decide +kernel
theorem wit_RangingComplete_8 : let h (e : Bool) : Hunt :=
      { suspects := [1, 2], half := [1], isolated := [1], confirming := false, energy := e, listening := true, abort := false }
    let d (e : Bool) := tre.setSq 47 { tre.sq 47 with hunt := some (h e) }
    (d true).live (.te 47 2) = true ∧ (d true).standby 47 = false ∧ ((d true).sq 47).hunt = some (h true) ∧ ((d false).sq 47).hunt = some (h false) := by
  decide +kernel

/-! ## Witnesses: bandwidth engine, grant checker, bonding -/

/-- Tree 47's cycle runs: the engine enabled, its framer sending. -/
def cyc (d : Dev) : Dev := (en d [.bw0, .hy0]).setBw 47 { (d.bw 47) with running := true, runahead := true }
def cy2 : Dev := cyc (frm 2)
theorem wit_CycleComplete_1 : cy2.cycleOn 47 = true ∧ cy2.sending (cy2.lead 47) = true ∧ (cy2.bw 47).running = true ∧
    (cy2.bw 47).runahead = true ∧ (cy2.bw 47).cut = false ∧ (cy2.bw 47).specDone = false ∧
    cy2.now ≤ (cy2.bw 47).openAt + 86500 := by decide +kernel
theorem wit_CycleComplete_2 : 47 = cy2.groupPort 47 ∧ cy2.rd (.te (cy2.lead 47) 0) TE_TX_STAT.FSTATE ≠ 0 ∧
    cy2.groupOf 47 = none ∧ cy2.mates 47 = [47] ∧ cy2.isProtected 47 = false ∧ cy2.frameComes 47 = true ∧
    cy2.live (.te 47 0) = true ∧ cy2.inService 47 = true ∧ (cy2.fr 47).handed = none ∧ 47 = cy2.lead 47 ∧
    ((cy2.setFr 47 { cy2.fr 47 with handed := some ⟨[gr 0], false⟩ }).fr 47).handed = some ⟨[gr 0], false⟩ := by
  decide +kernel
/-- The checker of tree 47 with a stream. -/
def hyS (l : List Grant) (safe : Bool) : Dev := cy2.setHy 47 { cy2.hy 47 with stream := l, safe := safe, snapped := true }
theorem wit_GrantCheckerComplete_1 : (hyS [gr 0, gr 0] false).live .hy0 = true ∧
    ((hyS [gr 0, gr 0] false).hy 47).stream = gr 0 :: [gr 0] ∧ ((hyS [gr 0, gr 0] false).hy 47).safe = false ∧
    ((hyS [gr 0, gr 0] false).hy 47).arrived < 512 ∧ ((hyS [gr 0, gr 0] false).hy 47).lastStart ≤ (gr 0).start ∧
    ((hyS [gr 0] false).hy 47).stream = gr 0 :: [] ∧ ((hyS [gr 0] true).hy 47).safe = true := by decide +kernel
theorem wit_GrantCheckerComplete_2 : let d := hyS [] false
    d.cycleOn (d.groupPort 47) = true ∧ (d.bw (d.groupPort 47)).running = true ∧ (d.hy 47).snapped = true ∧
    (d.hy 47).done = false ∧ (d.hy 47).safe = false := by decide +kernel
theorem wit_GrantCheckerComplete_3 : let v := BW_RUNAHEAD.TRACE_TREE.set (BW_RUNAHEAD.TRACE_EN.set 0 1) 47
    (Instr.traceEnable T0 v).wellFormed = true ∧ cy2.accepts T0 .bw0 BW_RUNAHEAD.TRACE_EN v = true ∧
    BW_RUNAHEAD.TRACE_TREE.get v ≤ 47 ∧ BW_RUNAHEAD.TRACE_EN.get v = 1 := by decide +kernel
theorem wit_GrantCheckerComplete_4 : let v := HY_SAFE_CMD.TREE.set 0 47
    (Instr.safeEnter T0 v).wellFormed = true ∧ HY_SAFE_CMD.TREE.get v = 47 ∧
    cy2.accepts T0 .hy0 HY_SAFE_CMD.OP (HY_SAFE_CMD.OP.set v 1) = true ∧ (cy2.hy 47).safe = false ∧
    cy2.accepts T0 .hy0 HY_SAFE_CMD.OP (HY_SAFE_CMD.OP.set v 2) = true ∧ ((hyS [] true).hy 47).safe = true ∧
    ((hyS [] true).hy 47).arrived = 0 := by decide +kernel

/-- Group 23 of ports 46 and 47, the second member in state `k` with cause `c`, the bonding unit on. -/
def bnd (k c : Nat) : Dev :=
  ((en up [.bd, .bp 0, .sc 0, .cl 0, .cx0]).wrTs .bdGroup 23 [(BD_GROUP.SIZE, 1)]).wrTs .bdGroup 23
    [(BD_GROUP.MEMBER_STATE, 4 * k), (BD_GROUP.CAUSE, 16 * c), (BD_GROUP.OAM_EN, 1)]
theorem wit_BondingComplete_1 : let v := BD_CMD.SLOT.set (BD_CMD.GROUP.set 0 23) 1
    (Instr.memberDown T0 v).wellFormed = true ∧ (bnd 0 0).rd .bd BD_CMD.STAT ≠ 1 ∧ BD_CMD.GROUP.get v = 23 ∧
    BD_CMD.SLOT.get v = 1 ∧ (bnd 0 0).grpSize 23 = 2 ∧
    (bnd 0 0).accepts T0 .bd BD_CMD.OP (BD_CMD.OP.set v 1) = true ∧
    (bnd 0 0).accepts T0 .bd BD_CMD.OP (BD_CMD.OP.set v 2) = true ∧
    (bnd 0 0).accepts T0 .bd BD_CMD.OP (BD_CMD.OP.set v 3) = true := by decide +kernel
theorem wit_BondingComplete_2 : (Instr.memberRestoreTimeout 23 1).wellFormed = true ∧ 1 < (bnd 1 6).grpSize 23 ∧
    (bnd 1 6).memberState 23 1 = 1 ∧ (bnd 1 6).memberCause 23 1 = 6 ∧ (bnd 1 3).memberCause 23 1 = 3 := by decide +kernel
theorem wit_BondingComplete_3 : let c : CutPkt := { seq := 0, onu := 255, frag := 1536, next := 0, frame := xg 60 }
    let d := (bnd 0 0).setCx { (bnd 0 0).path.cx with cut := (bnd 0 0).path.cx.cut.put [] 23 [c] }
    d.path.cx.cut.get [] 23 = [c] ∧ d.enabled .bd = true := by decide +kernel
theorem wit_BondingComplete_4 : let f : BdFrag :=
      { alloc := 1024, sfc := 1, seq := 0, first := true, last := true, port := 2000, keyIdx := 0, onu := 255, member := 47,
        payload := [], at_ := 0 }
    let d := (bnd 0 0).setBd 23 { (bnd 0 0).bd 23 with inq := [f] }
    (d.bd 23).inq = [f] ∧ d.enabled .bd = true ∧ (Instr.fragmentWaitTimeout 23 16383).wellFormed = true := by decide +kernel
theorem wit_BondingComplete_5 : (bnd 1 6).enabled .bd = true ∧ (bnd 1 6).rdT .bdGroup 23 BD_GROUP.OAM_EN ≠ 0 ∧
    (bnd 1 6).grpSize 23 ≠ 0 ∧ (bnd 1 6).anyDown 23 = true ∧ (bnd 1 6).rdT .bdGroup 23 BD_GROUP.OAM_LEN_DEG ≠ 0 := by
  decide +kernel

/-! ## Witnesses: protection -/

/-- Tree 47 protected over link 1, in state `k`, at its home or not. -/
def prt (k home : Nat) : Dev :=
  (lnk2 (en up [.te 47 0, .te 47 1, .te 47 2])).wrTs .pxRole 47
    [(PX_ROLE.MODE, 1), (PX_ROLE.LINK, 1), (PX_ROLE.PEER_TREE, 47), (PX_ROLE.STATE, k), (PX_ROLE.HOME, home)]
/-- A record of that tree, as bytes. -/
def rec47 : MirrorRec := { rec0 with tree := 47, sfc := 8 }
/-- Link 1 two cells short of nothing, its lanes good: aligned. -/
def algn (d : Dev) : Dev :=
  let e := [84, 85, 86, 87].foldl (fun (x : Dev) l => (x.wrT .ckDomainCtrl (59 + l) CK_DOMAIN_CTRL.CLK_GOOD 1).wrs (.ln l)
    [(LN_PSTATE.STATE, 0), (LN_PSTATE.TARGET, 0), (LN_STAT.SIG_DET, 1), (LN_STAT.CDR_LOCK, 1), (LN_RX_ADAPT.STATE, 2)]) (lnk2 d)
  e.setLnk 1 { e.lnk 1 with fit := 2 }
/-- The header of the cell `c` of a type, and its payload. -/
def cel (typ : Nat) (c : AzCell) : Nat × List Byte := (cellHeader typ c, c.bytes)
/-- Cells: a PROTECTION cell, TIME cells without and with the echo, a record and a message in one cell and in two. -/
def protC : Nat × List Byte := cel 1 ⟨false, false, 0, 0, List.replicate 248 0#8⟩
def timeC (n : Nat) : Nat × List Byte := cel 4 ⟨false, false, 0, 0, List.replicate n 0#8⟩
def oneC (typ : Nat) (b : List Byte) : Nat × List Byte := cel typ ⟨true, true, 0, 7, b⟩
def twoC (typ : Nat) (first : Bool) (b : List Byte) : Nat × List Byte := cel typ ⟨first, !first, if first then 0 else 1, 7, b⟩
/-- The cell of `c` is taken by link 1 after the cells `l`. -/
def headOk (d : Dev) (l : List (Nat × List Byte)) (c : Nat × List Byte) (typ : Nat) : Bool :=
  ((Dev.cellsIn 1 l d).cellHead 1 c.1).1 && bitsAt c.1 60 4 == typ && cellOk c
theorem wit_ProtectionLinksComplete_1 : (lnk2 up).rd (.pxl 1) PX_PEER_CFG.EN ≠ 0 ∧
    (prt 2 1).holdDiffers 1 = false ∧ ((prt 2 1).wr (.pxl 1) PX_LINK_STAT.HOLD_IN ((prt 2 1).holdQuiet 1).toNat).holdDiffers 1 = true ∧
    ((lnk2 up).wr (.pxl 1) PX_LINK_STAT.SILENT 0).linkSilent 1 = false ∧ (lnk2 up).linkOn 1 = true ∧
    ((lnk2 up).setLnk 1 { (lnk2 up).lnk 1 with timeDue := true }).cellFree 1 = true ∧
    ((lnk2 up).lnk 1).protDue = false ∧ ((lnk2 up).lnk 1).mirQ = [] := by decide +kernel
theorem wit_ProtectionLinksComplete_2 : headOk (algn up) [] protC 1 = true ∧ headOk (algn up) [] (timeC 8) 4 = true ∧
    headOk (algn up) [] (timeC 24) 4 = true ∧ ((timeC 8).2.take (bitsAt (timeC 8).1 32 8)).length < 24 ∧
    24 ≤ ((timeC 24).2.take (bitsAt (timeC 24).1 32 8)).length := by decide +kernel
theorem wit_ProtectionLinksComplete_3 : let x := oneC 2 []
    let y := twoC 2 false [2#8]
    let l := [twoC 2 true [1#8]]
    headOk (algn up) [] x 2 = true ∧ hasBit x.1 58 = true ∧ hasBit x.1 59 = true ∧
    (((algn up).cellHead 1 x.1).2.lnk 1).mirPart = none ∧ MirrorRec.ofBytes (x.2.take (bitsAt x.1 32 8)) = none ∧
    headOk (algn up) l y 2 = true ∧ hasBit y.1 58 = true ∧ hasBit y.1 59 = false ∧
    (((Dev.cellsIn 1 l (algn up)).cellHead 1 y.1).2.lnk 1).mirSeq = some (bitsAt y.1 40 16) ∧
    (((Dev.cellsIn 1 l (algn up)).cellHead 1 y.1).2.lnk 1).mirPart = some (7, [1#8]) := by decide +kernel
theorem wit_ProtectionLinksComplete_4 : let d := algn ((prt 5 1).setPx 47 { (prt 5 1).px 47 with lastSfc := some 7 })
    let x := oneC 2 rec47.toBytes
    let d1 := ((d.cellHead 1 x.1).2.setLnk 1 { (d.cellHead 1 x.1).2.lnk 1 with mirSeq := some 1, mirPart := none })
    headOk d [] x 2 = true ∧ hasBit x.1 58 = true ∧ hasBit x.1 59 = true ∧ ((d.cellHead 1 x.1).2.lnk 1).mirPart = none ∧
    (bitsAt x.1 40 16 + 1) % 65536 = 1 ∧ MirrorRec.ofBytes (x.2.take (bitsAt x.1 32 8)) = some rec47 ∧
    d1.mirrorTree 1 rec47.tree = some 47 ∧ rec47.tree = d1.rdT .pxRole 47 PX_ROLE.PEER_TREE ∧ d1.mates 47 = [47] ∧
    (d1.px 47).gathered = [] ∧ (d1.px 47).late ≠ some rec47.sfc ∧ (d1.px 47).lastSfc = some 7 ∧
    rec47.sfc = (7 + 1) % 2 ^ 51 := by decide +kernel
theorem wit_ProtectionLinksComplete_5 : let x := oneC 3 [0#8, 0#8, 5#8]
    let y := twoC 3 false [2#8]
    let l := [twoC 3 true [1#8]]
    headOk (algn up) [] x 3 = true ∧ hasBit x.1 58 = true ∧ hasBit x.1 59 = true ∧
    (((algn up).cellHead 1 x.1).2.lnk 1).msgPart = none ∧
    headOk (algn up) l y 3 = true ∧ hasBit y.1 58 = true ∧ hasBit y.1 59 = false ∧
    (((Dev.cellsIn 1 l (algn up)).cellHead 1 y.1).2.lnk 1).msgSeq = some (bitsAt y.1 40 16) ∧
    (((Dev.cellsIn 1 l (algn up)).cellHead 1 y.1).2.lnk 1).msgPart = some (0, [1#8]) ∧
    (let m : AzMsg := { ring := 0, idx := 0, id := 65535 }
     m.id < 65536 ∧ (((lnk2 up).setLnk 1 { (lnk2 up).lnk 1 with unacked := [m] }).lnk 1).unacked.find? (fun z => z.id == 65535) =
       some m) := by decide +kernel
theorem wit_ProtectionTreesComplete_1 : let d := (prt 4 1).setPx 47 { (prt 4 1).px 47 with lastSfc := some 7, applied := false }
    let e := (prt 4 1).setPx 47 { (prt 4 1).px 47 with applied := true }
    47 = d.groupPort 47 ∧ d.isProtected 47 = true ∧ 3 ≤ d.pxState 47 ∧ d.pxState 47 ≤ 5 ∧ (d.px 47).applied = false ∧
    (d.px 47).dueSfc.isSome = true ∧ (e.px 47).applied = true ∧ e.isProtected 47 = true ∧ e.pxState 47 = 4 := by
  decide +kernel
theorem wit_ProtectionTreesComplete_2 : let d := (prt 3 1).setPx 47 { (prt 3 1).px 47 with acqFrames := 1024 }
    47 = d.groupPort 47 ∧ d.acquiring 47 = true ∧ (d.px 47).acqWait = 0 ∧ (d.px 47).acqN < 16 ∧
    1024 ≤ (d.px 47).acqFrames := by decide +kernel
theorem wit_ProtectionTreesComplete_3 : let v := PX_REQ.TREE.set 0 47
    let ok (op : Nat) := (prt 2 1).accepts T0 .px0 PX_REQ.OP (PX_REQ.OP.set v op)
    (Instr.reqClear T0 v).wellFormed = true ∧ PX_REQ.TREE.get v = 47 ∧ (prt 2 1).rdT .pxRole 47 PX_ROLE.MODE = 1 ∧
    ok 0 = true ∧ ok 1 = true ∧ ok 2 = true ∧ ok 3 = true ∧ ok 4 = true := by decide +kernel
theorem wit_ProtectionTreesComplete_4 : let d := (prt 2 1).setPx 47 { (prt 2 1).px 47 with exAt := some 0 }
    (d.px 47).exAt.isSome = true ∧
    (let d1 := (d.setPx 47 { d.px 47 with exAt := none }).cnt .pxCnt (47 * 16 + 5)
     d1.rdT .pxRole 47 PX_ROLE.REQ_LOCAL ≠ 4 ∧
     ((((d.wrT .pxRole 47 PX_ROLE.REQ_LOCAL 4).setPx 47 { d.px 47 with exAt := none }).cnt .pxCnt (47 * 16 + 5)).rdT .pxRole 47
       PX_ROLE.REQ_LOCAL = 4)) := by decide +kernel
theorem wit_ProtectionTreesComplete_5 : let d := (prt 5 1).wrTs .pxRole 47 [(PX_ROLE.WTR_S, 300), (PX_ROLE.REQ_EFF, 0)]
    d.pxState 47 = 5 ∧ d.rdT .pxRole 47 PX_ROLE.WTR_S ≠ 0 ∧ (d.px 47).reverting = false ∧
    d.rdT .pxRole 47 PX_ROLE.REQ_EFF ≠ 2 ∧ d.rdT .pxRole 47 PX_ROLE.REQ_EFF ≠ 3 := by decide +kernel
theorem wit_ProtectionTreesComplete_6 : let d := (prt 1 0).wr (.pxl 1) PX_LINK_STAT.SILENT 1
    47 = d.groupPort 47 ∧ d.isProtected 47 = true ∧ d.pxState 47 = 1 ∧ d.isHome 47 = false ∧
    d.linkSilent (d.pxLink 47) = true ∧ d.mayTake 47 = true := by decide +kernel

/-! ## Witnesses: clocks, power, refusals -/

/-- Domain `k` with a request `op` in progress. -/
def dop (k op : Nat) : Dev := up.setDom k { up.dom k with op := op, swTo := 33 }
theorem wit_ClocksComplete_1 : let d := (up.wr .rs RS_STAT.PHASE 3).wrT .ckDomainCtrl 3 CK_DOMAIN_CTRL.CUR_SRC 0
    d.clockRuns 3 = true ∧ d.goodLoops 3 = [] ∧ (d.dom 3).op = 0 := by decide +kernel
theorem wit_ClocksComplete_2 : let d := up.wr .ck CK_STAT.REF 0
    (Instr.refclkDetect 2).wellFormed = true ∧ d.rd .ck CK_STAT.REF = 0 ∧ refAccepted (d.rd .ck CK_SRC_SEL.REF_MODE) 2 = true ∧
    d.dark 1 = false ∧ d.domInReset 1 = false := by decide +kernel
theorem wit_ClocksComplete_3 : let d (k : Nat) := up.wrs .ck [(CK_STAT.REF, 1), (CK_STAT.REFL_STATE, k)]
    (d 0).rd .ck CK_STAT.REF ≠ 0 ∧ ((d 1).refShow 0).refl = 1 ∧ ((d 2).refShow 0).refl = 2 ∧ ((d 0).refShow 0).refl = 0 ∧
    ((d 3).refShow 0).refl = 3 ∧ (d 1).rdT .ckLoop 0 CK_LOOP.FAILED = 0 := by decide +kernel
theorem wit_ClocksComplete_4 : let d := up.wrT .ckLoop 15 CK_LOOP.EN 1
    ∃ src < 35, (Instr.clockFailure src true).wellFormed = true ∧ d.isClockFailure src = true ∧ src ≠ 0 ∧ src ≠ 2 ∧
      d.rd .ck CK_FAIL.FAIL = 0 ∧ (d.failLoops src).contains 2 = false := by decide +kernel
theorem wit_ClocksComplete_5 : (up.wrT .ckDomainCtrl 0 CK_DOMAIN_CTRL.CUR_SRC 1).curSrc 0 ≠ 3 ∧
    ({ up with clk := { up.clk with aonWait := false } } : Dev).clk.aonWait = false ∧
    ({ up with clk := { up.clk with aonWait := true } } : Dev).clk.aonWait = true ∧
    3 ≤ (up.wr .rs RS_STAT.PHASE 3).rd .rs RS_STAT.PHASE ∧ up.rdT .ckLoop 2 CK_LOOP.LOCKED = 0 ∧
    up.rdT .ckLoop 2 CK_LOOP.FAILED = 0 := by decide +kernel
theorem wit_ClocksComplete_6 : ((dop 178 2).dom 178).op = 2 ∧ ((dop 178 1).dom 178).op = 1 := by decide +kernel
/-- No loop enabled, and a failure shown. -/
def noLoops : Dev :=
  (List.range 17).foldl (fun (x : Dev) i => x.wrT .ckLoop i CK_LOOP.EN 0) (up.wr .ck CK_FAIL.FAIL 1)
theorem wit_ClocksComplete_7 : let e := noLoops.clocksNow 0 true
    (Instr.clockFailClear T0 0 0 true).wellFormed = true ∧ e.accepts T0 .ck CK_FAIL.FAIL (CK_FAIL.FAIL.set 0 1) = true ∧
    e.rd .ck CK_FAIL.FAIL ≠ 0 ∧ e.failClearOk = true := by decide +kernel

/-- Field changes of .pw and .rs. -/
def pw (l : List (Fld × Nat)) : Dev := up.wrs .pw l
def rs (l : List (Fld × Nat)) : Dev := up.wrs .rs l
theorem wit_PowerComplete_1 : (Instr.feedStateChange 1 65535 true).wellFormed = true ∧
    (pw [((feedFlds 1).1, 5)]).rd .pw (feedFlds 1).1 = feedState 5 65535 false ∧
    (pw [((feedFlds 1).1, 3)]).rd .pw (feedFlds 1).1 ≠ feedState 3 65535 false ∧ feedState 4 201 true = 1 := by
  decide +kernel
theorem wit_PowerComplete_2 : let d := { pw [(PW_FEED_STATUS.STATE_B, 3), (PW_FEED_B_MV.MAG, 3500)] with pwr := { up.pwr with usableA := true, lw := 0 } }
    3 ≤ d.rd .pw PW_FEED_STATUS.STATE_B ∧ 3500 ≤ d.rd .pw PW_FEED_B_MV.MAG ∧ d.pwr.lw = 0 ∧ d.pwr.usableA = true := by decide +kernel
theorem wit_PowerComplete_3 : let d := { rs [(RS_LW_STAT.ARMED, 1), (RS_LW_CFG.EN, 1)] with pwr := { up.pwr with lw := 0 } }
    (Instr.lastWordStart 3299 0 0).wellFormed = true ∧ d.pwr.lw = 0 ∧ d.rd .rs RS_LW_STAT.ARMED ≠ 0 ∧
    d.rd .rs RS_LW_CFG.EN ≠ 0 ∧ ({ up.pwr with lwPend := some [] } : Pwr).lwPend = some [] := by decide +kernel
theorem wit_PowerComplete_4 : let d := { pw [(PW_FEED_STATUS.HOLDUP_OK, 1)] with pwr := { up.pwr with lw := 0 } }
    d.rd .pw PW_FEED_STATUS.HOLDUP_OK ≠ 0 ∧ d.pwr.lw = 0 ∧ d.live .rs = true ∧
    (d.wr .rs RS_LW_STAT.ARMED 0).rd .rs RS_LW_STAT.ARMED = 0 := by decide +kernel
theorem wit_PowerComplete_5 : let d := { rs [(RS_LW_STAT.VALID, 0)] with pwr := { up.pwr with lwPowerOn := true, lw := 2 } }
    let d1 := Dev.bigReset true 1 { d with pwr := { d.pwr with lw := 0, lwPowerOn := false } }
    d.pwr.lwPowerOn = true ∧ d.pwr.lw ≠ 1 ∧ d.rd .rs RS_LW_STAT.VALID = 0 ∧
    ((d1.wr .rs RS_STAT.RETAIN_VALID 1).wr .pw PW_FEED_STATUS.HOLDUP_OK 0).rd .rs RS_LW_STAT.VALID = 0 := by decide +kernel
theorem wit_PowerComplete_6 : (rs [(RS_RESET_CTRL.PIN_WARM, 0)]).rd .rs RS_RESET_CTRL.PIN_WARM = 0 ∧ up.pwr.lw = 0 ∧
    (rs [(RS_RESET_CTRL.HOT_WARM, 1)]).rd .rs RS_RESET_CTRL.HOT_WARM ≠ 0 ∧
    (rs [(RS_RESET_CTRL.HOT_WARM, 0)]).rd .rs RS_RESET_CTRL.HOT_WARM = 0 ∧ up.pwr.scope = 0 := by decide +kernel
theorem wit_PowerComplete_7 : let v := RS_RESET_CTRL.DOMAIN.set 0 178
    let ok (op : Nat) := up.accepts T0 .rs RS_RESET_CTRL.OP (RS_RESET_CTRL.OP.set v op)
    (Instr.resetCold T0 v).wellFormed = true ∧ RS_RESET_CTRL.DOMAIN.get v = 178 ∧ ok 1 = true ∧ ok 2 = true ∧ ok 3 = true ∧
    ok 4 = true ∧ opDomain 178 = true ∧ up.rd .rs RS_STAT.BUSY = 0 := by decide +kernel
theorem wit_PowerComplete_8 : (∃ k < 179, ∃ u < 48, (lasts up (last0 30 u 5)).holders k ≠ []) ∧
    (let d := up.setDom 178 { up.dom 178 with inRst := true }
     (d.dom 178).inRst = true ∧ (d.dom 178).held = false) := by decide +kernel
theorem wit_PowerComplete_9 : let d (k : Nat) : Dev :=
      { rs [(RS_STAT.PHASE, k)] with pwr := { up.pwr with scope := 2, rstN := false, lw := 0, relQ := [] } }
    (d 1).pwr.scope ≠ 0 ∧ (d 1).rd .rs RS_STAT.PHASE = 1 ∧ (d 2).rd .rs RS_STAT.PHASE = 2 := by decide +kernel
theorem wit_PowerComplete_10 : let d := rs [(RS_WDT.EN, 1), (RS_WDT.PERIOD_MS, 10), (RS_WDT.WDT_COLD, 0)]
    let v := RS_WDT.PERIOD_MS.set 0 10
    (Instr.watchdogKick T0 v).wellFormed = true ∧ d.accepts T0 .rs RS_WDT.KICK (RS_WDT.KICK.set v 1) = true ∧
    d.rd .rs RS_WDT.EN = 1 ∧ 10 ≤ RS_WDT.PERIOD_MS.get v ∧ RS_WDT.PERIOD_MS.get v = d.rd .rs RS_WDT.PERIOD_MS ∧
    RS_WDT.WDT_COLD.get v = d.rd .rs RS_WDT.WDT_COLD ∧ d.pwr.wdtWarned = false ∧ d.rd .rs RS_WDT.WDT_COLD = 0 := by
  decide +kernel
theorem wit_PowerComplete_11 : let d := { up with pwr := { up.pwr with bank0 := ⟨[], 1, true⟩, bank1 := ⟨[], 2, false⟩ } }
    (Instr.calCommit T0 0).wellFormed = true ∧ d.rd .rs RS_CAL_CMD.STAT ≠ 1 ∧
    d.accepts T0 .rs RS_CAL_CMD.OP (RS_CAL_CMD.OP.set 0 1) = true ∧
    d.accepts T0 .rs RS_CAL_CMD.OP (RS_CAL_CMD.OP.set 0 2) = true ∧ d.activeBank = some 0 ∧
    ({ d.pwr with commit := some 1 } : Pwr).commit = some 1 ∧ (Instr.inputCurrentHigh 10000).wellFormed = true := by
  decide +kernel

theorem wit_LineModeRule : (Instr.lineModeWrite T0 47 1).wellFormed = true ∧
    up.accepts T0 (.te 47 0) TE_MODE.LINE_MODE 1 = true ∧
    (up.rd (.te 47 0) TE_TX_CTRL.FRAMER_EN = 0 ∧ up.rd (.te 47 1) TE_RX_CTRL.RX_EN = 0 ∧ up.groupOf 47 = none) ∧
    ¬ ((up.wr (.te 47 0) TE_TX_CTRL.FRAMER_EN 1).rd (.te 47 0) TE_TX_CTRL.FRAMER_EN = 0) := by decide +kernel
theorem wit_RangeConfigurationRule : let v := TE_RANGE_CFG.MAX_KM.set (TE_RANGE_CFG.TEQD_NS.set 0 135000) 10
    let w := TE_RANGE_CFG.MAX_KM.set (TE_RANGE_CFG.TEQD_NS.set 0 134999) 10
    (¬ (37000 + 9800 * TE_RANGE_CFG.MAX_KM.get w ≤ TE_RANGE_CFG.TEQD_NS.get w ∧ TE_RANGE_CFG.TEQD_NS.get w ≤ 1000000)) ∧
    (up.wRangeCfg 47 v).rd (.te 47 2) TE_RANGE_CFG.TEQD_NS ≠ up.rd (.te 47 2) TE_RANGE_CFG.TEQD_NS := by decide +kernel
theorem wit_FaultControlRule : let v (ms m : Nat) := FT_CTRL.FAULT_MIN.set (FT_CTRL.COAL_MS.set 0 ms) m
    let ok (w : Nat) := (Instr.registerWrite T0 4 0x100 (.write w)).wellFormed && up.accepts T0 .ft FT_CTRL.COAL_MS w
    up.pageOf T0 4 = some .ft ∧ ok (v 0 0) = true ∧ ok (v 1001 0) = true ∧ ok (v 1000 7) = true ∧ ok (v 1000 6) = true ∧
    ok (v 1 0) = true ∧ FT_CTRL.COAL_MS.get (v 1001 0) = 1001 ∧ FT_CTRL.FAULT_MIN.get (v 1000 7) = 7 := by decide +kernel
/-- The premises of the second clause of FaultControlRule for the image `e` of class `k`, as a WRITE or an RMW of all words. -/
def ftRefused (k e : Nat) (rmw : Bool) : Bool :=
  let v := if rmw then TBL_CMD.ARG.set 0 3 else 0
  let o := if rmw then 3 else 2
  let d := up.tblLoad .ft 0 k e
  let x := d.tblStart .ft o (TBL_CMD.ARG.get v)
  let y := if rmw then rmwImage (TBL_CMD.ARG.get v) (x.viewEntry .ftClass k) (x.tblData .ft) else x.tblData .ft
  (if rmw then (Instr.tblRmw T0 4 v false).wellFormed else (Instr.tblWrite T0 4 v).wellFormed) && d.pageOf T0 4 == some .ft &&
    d.accepts T0 .ft TBL_CMD.OP (TBL_CMD.OP.set v o) && d.rd .ft TBL_STAT.BUSY == 0 &&
    x.tblPick .ft == some (.ftClass, false) && x.rd .ft TBL_INDEX.INDEX == k && y == e
/-- An image that breaks each case of R420 in turn meets the premises, at the boundary value. -/
theorem wit_FaultControlRule_2 : let e := up.viewEntry .ftClass 63
    let l := [FT_CLASS.N.set e 0, FT_CLASS.W_MS.set e 0, FT_CLASS.W_MS.set e 3600001, FT_CLASS.ACTION.set e 6,
      FT_CLASS.ACTION.set e 7, FT_CLASS.SCOPE.set e 7, FT_CLASS.FIXED.set e (1 - FT_CLASS.FIXED.get e)]
    l.all (fun x => ftRefused 63 x false && ftRefused 63 x true) = true ∧ (∀ x ∈ l, x ≠ e) ∧
    (let g := up.viewEntry .ftClass 0
     (ftRow 0).scope = 0 ∧ ftRefused 0 (FT_CLASS.ACTION.set g 2) false = true ∧
     ftRefused 0 (FT_CLASS.ACTION.set g 5) true = true) := by decide +kernel

/-! ## Examples of the specification

Each expected value is the specification's: its worked examples, or the registers' own layout. -/

/-- No row gives bits, so no word spells a command (the table of operations and events). -/
theorem test_no_word : decodeTableWord 32 0 = none ∧ (State.reset.withFetchWord 32 5) = State.reset := by
  constructor <;> rfl
/-- PAGE_ID of BW page 1 and of TM page 1 (R30: code in [31:16], index, layout). -/
theorem test_page_id : up.readWord 0 .bw0 0 / 65536 = 0x4257 ∧ up.readWord 0 (.tm 1) 0 = 0x544d0101 := by decide +kernel
/-- An XGEM frame of 1,518 bytes takes 1,528 (chapter 3, example). -/
theorem test_xgem_length : xgemBytes 1518 = 1528 ∧ fitBytes 132 1518 = 124 ∧ xgemBytes (1518 - 124) = 1404 := by decide
/-- 9 µs at 49.7664 Gb/s is 447,897.6 UI, rounded up (chapter 8, example); 373.570 µs is 18,591,234 (chapter 5). -/
theorem test_ns_to_ui : nsToUi 48600 9000 = 447898 ∧ nsToUi 48600 373570 = 18591234 := by decide

/-! Module time (chapter 15): the servo with its default gains, sample 0 steps and sample 1 is proportional-integral. -/

/-- The servo on, at 1,700,000,000.999,980,000 less the offset of sample 0. -/
def sv0 : Dev :=
  let d := (en up [.tm 0]).wrs (.tm 0) [(TM_SERVO.EN, 1)]
  { d with time := { sec := 1700000000, ns := 999980000, frac := 0 } }
/-- After an offset sample of `k` ns below zero. -/
def svAt (d : Dev) (k : Nat) : Dev := aft (.hostOffsetSample T0 (2 ^ 32 - k)) d
theorem test_servo_step : (svAt sv0 30000).time.sec = 1700000001 ∧ (svAt sv0 30000).time.ns = 10000 ∧
    (svAt sv0 30000).rd (.tm 0) TM_STAT.TICK_STEP = 1 ∧ (svAt sv0 30000).rd (.tm 0) TM_TICK.SEC = 0x6553F101 := by
  decide +kernel
theorem test_servo_pi : (svAt sv0 20).rd (.tm 0) TM_SERVO_INT.I = 2 ^ 32 - 10 * 256 ∧
    (svAt sv0 20).rd (.tm 0) TM_SERVO_ADJ.Y = 2 ^ 32 - 50 * 256 := by decide +kernel

/-! Check values (chapter 20). -/

theorem test_check_value :
    let d := aft (.cvStart T0 5 4) (en up [.cv 5])
    let e := aft (.cvData8 T0 5 0x39) (aft (.cvData32 T0 5 0x35363738) (aft (.cvData32 T0 5 0x31323334) d))
    e.readWord 0 (.cv 5) 0x114 = 0xCBF43926 := by decide +kernel

/-! Buffers (chapter 11): the handle of descriptor 650,000 at generation 0x3C, and a free by one who does not hold it. -/

/-- Descriptor 650,000 taken for flow 40,000 and aggregate 500. -/
def bx : Dev :=
  let d := en up [.bp 0, .sc 0]
  let d := d.wrTs .clFlow 40000 [(CL_FLOW.VALID, 1), (CL_FLOW.DS_EN, 1), (CL_FLOW.TENANT, 2), (CL_FLOW.TREE, 7)]
  let d := (d.wrTs .scAgg 500 [(SC_AGG.TENANT, 2)]).wrT .bpDesc 650000 BP_DESC.GEN 0x3b
  let a : Admit := { rt := 2, first := .flow 40000, second := some (.agg 500), bytes := List.replicate 1200 0#8, ts := none,
                     source := 0, req := none, tx := none }
  aft (.bufferAdmit 650000 false) (((d.wrTs .bpAccount 0 [(BP_ACCOUNT.MAX 2, 200000)]).wrTs .bpAccount 183 [(BP_ACCOUNT.RES 2, 1000), (BP_ACCOUNT.MAX 2, 3000)]).setBp { d.path.bp with inq := [a] })
theorem test_handle : bx.handleOf 650000 = 0x03C9EB10 ∧ bx.rdT .bpDesc 650000 BP_DESC.REFCNT = 2 := by decide +kernel

/-! The ciphers that the specification names: FIPS 197, appendix C, and RFC 4493's code of the empty message. -/

theorem test_aes128 : aes 0 0x000102030405060708090a0b0c0d0e0f 0x00112233445566778899aabbccddeeff =
    0x69c4e0d86a7b0430d8cdb78070b4c55a := by decide +kernel
theorem test_aes256 : aes 1 0x000102030405060708090a0b0c0d0e0f101112131415161718191a1b1c1d1e1f
    0x00112233445566778899aabbccddeeff = 0x8ea2b7ca516745bfeafc49904b496089 := by decide +kernel
theorem test_cmac_empty : cmac 0 0x2b7e151628aed2a6abf7158809cf4f3c [] =
    beBytes 16 0xbb1d6929e95937287fa37d129b756746 := by decide +kernel

theorem test_ill_formed_access : ([B16, { T0 with be := 16 }, { T0 with slot := 5 }, { T0 with slot := 16384 },
    { F1 with slot := 512 }] : List By).all (fun b => !b.ok) = true ∧ T0.ok = true ∧ F1.ok = true := by decide +kernel

theorem test_ill_formed_refused_1 : ([.registerWrite B16 0 0 .read,
    .registerWrite T0 16384 0 .read,
    .registerWrite T0 0 4096 .read,
    .registerWrite T0 0 0 (.write (2 ^ 32)),
    .registerWrite T0 0 0 (.vfEnable 16),
    .registerWrite T0 0 0 (.msixMask 64),
    .errCountRead B16 0,
    .errCountRead T0 16384,
    .intRawClear B16 0 0,
    .intRawClear T0 16384 0,
    .intRawClear T0 0 (2 ^ 32),
    .intForceWrite B16 0 0,
    .intForceWrite T0 16384 0,
    .intForceWrite T0 0 (2 ^ 32),
    .msixVectorUnmask 16 0,
    .msixVectorUnmask 0 64,
    .pageOwnerWrite B16 0 0,
    .pageOwnerWrite T0 16384 0,
    .pageOwnerWrite T0 0 (2 ^ 32),
    .pageEnableWrite B16 0 0,
    .pageEnableWrite T0 16384 0,
    .pageEnableWrite T0 0 (2 ^ 32),
    .quiesceRequest B16 0 0,
    .quiesceRequest T0 16384 0,
    .quiesceRequest T0 0 (2 ^ 32),
    .quiesceReached 16384,
    .quiesceRelease B16 0 0,
    .quiesceRelease T0 16384 0,
    .quiesceRelease T0 0 (2 ^ 32),
    .softRst B16 0 0,
    .softRst T0 16384 0,
    .softRst T0 0 (2 ^ 32),
    .blockResetDone 16384,
    .tblNop B16 0 0,
    .tblNop T0 16384 0,
    .tblNop T0 0 (2 ^ 32),
    .tblRead B16 0 0 false,
    .tblRead T0 16384 0 false,
    .tblRead T0 0 (2 ^ 32) false,
    .tblWrite B16 0 0] : List Instr).all (fun c => !c.wellFormed) = true := by decide +kernel

theorem test_ill_formed_refused_2 : ([.tblWrite T0 16384 0,
    .tblWrite T0 0 (2 ^ 32),
    .tblRmw B16 0 0 false,
    .tblRmw T0 16384 0 false,
    .tblRmw T0 0 (2 ^ 32) false,
    .tblClearRange B16 0 0,
    .tblClearRange T0 16384 0,
    .tblClearRange T0 0 (2 ^ 32),
    .tblCmdDone 16384,
    .frameStart 48,
    .ocHiWrite B16 0 0,
    .ocHiWrite T0 48 0,
    .ocHiWrite T0 0 (2 ^ 32),
    .todArm B16 0 0,
    .todArm T0 48 0,
    .todArm T0 0 (2 ^ 32),
    .framerEnable B16 0 0,
    .framerEnable T0 48 0,
    .framerEnable T0 0 (2 ^ 32),
    .framerDisable B16 0 0,
    .framerDisable T0 48 0,
    .framerDisable T0 0 (2 ^ 32),
    .lineModeWrite B16 0 0,
    .lineModeWrite T0 48 0,
    .lineModeWrite T0 0 (2 ^ 32),
    .dsXgemFrame 48,
    .todAnnouncement 48,
    .hostPloamSubmit 48,
    .cycleOpen 48,
    .bellowsStart 48 0 0,
    .bellowsStart 0 7 0,
    .bellowsStart 0 0 16384,
    .speculativeMapComplete 48,
    .confirmationCut 48,
    .grantCheck 48 false,
    .reconciliationDeadline 48,
    .mapHandover 48,
    .mapDeadline 48 false,
    .txdisSample 48 false,
    .rxDisable B16 0 0] : List Instr).all (fun c => !c.wellFormed) = true := by decide +kernel

theorem test_ill_formed_refused_3 : ([.rxDisable T0 48 0,
    .rxDisable T0 0 (2 ^ 32),
    .burstLockStart 48 0,
    .burstLockStart 0 2048,
    .searchWindowOpen 48 0 false,
    .searchWindowOpen 0 2048 false,
    .delimiterMatch 48 0 0 0 0 0 false,
    .delimiterMatch 0 2048 0 0 0 0 false,
    .delimiterMatch 0 0 (2 ^ 64) 0 0 0 false,
    .delimiterMatch 0 0 0 3 0 0 false,
    .delimiterMatch 0 0 0 0 1024 0 false,
    .searchWindowClose 48 0 false,
    .searchWindowClose 0 2048 false,
    .burstPayloadEnd 48 0 0 0 0 0 0 0 0,
    .burstPayloadEnd 0 2048 0 0 0 0 0 0 0,
    .burstPayloadEnd 0 0 (2 ^ 240) 0 0 0 0 0 0,
    .burstPayloadEnd 0 0 0 (2 ^ 80) 0 0 0 0 0,
    .burstPayloadEnd 0 0 0 0 65536 0 0 0 0,
    .burstPayloadEnd 0 0 0 0 0 65536 0 0 0,
    .burstPayloadEnd 0 0 0 0 0 0 256 0 0,
    .burstPayloadEnd 0 0 0 0 0 0 0 256 0,
    .burstPayloadEnd 0 0 0 0 0 0 0 0 64,
    .brstPulse 48 0,
    .brstPulse 0 2048,
    .fecCodewordDecode 48 0 0 false 0 [],
    .fecCodewordDecode 0 2048 0 false 0 [],
    .fecCodewordDecode 0 0 (2 ^ 64) false 0 [],
    .fecCodewordDecode 0 0 0 false 33 [],
    .idleSpanListen 48 0 0 0 none,
    .idleSpanListen 0 0 256 0 none,
    .discoveryWindowOpen 48,
    .snBurstAccept 48 0 0 0 0 0 0 [] 0,
    .snBurstAccept 0 (2 ^ 64) 0 0 0 0 0 [] 0,
    .snBurstAccept 0 0 3 0 0 0 0 [] 0,
    .snBurstAccept 0 0 0 1024 0 0 0 [] 0,
    .snBurstAccept 0 0 0 0 (2 ^ 64) 0 0 [] 0,
    .snBurstAccept 0 0 0 0 0 (2 ^ 24) 0 [] 0,
    .discoveryWindowEnd 48 0 0,
    .discoveryWindowEnd 0 256 0,
    .discoveredTimeout 48 0] : List Instr).all (fun c => !c.wellFormed) = true := by decide +kernel

theorem test_ill_formed_refused_4 : ([.discoveredTimeout 0 256,
    .rangingBurstAccept 48 0,
    .rangingBurstAccept 0 2048,
    .rangingTimeAck 48 0 [] 0,
    .rangingTimeAck 0 256 [] 0,
    .rangingAckTimeout 48 0,
    .rangingAckTimeout 0 256,
    .onuAuthorise B16 0 0,
    .onuAuthorise T0 48 0,
    .onuAuthorise T0 0 (2 ^ 32),
    .onuRerange B16 0 0,
    .onuRerange T0 48 0,
    .onuRerange T0 0 (2 ^ 32),
    .onuDeactivate B16 0 0,
    .onuDeactivate T0 48 0,
    .onuDeactivate T0 0 (2 ^ 32),
    .onuDisable B16 0 0,
    .onuDisable T0 48 0,
    .onuDisable T0 0 (2 ^ 32),
    .onuEnable B16 0 0,
    .onuEnable T0 48 0,
    .onuEnable T0 0 (2 ^ 32),
    .onuRelease B16 0 0,
    .onuRelease T0 48 0,
    .onuRelease T0 0 (2 ^ 32),
    .huntAbort B16 0 0,
    .huntAbort T0 48 0,
    .huntAbort T0 0 (2 ^ 32),
    .huntRoundEnd 48,
    .traceEnable B16 0,
    .traceEnable T0 (2 ^ 32),
    .safeEnter B16 0,
    .safeEnter T0 (2 ^ 32),
    .safeExit B16 0,
    .safeExit T0 (2 ^ 32),
    .groupForm B16 0 0,
    .groupForm T0 24 0,
    .groupForm T0 0 (2 ^ 512),
    .groupDissolve B16 0,
    .groupDissolve T0 24] : List Instr).all (fun c => !c.wellFormed) = true := by decide +kernel

theorem test_ill_formed_refused_5 : ([.groupLineMode B16 0 0,
    .groupLineMode T0 24 0,
    .groupLineMode T0 0 4,
    .memberDown B16 0,
    .memberDown T0 (2 ^ 32),
    .memberRestore B16 0,
    .memberRestore T0 (2 ^ 32),
    .skewRemeasure B16 0,
    .skewRemeasure T0 (2 ^ 32),
    .memberRestoreTimeout 24 0,
    .memberRestoreTimeout 0 4,
    .dsFragmentDistribute 24,
    .usFragmentReceive 24,
    .fragmentWaitTimeout 24 0,
    .fragmentWaitTimeout 0 16384,
    .oamTemplateSend 24,
    .holdGapDetect 2 false false,
    .holdGapEnd 2,
    .protectionCellSend 2,
    .protectionCellReceive 2 0 [],
    .protectionCellReceive 0 (2 ^ 64) [],
    .protectionCellReceive 0 0 (List.replicate 249 0#8),
    .linkSilent 2,
    .timeCellSend 2,
    .timeCellReceive 2 0 [],
    .timeCellReceive 0 (2 ^ 64) [],
    .timeCellReceive 0 0 (List.replicate 249 0#8),
    .mirrorRecordApply 2 [],
    .mirrorRecordApply 0 [(0, []), (2 ^ 64, [])],
    .mirrorDeadline 48,
    .acquisitionTimeout 48,
    .reqClear B16 0,
    .reqClear T0 (2 ^ 32),
    .reqLockout B16 0,
    .reqLockout T0 (2 ^ 32),
    .reqForced B16 0,
    .reqForced T0 (2 ^ 32),
    .reqManual B16 0,
    .reqManual T0 (2 ^ 32),
    .reqExercise B16 0] : List Instr).all (fun c => !c.wellFormed) = true := by decide +kernel

theorem test_ill_formed_refused_6 : ([.reqExercise T0 (2 ^ 32),
    .exerciseTimeout 48,
    .wtrExpiry 48,
    .startTimeout 48,
    .holdFault 2,
    .pxRoleWrite B16 0 0,
    .pxRoleWrite T0 48 0,
    .pxRoleWrite T0 0 (2 ^ 512),
    .aztilMessageReceive 2 [],
    .aztilMessageReceive 0 [(0, []), (2 ^ 64, [])],
    .dsFrameClassify 32 none none,
    .usFrameClassify 48 none none,
    .bufferAdmit (2 ^ 20) false,
    .releaseRequest (2 ^ 28) 0 false false,
    .releaseRequest 0 (2 ^ 26) false false,
    .freeRequest (2 ^ 28) 0 false false,
    .freeRequest 0 (2 ^ 26) false false,
    .dequeueSelect 80 false,
    .launchTimeReached 16384,
    .flush B16 0,
    .flush T0 (2 ^ 32),
    .latencySample 147456,
    .dsEncrypt 48 false false,
    .usDecrypt 48 false,
    .pauseScanDone 16384,
    .jobCfbEncrypt 16 0 0 0 [] [] false,
    .jobCfbEncrypt 0 65536 0 0 [] [] false,
    .jobCfbEncrypt 0 0 (2 ^ 32) 0 [] [] false,
    .jobCfbEncrypt 0 0 0 (2 ^ 64) [] [] false,
    .jobCfbDecrypt 16 0 0 0 [] [] false,
    .jobCfbDecrypt 0 65536 0 0 [] [] false,
    .jobCfbDecrypt 0 0 (2 ^ 32) 0 [] [] false,
    .jobCfbDecrypt 0 0 0 (2 ^ 64) [] [] false,
    .jobCmacGenerate 16 0 0 0 [] [] false,
    .jobCmacGenerate 0 65536 0 0 [] [] false,
    .jobCmacGenerate 0 0 (2 ^ 32) 0 [] [] false,
    .jobCmacGenerate 0 0 0 (2 ^ 64) [] [] false,
    .jobCmacVerify 16 0 0 0 [] [] false,
    .jobCmacVerify 0 65536 0 0 [] [] false,
    .jobCmacVerify 0 0 (2 ^ 32) 0 [] [] false] : List Instr).all (fun c => !c.wellFormed) = true := by decide +kernel

theorem test_ill_formed_refused_7 : ([.jobCmacVerify 0 0 0 (2 ^ 64) [] [] false,
    .jobComplete 16 false,
    .jobqPiWrite B16 0 0,
    .jobqPiWrite T0 16 0,
    .jobqPiWrite T0 0 (2 ^ 32),
    .functionLevelReset 16,
    .flrDone 16,
    .todSet B16 0,
    .todSet T0 (2 ^ 32),
    .todStep B16 0,
    .todStep T0 (2 ^ 32),
    .todRead B16,
    .sfcLoRead B16 0,
    .sfcLoRead T0 48,
    .hostOffsetSample B16 0,
    .hostOffsetSample T0 (2 ^ 32),
    .ptpSyncReceive 32 0 0 0 0 0 0 false 0 0 0,
    .ptpSyncReceive 0 3 0 0 0 0 0 false 0 0 0,
    .ptpSyncReceive 0 0 16 0 0 0 0 false 0 0 0,
    .ptpSyncReceive 0 0 0 256 0 0 0 false 0 0 0,
    .ptpSyncReceive 0 0 0 0 (2 ^ 64) 0 0 false 0 0 0,
    .ptpSyncReceive 0 0 0 0 0 65536 0 false 0 0 0,
    .ptpSyncReceive 0 0 0 0 0 0 65536 false 0 0 0,
    .ptpSyncReceive 0 0 0 0 0 0 0 false (2 ^ 48) 0 0,
    .ptpSyncReceive 0 0 0 0 0 0 0 false 0 (2 ^ 32) 0,
    .ptpSyncReceive 0 0 0 0 0 0 0 false 0 0 (2 ^ 64),
    .ptpFollowUpReceive 32 0 0 0 0 0 0 0 0 0,
    .ptpFollowUpReceive 0 3 0 0 0 0 0 0 0 0,
    .ptpFollowUpReceive 0 0 16 0 0 0 0 0 0 0,
    .ptpFollowUpReceive 0 0 0 256 0 0 0 0 0 0,
    .ptpFollowUpReceive 0 0 0 0 (2 ^ 64) 0 0 0 0 0,
    .ptpFollowUpReceive 0 0 0 0 0 65536 0 0 0 0,
    .ptpFollowUpReceive 0 0 0 0 0 0 65536 0 0 0,
    .ptpFollowUpReceive 0 0 0 0 0 0 0 (2 ^ 48) 0 0,
    .ptpFollowUpReceive 0 0 0 0 0 0 0 0 (2 ^ 32) 0,
    .ptpFollowUpReceive 0 0 0 0 0 0 0 0 0 (2 ^ 64),
    .xtalGate (2 ^ 32),
    .tsqPop B16 0,
    .tsqPop T0 32,
    .pstateRequest B16 0 0] : List Instr).all (fun c => !c.wellFormed) = true := by decide +kernel

theorem test_ill_formed_refused_8 : ([.pstateRequest T0 88 0,
    .pstateRequest T0 0 (2 ^ 32),
    .pstateTransitionDone 88,
    .clkGoodRise 179,
    .adaptRestart B16 0 0,
    .adaptRestart T0 88 0,
    .adaptRestart T0 0 (2 ^ 32),
    .adaptDone 88,
    .adaptFail 88 false,
    .prbsInject B16 0 0,
    .prbsInject T0 88 0,
    .prbsInject T0 0 (2 ^ 32),
    .prbsClear B16 0 0,
    .prbsClear T0 88 0,
    .prbsClear T0 0 (2 ^ 32),
    .prbsLost 88 0 0,
    .prbsErrLoRead B16 0 false 0 0,
    .prbsErrLoRead T0 88 false 0 0,
    .ulFrameReceive 32 [] false 0 0 0,
    .ulFrameReceive 0 [] false (2 ^ 64) 0 0,
    .ulFrameTransmit 32 false false,
    .linkUp 32,
    .linkDown 32 false false false false,
    .refclkDetect 3,
    .clockFailure 35 false,
    .sourceSwitch B16 0 0,
    .sourceSwitch T0 179 0,
    .sourceSwitch T0 0 35,
    .sourceSwitchDone 179,
    .deadSource 179 false,
    .gateRequest B16 0,
    .gateRequest T0 179,
    .gateComplete 179,
    .gateTimeout 179,
    .ungate B16 0,
    .ungate T0 179,
    .clockFailClear B16 0 0 false,
    .clockFailClear T0 (2 ^ 32) 0 false,
    .clockFailClear T0 0 131072 false,
    .feedStateChange 2 0 false] : List Instr).all (fun c => !c.wellFormed) = true := by decide +kernel

theorem test_ill_formed_refused_9 : ([.feedStateChange 0 65536 false,
    .feedUsable 2,
    .lastWordStart 65536 0 0,
    .lastWordStart 0 65536 0,
    .lastWordStart 0 0 65536,
    .resetCold B16 0,
    .resetCold T0 (2 ^ 32),
    .resetWarm B16 0,
    .resetWarm T0 (2 ^ 32),
    .resetDomain B16 0,
    .resetDomain T0 (2 ^ 32),
    .releaseEscalated B16 0,
    .releaseEscalated T0 (2 ^ 32),
    .domainResetDone 179,
    .watchdogKick B16 0,
    .watchdogKick T0 (2 ^ 32),
    .calCommit B16 0,
    .calCommit T0 (2 ^ 32),
    .calReload B16 0,
    .calReload T0 (2 ^ 32),
    .qrelWrite B16 0,
    .qrelWrite T0 (2 ^ 32),
    .lockstepMismatch 65536,
    .cmpTest B16 0,
    .cmpTest T0 (2 ^ 32),
    .holdOutputMismatch 2,
    .thermalSample 32 0,
    .faultEvent 64 0 none 0,
    .faultEvent 0 256 none 0,
    .faultEvent 0 0 none (2 ^ 32),
    .faultWindowClose 64 0,
    .faultWindowClose 0 256,
    .lastingExpiry 64 0,
    .lastingExpiry 0 256,
    .coalIntervalEnd 64 0,
    .coalIntervalEnd 0 256,
    .ftClear B16 0,
    .ftClear T0 (2 ^ 32),
    .ftInject B16 0,
    .ftInject T0 (2 ^ 32)] : List Instr).all (fun c => !c.wellFormed) = true := by decide +kernel

theorem test_ill_formed_refused_10 : ([.txRingDoorbell B16 0 0 0,
    .txRingDoorbell T0 16 0 0,
    .txRingDoorbell T0 0 8 0,
    .txRingDoorbell T0 0 0 (2 ^ 32),
    .rxRingConsume B16 0 0 0 [],
    .rxRingConsume T0 16 0 0 [],
    .rxRingConsume T0 0 8 0 [],
    .rxRingConsume T0 0 0 (2 ^ 32) [],
    .txFlowFrame 16 0 0 [] 0 0 0 0 false 0 0,
    .txFlowFrame 0 8 0 [] 0 0 0 0 false 0 0,
    .txFlowFrame 0 0 (2 ^ 32) [] 0 0 0 0 false 0 0,
    .txFlowFrame 0 0 0 [] 4 0 0 0 false 0 0,
    .txFlowFrame 0 0 0 [] 0 65536 0 0 false 0 0,
    .txFlowFrame 0 0 0 [] 0 0 65536 0 false 0 0,
    .txFlowFrame 0 0 0 [] 0 0 0 65536 false 0 0,
    .txFlowFrame 0 0 0 [] 0 0 0 0 false (2 ^ 32) 0,
    .txFlowFrame 0 0 0 [] 0 0 0 0 false 0 (2 ^ 32),
    .txAggFrame 16 0 0 [] 0 0 0 0 false 0 0,
    .txAggFrame 0 8 0 [] 0 0 0 0 false 0 0,
    .txAggFrame 0 0 (2 ^ 32) [] 0 0 0 0 false 0 0,
    .txAggFrame 0 0 0 [] 4 0 0 0 false 0 0,
    .txAggFrame 0 0 0 [] 0 65536 0 0 false 0 0,
    .txAggFrame 0 0 0 [] 0 0 65536 0 false 0 0,
    .txAggFrame 0 0 0 [] 0 0 0 65536 false 0 0,
    .txAggFrame 0 0 0 [] 0 0 0 0 false (2 ^ 32) 0,
    .txAggFrame 0 0 0 [] 0 0 0 0 false 0 (2 ^ 32),
    .txPloam 16 0 0 0 0 (.other 0) [] false,
    .txPloam 0 8 0 0 0 (.other 0) [] false,
    .txPloam 0 0 (2 ^ 32) 0 0 (.other 0) [] false,
    .txPloam 0 0 0 (2 ^ 32) 0 (.other 0) [] false,
    .txPloam 0 0 0 0 1024 (.other 0) [] false,
    .txOmci 16 0 0 [] false,
    .txOmci 0 8 0 [] false,
    .txOmci 0 0 (2 ^ 32) [] false,
    .txAztilMessage 16 0 0 [] false,
    .txAztilMessage 0 8 0 [] false,
    .txAztilMessage 0 0 (2 ^ 32) [] false,
    .hostAggDequeue 16 false false,
    .dmaError 16 0 0 false false,
    .dmaError 0 16 0 false false] : List Instr).all (fun c => !c.wellFormed) = true := by decide +kernel

theorem test_ill_formed_refused_11 : ([.dmaError 0 0 8192 false false,
    .ringCoalesceTimeout 16 0,
    .ringCoalesceTimeout 0 16,
    .pcieLinkChange false 6 0,
    .pcieLinkChange false 0 9,
    .hiErrCntRead B16,
    .hiOmciDropRead B16,
    .pmSnap B16 0 0,
    .pmSnap T0 128 0,
    .pmSnap T0 0 (2 ^ 32),
    .pmCntLoRead B16 0 0 false,
    .pmCntLoRead T0 128 0 false,
    .pmCntLoRead T0 0 32 false,
    .cvAlgWrite B16 0 0,
    .cvAlgWrite T0 8 0,
    .cvAlgWrite T0 0 (2 ^ 32),
    .cvStart B16 0 0,
    .cvStart T0 8 0,
    .cvStart T0 0 (2 ^ 32),
    .cvData8 B16 0 0,
    .cvData8 T0 8 0,
    .cvData8 T0 0 (2 ^ 32),
    .cvData16 B16 0 0,
    .cvData16 T0 8 0,
    .cvData16 T0 0 (2 ^ 32),
    .cvData32 B16 0 0,
    .cvData32 T0 8 0,
    .cvData32 T0 0 (2 ^ 32),
    .cvStatRead B16 0,
    .cvStatRead T0 8,
    .prbsLock 88,
    .prbsInjectDone 88,
    .opticBusError 12,
    .inputCurrentHigh 65536,
    .aztilMessageAck 2 0 false,
    .aztilMessageAck 0 65536 false] : List Instr).all (fun c => !c.wellFormed) = true := by decide +kernel

theorem test_zero_operands_well_formed_1 : ([.registerWrite T0 0 0 .read,
    .errCountRead T0 0,
    .intRawClear T0 0 0,
    .intForceWrite T0 0 0,
    .msixVectorUnmask 0 0,
    .pageOwnerWrite T0 0 0,
    .pageEnableWrite T0 0 0,
    .quiesceRequest T0 0 0,
    .quiesceReached 0,
    .quiesceRelease T0 0 0,
    .softRst T0 0 0,
    .blockResetDone 0,
    .tblNop T0 0 0,
    .tblRead T0 0 0 false,
    .tblWrite T0 0 0,
    .tblRmw T0 0 0 false,
    .tblClearRange T0 0 0,
    .tblCmdDone 0,
    .frameStart 0,
    .ocHiWrite T0 0 0,
    .todArm T0 0 0,
    .framerEnable T0 0 0,
    .framerDisable T0 0 0,
    .lineModeWrite T0 0 0,
    .dsXgemFrame 0,
    .todAnnouncement 0,
    .hostPloamSubmit 0,
    .cycleOpen 0,
    .bellowsStart 0 0 0,
    .speculativeMapComplete 0,
    .confirmationCut 0,
    .grantCheck 0 false,
    .reconciliationDeadline 0,
    .mapHandover 0,
    .mapDeadline 0 false,
    .txdisSample 0 false,
    .rxDisable T0 0 0,
    .burstLockStart 0 0,
    .searchWindowOpen 0 0 false,
    .delimiterMatch 0 0 0 0 0 0 false] : List Instr).all (fun c => c.wellFormed) = true := by decide +kernel

theorem test_zero_operands_well_formed_2 : ([.searchWindowClose 0 0 false,
    .burstPayloadEnd 0 0 0 0 0 0 0 0 0,
    .brstPulse 0 0,
    .fecCodewordDecode 0 0 0 false 0 [],
    .idleSpanListen 0 0 0 0 none,
    .discoveryWindowOpen 0,
    .snBurstAccept 0 0 0 0 0 0 0 [] 0,
    .discoveryWindowEnd 0 0 0,
    .discoveredTimeout 0 0,
    .rangingBurstAccept 0 0,
    .rangingTimeAck 0 0 [] 0,
    .rangingAckTimeout 0 0,
    .onuAuthorise T0 0 0,
    .onuRerange T0 0 0,
    .onuDeactivate T0 0 0,
    .onuDisable T0 0 0,
    .onuEnable T0 0 0,
    .onuRelease T0 0 0,
    .huntAbort T0 0 0,
    .huntRoundEnd 0,
    .traceEnable T0 0,
    .safeEnter T0 0,
    .safeExit T0 0,
    .groupForm T0 0 0,
    .groupDissolve T0 0,
    .groupLineMode T0 0 0,
    .memberDown T0 0,
    .memberRestore T0 0,
    .skewRemeasure T0 0,
    .memberRestoreTimeout 0 0,
    .dsFragmentDistribute 0,
    .usFragmentReceive 0,
    .fragmentWaitTimeout 0 0,
    .oamTemplateSend 0,
    .holdGapDetect 0 false false,
    .holdGapEnd 0,
    .protectionCellSend 0,
    .protectionCellReceive 0 0 [],
    .linkSilent 0,
    .timeCellSend 0] : List Instr).all (fun c => c.wellFormed) = true := by decide +kernel

theorem test_zero_operands_well_formed_3 : ([.timeCellReceive 0 0 [],
    .mirrorRecordApply 0 [],
    .mirrorDeadline 0,
    .acquisitionTimeout 0,
    .reqClear T0 0,
    .reqLockout T0 0,
    .reqForced T0 0,
    .reqManual T0 0,
    .reqExercise T0 0,
    .exerciseTimeout 0,
    .wtrExpiry 0,
    .startTimeout 0,
    .holdFault 0,
    .pxRoleWrite T0 0 0,
    .aztilMessageReceive 0 [],
    .dsFrameClassify 0 none none,
    .usFrameClassify 0 none none,
    .clProfileDrainDone,
    .bufferAdmit 0 false,
    .releaseRequest 0 0 false false,
    .freeRequest 0 0 false false,
    .slackTubReceive,
    .dequeueSelect 0 false,
    .launchTimeReached 0,
    .flush T0 0,
    .flushDone,
    .latencySample 0,
    .dsEncrypt 0 false false,
    .usDecrypt 0 false,
    .pauseScanDone 0,
    .jobCfbEncrypt 0 0 0 0 [] [] false,
    .jobCfbDecrypt 0 0 0 0 [] [] false,
    .jobCmacGenerate 0 0 0 0 [] [] false,
    .jobCmacVerify 0 0 0 0 [] [] false,
    .jobComplete 0 false,
    .jobqPiWrite T0 0 0,
    .functionLevelReset 0,
    .flrDone 0,
    .todSet T0 0,
    .todStep T0 0] : List Instr).all (fun c => c.wellFormed) = true := by decide +kernel

theorem test_zero_operands_well_formed_4 : ([.todRead T0,
    .sfcLoRead T0 0,
    .oneSecondTick,
    .hostOffsetSample T0 0,
    .ptpSyncReceive 0 0 0 0 0 0 0 false 0 0 0,
    .ptpFollowUpReceive 0 0 0 0 0 0 0 0 0 0,
    .servoTimeout,
    .xtalGate 0,
    .tsqPop T0 0,
    .pstateRequest T0 0 0,
    .pstateTransitionDone 0,
    .clkGoodRise 0,
    .adaptRestart T0 0 0,
    .adaptDone 0,
    .adaptFail 0 false,
    .prbsInject T0 0 0,
    .prbsClear T0 0 0,
    .prbsLost 0 0 0,
    .prbsErrLoRead T0 0 false 0 0,
    .ulFrameReceive 0 [] false 0 0 0,
    .ulFrameTransmit 0 false false,
    .linkUp 0,
    .linkDown 0 false false false false,
    .refclkDetect 0,
    .refclkLoss,
    .reflLock,
    .clockFailure 0 false,
    .xtalBFailure false,
    .xtalBReturn,
    .sysLock,
    .sourceSwitch T0 0 0,
    .sourceSwitchDone 0,
    .deadSource 0 false,
    .gateRequest T0 0,
    .gateComplete 0,
    .gateTimeout 0,
    .ungate T0 0,
    .clockFailClear T0 0 0 false,
    .feedStateChange 0 0 false,
    .feedUsable 0] : List Instr).all (fun c => c.wellFormed) = true := by decide +kernel

theorem test_zero_operands_well_formed_5 : ([.lastWordStart 0 0 0,
    .lastWordRecordDone,
    .holdupOk false,
    .lwArmed,
    .powerOnReset false,
    .rstNAssert,
    .rstNRelease,
    .pcieHotReset,
    .resetCold T0 0,
    .resetWarm T0 0,
    .resetDomain T0 0,
    .releaseEscalated T0 0,
    .domainResetDone 0,
    .releaseStep,
    .watchdogKick T0 0,
    .watchdogWarn,
    .watchdogExpiry,
    .calCommit T0 0,
    .calReload T0 0,
    .calDone false,
    .quenchNAssert,
    .qrelWrite T0 0,
    .lockstepMismatch 0,
    .cmpTest T0 0,
    .cmpTestDone false,
    .holdOutputMismatch 0,
    .thermalSample 0 0,
    .faultEvent 0 0 none 0,
    .faultWindowClose 0 0,
    .lastingExpiry 0 0,
    .coalIntervalEnd 0 0,
    .ftClear T0 0,
    .ftInject T0 0,
    .txRingDoorbell T0 0 0 0,
    .rxRingConsume T0 0 0 0 [],
    .txFlowFrame 0 0 0 [] 0 0 0 0 false 0 0,
    .txAggFrame 0 0 0 [] 0 0 0 0 false 0 0,
    .txPloam 0 0 0 0 0 (.other 0) [] false,
    .txOmci 0 0 0 [] false,
    .txAztilMessage 0 0 0 [] false] : List Instr).all (fun c => c.wellFormed) = true := by decide +kernel

theorem test_zero_operands_well_formed_6 : ([.hostAggDequeue 0 false false,
    .dmaError 0 0 0 false false,
    .ringCoalesceTimeout 0 0,
    .pcieLinkChange false 0 0,
    .hiErrCntRead T0,
    .hiOmciDropRead T0,
    .pmSnap T0 0 0,
    .pmCntLoRead T0 0 0 false,
    .cvAlgWrite T0 0 0,
    .cvStart T0 0 0,
    .cvData8 T0 0 0,
    .cvData16 T0 0 0,
    .cvData32 T0 0 0,
    .cvStatRead T0 0,
    .quenchNRelease,
    .prbsLock 0,
    .prbsInjectDone 0,
    .soscFailure,
    .opticBusError 0,
    .pcieUncorrectableError,
    .inputCurrentHigh 0,
    .aztilMessageAck 0 0 false] : List Instr).all (fun c => c.wellFormed) = true := by decide +kernel

end Sys2Proof.Tests
end

section
/-! The outcomes of a command (R3): each lemma reads off `exec_eq_run`, the one form that every meaning has. -/

namespace Sys2Proof.Machine

/-- A well-formed command answers a next state, whatever the state it meets. -/
theorem exec_next_of_wellFormed (c : Instr) (s : State) (h : c.wellFormed = true) : ∃ t, exec c s = .next t := by
  obtain ⟨f, hf⟩ := exec_eq_run c
  exact ⟨_, (hf s).trans (s.run_next c f h)⟩

/-- A command that names a unit or a value that does not exist is stopped by name. -/
theorem exec_fault_of_not_wellFormed (c : Instr) (s : State) (h : c.wellFormed = false) :
    exec c s = .fault .noSuchUnit := by
  obtain ⟨f, hf⟩ := exec_eq_run c
  exact (hf s).trans (s.run_fault c f h)

/-- No command is refused: well formed, it answers a next state, and otherwise the named fault. -/
theorem exec_ne_refused (c : Instr) (s : State) (r : Refusal) : exec c s ≠ .refused r := by
  cases h : c.wellFormed with
  | true =>
    obtain ⟨t, ht⟩ := exec_next_of_wellFormed c s h
    simp [ht]
  | false => simp [exec_fault_of_not_wellFormed c s h]

/-- Settles O6: every command runs in the one form `State.run`, which looks only at whether the command is well
formed. -/
theorem everyCommandAnswers : Obligations.EveryCommandAnswers := fun c s =>
  ⟨exec_next_of_wellFormed c s, exec_fault_of_not_wellFormed c s, exec_ne_refused c s⟩

end Sys2Proof.Machine
end

section
/-! The commands of the cycle and of the Hardy: each runs its meaning on the device, a host command once its write is
accepted. -/

namespace Sys2Proof.Machine

/-- A well-formed command whose meaning is known answers the state after that meaning. -/
theorem exec_next_after (c : Instr) (f : Dev → Dev) (s : State) (hx : exec c s = s.run c f)
    (hw : c.wellFormed = true) : exec c s = .next (s.after (f s.dev)) := hx.trans (s.run_next c f hw)

/-- A host command whose write is accepted answers the state after the write's own effect. -/
theorem exec_next_after_hostF (c : Instr) (s : State) {b : By} {p : Page} {fld : Fld} {v : Nat} {k : Dev → Dev}
    (hx : exec c s = s.run c (fun d => d.hostF b p fld v k)) (hw : c.wellFormed = true)
    (ha : s.dev.accepts b p fld v = true) : exec c s = .next (s.after (k s.dev)) := by
  rw [exec_next_after c _ s hx hw, Dev.hostF_accepts _ _ _ _ _ _ ha]

section Commands
variable (s : State) (n : Nat)

theorem exec_cycleOpen (hn : n < 48) : exec (.cycleOpen n) s = .next (s.after (s.dev.cycleOpen n)) :=
  exec_next_after (.cycleOpen n) _ s rfl (decide_eq_true hn)

theorem exec_bellowsStart {kind a : Nat} (hn : n < 48) (hk : kind < 7) (ha : a < 16384)
    (hc : s.dev.cycleOn n = true) :
    exec (.bellowsStart n kind a) s = .next (s.after ((s.dev.bellows n).hyRead n kind a)) := by
  have hw : (Instr.bellowsStart n kind a).wellFormed = true :=
    show (decide (n < 48) && decide (kind < 7) && decide (a < 16384)) = true by simp [hn, hk, ha]
  exact (exec_next_after (.bellowsStart n kind a)
    (fun d => if d.cycleOn n then (d.bellows n).hyRead n kind a else d) s rfl hw).trans
    (congrArg (fun d => Host.Outcome.next (s.after d)) (if_pos hc))

theorem exec_speculativeMapComplete (hn : n < 48) :
    exec (.speculativeMapComplete n) s = .next (s.after (s.dev.specComplete n)) :=
  exec_next_after (.speculativeMapComplete n) _ s rfl (decide_eq_true hn)

theorem exec_confirmationCut (hn : n < 48) : exec (.confirmationCut n) s = .next (s.after (s.dev.confirm n)) :=
  exec_next_after (.confirmationCut n) _ s rfl (decide_eq_true hn)

theorem exec_mapHandover (hn : n < 48) : exec (.mapHandover n) s = .next (s.after (s.dev.handover n)) :=
  exec_next_after (.mapHandover n) _ s rfl (decide_eq_true hn)

theorem exec_mapDeadline (bad : Bool) (hn : n < 48) :
    exec (.mapDeadline n bad) s = .next (s.after (s.dev.deadline n bad)) :=
  exec_next_after (.mapDeadline n bad) _ s rfl (decide_eq_true hn)

theorem exec_grantCheck (bad : Bool) (hn : n < 48) :
    exec (.grantCheck n bad) s = .next (s.after (s.dev.grantArrive n bad)) :=
  exec_next_after (.grantCheck n bad) _ s rfl (decide_eq_true hn)

theorem exec_reconciliationDeadline (hn : n < 48) :
    exec (.reconciliationDeadline n) s = .next (s.after (s.dev.reconDeadline n)) :=
  exec_next_after (.reconciliationDeadline n) _ s rfl (decide_eq_true hn)

theorem exec_traceEnable {b : By} {v : Nat} (hw : (Instr.traceEnable b v).wellFormed = true)
    (ha : s.dev.accepts b .bw0 BW_RUNAHEAD.TRACE_EN v = true) :
    exec (.traceEnable b v) s = .next (s.after (s.dev.wRunahead v)) :=
  exec_next_after_hostF (.traceEnable b v) s rfl hw ha

theorem exec_safeEnter {b : By} {v : Nat} (hw : (Instr.safeEnter b v).wellFormed = true)
    (ha : s.dev.accepts b .hy0 HY_SAFE_CMD.OP (HY_SAFE_CMD.OP.set v 1) = true) :
    exec (.safeEnter b v) s = .next (s.after (s.dev.wSafeCmd (HY_SAFE_CMD.OP.set v 1))) :=
  exec_next_after_hostF (.safeEnter b v) s rfl hw ha

theorem exec_safeExit {b : By} {v : Nat} (hw : (Instr.safeExit b v).wellFormed = true)
    (ha : s.dev.accepts b .hy0 HY_SAFE_CMD.OP (HY_SAFE_CMD.OP.set v 2) = true) :
    exec (.safeExit b v) s = .next (s.after (s.dev.wSafeCmd (HY_SAFE_CMD.OP.set v 2))) :=
  exec_next_after_hostF (.safeExit b v) s rfl hw ha

end Commands

end Sys2Proof.Machine
end

section
/-! The cycle of the bandwidth engine, from its opening to the map deadline. -/

namespace Sys2Proof.Machine

section Cycle
variable (d : Dev) (n : Nat)

/-- While the framer sends, the opening keeps the windows and maps of the frames before (Table ARC–5). -/
theorem Dev.cycleOpen_of_sending (hc : d.cycleOn n = true) (hs : d.sending (d.lead n) = true) :
    d.cycleOpen n = d.setBw n { (d.bw n).unstash with
      openAt := d.now, running := false, cut := false,
      reported := (d.bw n).unstash.reported ++ (d.bw n).unstash.late, late := [] } := by
  simp [Dev.cycleOpen, hc, hs]

/-- A speculative map that is complete in time pre-arms the receiver of every member port (R147). -/
theorem Dev.specComplete_of_inTime (hc : d.cycleOn n = true) (hr : (d.bw n).running = true)
    (ha : (d.bw n).runahead = true) (hk : (d.bw n).cut = false) (hd : (d.bw n).specDone = false)
    (ht : d.now ≤ (d.bw n).openAt + 86500) :
    d.specComplete n =
      (d.mates n).foldl (fun (x : Dev) m => x.preArm m n) (d.setBw n { d.bw n with specDone := true }) := by
  simp [Dev.specComplete, hc, hr, ha, hk, hd, ht]

/-- The handover of a tree of one port that is not protected (R16, R114, R166): the folds over the member ports are one
choice and one port's handover. -/
theorem Dev.handover_of_alone (hg : n = d.groupPort n) (hf : d.rd (.te (d.lead n) 0) TE_TX_STAT.FSTATE ≠ 0)
    (ho : d.groupOf n = none) (hm : d.mates n = [n]) (hp : d.isProtected n = false) :
    d.handover n =
      let c := (d.hyDiscards n).hyChoose n n
      let d1 := c.2.handPort n n c.1
      let d2 := if d.cycleOn n then d1.cycleEnd n c.1.toList else d1
      let d3 := if d.sending (d.lead n) then d2.commit n (d.nextSfc (d.lead n)) else d2
      (d3.mirrorSend n (d.nextSfc n) (c.1.getD ⟨[], false⟩)).noMaps n c.1.isSome := by
  simp only [Dev.handover, ← hg, hf, ho, hm, hp, List.foldl_cons, List.foldl_nil, List.nil_append, ne_eq,
    not_true_eq_false, if_false, Bool.false_eq_true]
  cases ((d.hyDiscards n).hyChoose n n).1 with
  | none => rfl
  | some map => rfl

end Cycle

/-- Settles O51: each clause names what decides the guards of its command's meaning, and the rest is that meaning. -/
theorem cycleComplete : Obligations.CycleComplete := by
  rintro s _ n rfl hn
  refine ⟨fun hc hs => ?opening, fun kind a hk ha hc => exec_bellowsStart s n hn hk ha hc,
    fun hc hr ha hk hd ht => ?preArm, fun hc hr hk => ?cut, fun hg hf ho hm hp => ?handover,
    fun hf hl => ⟨fun map hh => ?handed, fun bad hh hi => ?missing⟩⟩
  case opening => rw [exec_cycleOpen s n hn, Dev.cycleOpen_of_sending _ n hc hs]
  case preArm => rw [exec_speculativeMapComplete s n hn, Dev.specComplete_of_inTime _ n hc hr ha hk hd ht]
  case cut =>
    have uncut : ¬ (!s.dev.cycleOn n || !(s.dev.bw n).running || (s.dev.bw n).cut) = true := by simp [hc, hr, hk]
    exact (exec_confirmationCut s n hn).trans (congrArg (fun d => Host.Outcome.next (s.after d)) (if_neg uncut))
  case handover => rw [exec_mapHandover s n hn, Dev.handover_of_alone _ n hg hf ho hm hp]
  case handed =>
    rw [exec_mapDeadline s n false hn]
    simp [Dev.deadline, hf, hl, hh]
  case missing =>
    rw [exec_mapDeadline s n bad hn]
    simp [Dev.deadline, hf, hl, hh, hi]

end Sys2Proof.Machine
end

section
/-! The Hardy: the grants of a stream as they arrive, the late stream, the trace and safe-map mode. -/

namespace Sys2Proof.Machine

/-- Setting a field leaves the bits below it. -/
theorem Fld.set_mod_lo (f : Fld) (v x : Nat) : f.set v x % 2 ^ f.lo = v % 2 ^ f.lo := by
  have h : 2 ^ f.lo * (f.get v % 2 ^ f.width) ≤ v := calc
    2 ^ f.lo * (f.get v % 2 ^ f.width) ≤ 2 ^ f.lo * (v / 2 ^ f.lo) :=
      Nat.mul_le_mul_left _ ((Nat.mod_le _ _).trans (Nat.mod_le _ _))
    _ ≤ v := Nat.mul_div_le v _
  rw [Fld.set, Fld.put, Fld.put, Nat.add_mul_mod_self_right, Nat.mul_comm, Nat.sub_mul_mod h]

/-- A field below the one that was set keeps its value. -/
theorem Fld.get_set_of_below {f g : Fld} (h : g.lo + g.width ≤ f.lo) (v x : Nat) : g.get (f.set v x) = g.get v := by
  have low (w : Nat) : g.get w = w % 2 ^ f.lo / 2 ^ g.lo % 2 ^ g.width := by
    obtain ⟨k, hk⟩ := Nat.exists_eq_add_of_le h
    rw [Fld.get, hk, Nat.pow_add, Nat.pow_add, Nat.mul_assoc, Nat.mod_mul_right_div_self, Nat.mod_mul_right_mod]
  rw [low, Fld.set_mod_lo, ← low]

section Hardy
variable (d : Dev) (m : Nat)

/-- In safe-map mode a grant of the engine's map is taken unchecked (R168). -/
theorem Dev.grantArrive_of_safe {g : Grant} {t : List Grant} (bad : Bool) (hl : d.live .hy0 = true)
    (hs : (d.hy m).stream = g :: t) (hf : (d.hy m).safe = true) :
    d.grantArrive m bad = d.setHy m { d.hy m with
      stream := t, arrived := (d.hy m).arrived + 1, lastStart := g.start, done := t.isEmpty } := by
  simp [Dev.grantArrive, hl, hs, hf]

/-- A grant among the first 512 and in start-time order meets the check of its parity or its own checks; the last one
closes the map (R160, R162). -/
theorem Dev.grantArrive_of_inOrder {g : Grant} {t : List Grant} (bad : Bool) (hl : d.live .hy0 = true)
    (hs : (d.hy m).stream = g :: t) (hf : (d.hy m).safe = false) (ha : (d.hy m).arrived < 512)
    (ho : (d.hy m).lastStart ≤ g.start) :
    d.grantArrive m bad =
      let d1 := d.setHy m { d.hy m with
        stream := t, arrived := (d.hy m).arrived + 1, lastStart := g.start, done := t.isEmpty }
      let d2 := if bad then d1.hyBad m 19 else d1.hyGrant m g
      if t.isEmpty then d2.hyWhole m else d2 := by
  simp [Dev.grantArrive, hl, hs, hf, ha.ne, Nat.not_lt.mpr ho]

/-- A stream that is not complete at T − 3.0 µs is late (R20). -/
theorem Dev.reconDeadline_of_late (hc : d.cycleOn (d.groupPort m) = true)
    (hr : (d.bw (d.groupPort m)).running = true) (hn : (d.hy m).snapped = true) (hd : (d.hy m).done = false)
    (hf : (d.hy m).safe = false) :
    d.reconDeadline m =
      (((((d.hyBad m 18).cnt (.bwTreeCnt m) 7).logErr .bw0 0x182).raise .bw0 1).raise (.bwt m) 2).report 32 m := by
  simp [Dev.reconDeadline, hc, hr, hn, hd, hf]

/-- A write of TRACE_EN = 1 starts the trace anew (R152). -/
theorem Dev.wRunahead_of_trace {v : Nat} (ht : BW_RUNAHEAD.TRACE_TREE.get v ≤ 47)
    (he : BW_RUNAHEAD.TRACE_EN.get v = 1) :
    d.wRunahead v =
      let d1 := d.wrs .bw0
        [(BW_RUNAHEAD.TRACE_TREE, BW_RUNAHEAD.TRACE_TREE.get v), (BW_RUNAHEAD.TRACE_WRAP, BW_RUNAHEAD.TRACE_WRAP.get v),
         (BW_RUNAHEAD.TRACE_EN, 1), (BW_RUNAHEAD.EN, BW_RUNAHEAD.EN.get v)]
      let d2 := (List.range 48).foldl (fun (x : Dev) m => x.setBw m { x.bw m with tracing := false }) d1
      { d2.wrs .bw0 [(BW_STAT.TRACE_COUNT, 0), (BW_STAT.TRACE_FULL, 0)] with
        eng := { d2.eng with traceAt := 0 } } := by
  rw [Dev.wRunahead, if_neg (Nat.not_lt.mpr ht), he, if_neg Nat.one_ne_zero]

variable {v : Nat}

/-- Setting OP of HY_SAFE_CMD leaves the tree that the word names. -/
@[simp] theorem HY_SAFE_CMD.tree_get_op_set (x : Nat) :
    HY_SAFE_CMD.TREE.get (HY_SAFE_CMD.OP.set v x) = HY_SAFE_CMD.TREE.get v :=
  Fld.get_set_of_below (by decide) v x

/-- OP = 1 asks for safe-map mode, which begins at the next handover (R167). -/
theorem Dev.wSafeCmd_enter (hm : HY_SAFE_CMD.TREE.get v ≤ 47) (hf : (d.hy (HY_SAFE_CMD.TREE.get v)).safe = false) :
    d.wSafeCmd (HY_SAFE_CMD.OP.set v 1) =
      let m := HY_SAFE_CMD.TREE.get v
      (d.wrs .hy0 [(HY_SAFE_CMD.OP, 1), (HY_SAFE_CMD.TREE, m)]).setHy m { d.hy m with safeReq := true } := by
  simp [Dev.wSafeCmd, Fld.get_set HY_SAFE_CMD.OP, Nat.not_lt.mpr hm, hf]

/-- OP = 2 ends safe-map mode at once, with its log record (R169); a stream that has not begun stays as it is. -/
theorem Dev.wSafeCmd_exit (hm : HY_SAFE_CMD.TREE.get v ≤ 47) (hf : (d.hy (HY_SAFE_CMD.TREE.get v)).safe = true)
    (hz : (d.hy (HY_SAFE_CMD.TREE.get v)).arrived = 0) :
    d.wSafeCmd (HY_SAFE_CMD.OP.set v 2) =
      let m := HY_SAFE_CMD.TREE.get v
      ((d.wrs .hy0 [(HY_SAFE_CMD.OP, 2), (HY_SAFE_CMD.TREE, m)]).setHy m
        { d.hy m with safe := false, safeReq := false }).viol m (Viol.plain 25) := by
  simp [Dev.wSafeCmd, Fld.get_set HY_SAFE_CMD.OP, Nat.not_lt.mpr hm, hf, hz]

end Hardy

/-- Settles O52: a grant's way by whether it is the last and its parity holds, then one rule for each other command. -/
theorem grantCheckerComplete : Obligations.GrantCheckerComplete := by
  rintro s _ rfl
  refine ⟨fun m g t hm hl hs => ⟨fun hf bad => ?unchecked, fun hf ha ho => ?checked⟩,
    fun m hm hc hr hn hd hf => ?late, fun b v hw ha ht he => ?trace,
    fun b v hw hm => ⟨fun ha hf => ?enter, fun ha hf hz => ?leave⟩⟩
  case unchecked => rw [exec_grantCheck s m bad hm, Dev.grantArrive_of_safe _ m bad hl hs hf]
  case checked =>
    have arrives (bad : Bool) := (exec_grantCheck s m bad hm).trans
      (congrArg (fun d => Host.Outcome.next (s.after d)) (Dev.grantArrive_of_inOrder _ m bad hl hs hf ha ho))
    refine ⟨fun more => ?_, fun last => ?_, fun more => ?_⟩
    · simp [arrives, more]
    · simp [arrives, last]
    · simp [arrives, more]
  case late => rw [exec_reconciliationDeadline s m hm, Dev.reconDeadline_of_late _ m hc hr hn hd hf]
  case trace => rw [exec_traceEnable s hw ha, Dev.wRunahead_of_trace _ ht he]
  case enter => rw [exec_safeEnter s hw ha, Dev.wSafeCmd_enter _ hm hf]
  case leave => rw [exec_safeExit s hw ha, Dev.wSafeCmd_exit _ hm hf hz]

end Sys2Proof.Machine
end

section
/-! The step and the queue of waiting commands. -/

namespace Sys2Proof.Machine

/-- A command answers a next state exactly when it is well formed, and then acts on the device alone. -/
theorem exec_next_iff (c : Instr) :
    ∃ f : Dev → Dev, ∀ s t, exec c s = .next t ↔ c.wellFormed = true ∧ t = { s with dev := f s.dev } := by
  obtain ⟨f, hf⟩ := exec_eq_run c
  refine ⟨fun d => (f d).settle, fun s t => ?_⟩
  rw [hf s]
  cases hw : c.wellFormed with
  | true => simp [State.run_next c f s hw, eq_comm]
  | false => simp [State.run_fault c f s hw]

/-- The front command is the step. -/
theorem step_of_pending {s : State} {c : Instr} {l : List Instr} (h : s.pending = c :: l) :
    step s = exec c { s with pending := l } := by
  simp [step, h]

/-- A step takes the front command out of the queue, or leaves it empty. -/
theorem step_pending {s t : State} (h : step s = .next t) : t.pending = s.pending.tail := by
  cases hq : s.pending with
  | nil =>
    rw [step_nil s hq] at h
    exact (congrArg State.pending (Host.Outcome.next.inj h)).symm.trans hq
  | cons c l =>
    obtain ⟨f, hf⟩ := exec_next_iff c
    rw [step_of_pending hq] at h
    obtain ⟨-, rfl⟩ := (hf _ t).mp h
    rfl

/-- Settles O5: an effect on the device neither reads nor writes the queue. -/
theorem commandsIgnoreQueue : Obligations.CommandsIgnoreQueue := by
  refine ⟨fun c s t l h => ?_, fun s t => step_pending⟩
  obtain ⟨f, hf⟩ := exec_next_iff c
  obtain ⟨hw, rfl⟩ := (hf s t).mp h
  exact ⟨rfl, (hf _ _).mpr ⟨hw, rfl⟩⟩

/-- Settles O1: the step is defined by the front of the queue. -/
theorem frontCommandRuns : Obligations.FrontCommandRuns := fun _ _ _ h => step_of_pending h

end Sys2Proof.Machine
end

section
/-! Where a page's fields stand: no two fields of a page share a place, and the key of a field names its page and its
place (R26). -/

namespace Sys2Proof.Machine

/-- The place of a field in its page: byte offset and lowest bit. -/
def Fld.slot (f : Fld) : Nat := f.off * 32 + f.lo

/-- A key of the register store: the page above the place. -/
theorem Page.key_eq (p : Page) (f : Fld) : p.key f = p.num * 131072 + f.slot := by
  simp only [Page.key, Fld.slot]; omega

/-- The numbers of a list are new to the set `m` of numbers met so far, one bit each, and to each other: a test of
`List.Nodup` in one pass. -/
def freshFor : List Nat → Nat → Bool
  | [], _ => true
  | k :: l, m => !m.testBit k && freshFor l (m ||| 1 <<< k)

/-- The test tells that no number repeats. -/
theorem nodup_of_freshFor {l : List Nat} {m : Nat} (h : freshFor l m = true) :
    l.Nodup ∧ ∀ k ∈ l, m.testBit k = false := by
  induction l generalizing m with
  | nil => simp
  | cons k l ih =>
    simp only [freshFor, Bool.and_eq_true, Bool.not_eq_true'] at h
    obtain ⟨hl, hm⟩ := ih h.2
    simp only [Nat.testBit_or, Bool.or_eq_false_iff] at hm
    have hk : k ∉ l := fun hk => by simpa [Nat.testBit_shiftLeft] using (hm k hk).2
    refine ⟨List.nodup_cons.mpr ⟨hk, hl⟩, fun j hj => ?_⟩
    rcases List.mem_cons.mp hj with rfl | hj
    · exact h.1
    · exact (hm j hj).1

/-- The places of a list of fields are distinct, and within a page. -/
def placed (l : List Fld) : Bool :=
  freshFor (l.map Fld.slot) 0 && l.all (fun f => decide (f.off < 4096) && decide (f.lo < 32))

/-- The block-specific fields of each kind of page. -/
def blockFieldLists : List (List Fld) :=
  [[], glFields, ckFields, rsFields, pwFields, ftFields, tm0Fields, tm1Fields, hi0Fields, hirFields, cvFields, te0Fields,
    te1Fields, te2Fields, bw0Fields, bwtFields, hy0Fields, bdFields, px0Fields, pxlFields, cl0Fields, bp0Fields, sc0Fields,
    cx0Fields, cxtFields, lnFields, ul0Fields, ulpFields, pmgFields, tnFields, hdrPageFields]

theorem Page.blockFields_mem (p : Page) : p.blockFields ∈ blockFieldLists := by
  unfold Page.blockFields
  split <;> try split_ifs
  all_goals simp only [blockFieldLists, List.mem_cons, true_or, or_true]

theorem blockFieldLists_placed : ∀ l ∈ blockFieldLists, placed (hdrFields ++ l) = true := by decide +kernel

/-- The fields of a page stand at distinct places within it. -/
theorem Page.fields_placed (p : Page) : placed p.fields = true := blockFieldLists_placed _ p.blockFields_mem

section Keys
variable {p q : Page} {f g : Fld}

/-- A field of a page stands within it. -/
theorem Page.field_bounds (hf : f ∈ p.fields) : f.off < 4096 ∧ f.lo < 32 := by
  have h := p.fields_placed
  simp only [placed, Bool.and_eq_true, List.all_eq_true, decide_eq_true_eq] at h
  exact h.2 f hf

/-- A field of a page is known by its place. -/
theorem Page.field_ext (hf : f ∈ p.fields) (hg : g ∈ p.fields) (h : f.slot = g.slot) : f = g := by
  have hp := p.fields_placed
  simp only [placed, Bool.and_eq_true] at hp
  exact List.inj_on_of_nodup_map (nodup_of_freshFor hp.1).1 hf hg h

/-- On one page, fields at different places have different keys. -/
theorem Page.key_ne (p : Page) (h : f.slot ≠ g.slot) : p.key f ≠ p.key g := by
  rw [Page.key_eq, Page.key_eq]; omega

/-- The key of a field names its page, by number. -/
theorem Page.key_div (hf : f ∈ p.fields) : p.key f / 131072 = p.num := by
  have := Page.field_bounds hf
  rw [Page.key_eq, Fld.slot]; omega

/-- The key of a field names its offset. -/
theorem Page.key_off (hf : f ∈ p.fields) : p.key f / 32 % 4096 = f.off := by
  have := Page.field_bounds hf
  rw [Page.key_eq, Fld.slot]; omega

/-- The key of a field names its lowest bit. -/
theorem Page.key_lo (hf : f ∈ p.fields) : p.key f % 32 = f.lo := by
  have := Page.field_bounds hf
  rw [Page.key_eq, Fld.slot]; omega

/-- Fields of pages with different numbers have different keys. -/
theorem Page.key_ne_of_num (hf : f ∈ p.fields) (hg : g ∈ q.fields) (h : p.num ≠ q.num) :
    p.key f ≠ q.key g := fun he => h (by rw [← Page.key_div hf, he, Page.key_div hg])

end Keys

/-- Every page that an entry of the address map gives has the number `k`. -/
def Page.numbered (k : Nat) (o : Option Page) : Prop := ∀ p, o = some p → p.num = k

/-- The address map is read entry by entry. -/
theorem Page.numbered_ite {k : Nat} {c : Prop} [Decidable c] {o o' : Option Page} (h : c → Page.numbered k o)
    (h' : ¬ c → Page.numbered k o') : Page.numbered k (if c then o else o') := by
  split
  · exact h ‹_›
  · exact h' ‹_›

/-- The page at a page number has that number. -/
theorem Page.num_of_ofNum {k : Nat} {p : Page} (h : Page.ofNum k = some p) : p.num = k := by
  suffices Page.numbered k (Page.ofNum k) from this p h
  unfold Page.ofNum
  refine Page.numbered_ite (fun hk => ?first) (fun _ => ?others)
  case first =>
    rintro p ⟨⟩
    interval_cases k <;> rfl
  case others =>
    repeat' refine Page.numbered_ite (fun hk => ?_) (fun _ => ?_)
    all_goals rintro p ⟨⟩ <;> simp only [Page.num] <;> omega
/-! ## Reads after writes on one page -/

section Reads
variable (d : Dev) (p : Page)

/-- A field read after the write of another of its page. -/
theorem Dev.rd_wr_place {f g : Fld} (v : Nat) (h : g.slot ≠ f.slot) : (d.wr p f v).rd p g = d.rd p g :=
  d.rd_wr_other p p f g v (p.key_ne h)

/-- A field read after the write of others of its page. -/
theorem Dev.rd_wrs_place {l : List (Fld × Nat)} {g : Fld} (h : ∀ e ∈ l, g.slot ≠ e.1.slot) :
    (d.wrs p l).rd p g = d.rd p g := by
  induction l generalizing d with
  | nil => rfl
  | cons e l ih =>
    have hl : ∀ e ∈ l, g.slot ≠ e.1.slot := fun e he => h e (List.mem_cons_of_mem _ he)
    exact (ih (d.wr p e.1 e.2) hl).trans (d.rd_wr_place p e.2 (h e List.mem_cons_self))

end Reads

end Sys2Proof.Machine
end

section
/-! The plain write of a register word (R46). -/

namespace Sys2Proof.Machine

section Plain
variable (p : Page) (v : Nat)

/-- The host writes the field as it stands in the word: RW, RWS and RWT fields (Table SCP–4). -/
def Acc.plain (a : Acc) : Prop := a = .rw ∨ a = .rws ∨ a = .rwt

/-- A field of plain access takes its bits of the word. -/
theorem Dev.wrFld_of_plain (d : Dev) {f : Fld} (h : f.acc.plain) : d.wrFld p f v = d.wr p f (f.get v) := by
  rcases h with h | h | h <;> simp only [Dev.wrFld, h]

/-- The write of a field is a write of its key, or none. -/
theorem Dev.wrFld_cases (d : Dev) (f : Fld) : (∃ x, d.wrFld p f v = d.wr p f x) ∨ d.wrFld p f v = d := by
  unfold Dev.wrFld
  cases f.acc with
  | rw | rws | rwt | w1c | w1s => exact .inl ⟨_, rfl⟩
  | wo | ro | rc => exact .inr rfl

/-- What no write of the listed fields changes, their writes in turn do not change. -/
theorem Dev.wrFlds_keeps {α : Type} (P : Dev → α) (l : List Fld) (h : ∀ e, ∀ f ∈ l, ∀ x, P (e.wr p f x) = P e)
    (d : Dev) : P (l.foldl (fun d f => d.wrFld p f v) d) = P d := by
  induction l generalizing d with
  | nil => rfl
  | cons f l ih =>
    refine (ih (fun e f hf => h e f (List.mem_cons_of_mem _ hf)) _).trans ?_
    rcases d.wrFld_cases p v f with ⟨x, hx⟩ | hx
    · exact (congrArg P hx).trans (h d f List.mem_cons_self x)
    · exact congrArg P hx

/-- A field of plain access among the listed ones reads its bits of the word after their writes. -/
theorem Dev.rd_wrFlds_of_plain {g : Fld} (hg : g.acc.plain) {l : List Fld} (hl : ∀ f ∈ l, f ∈ p.fields) (hm : g ∈ l)
    (d : Dev) : (l.foldl (fun d f => d.wrFld p f v) d).rd p g = g.get v := by
  induction l generalizing d with
  | nil => cases hm
  | cons f l ih =>
    have hl' : ∀ f ∈ l, f ∈ p.fields := fun f hf => hl f (List.mem_cons_of_mem _ hf)
    by_cases hgl : g ∈ l
    · exact ih hl' hgl _
    · obtain rfl : g = f := (List.mem_cons.mp hm).resolve_right hgl
      have other : ∀ f ∈ l, g.slot ≠ f.slot := fun f hf he =>
        hgl (Page.field_ext (hl g List.mem_cons_self) (hl' f hf) he ▸ hf)
      calc (l.foldl (fun d f => d.wrFld p f v) (d.wrFld p g v)).rd p g
          = (d.wrFld p g v).rd p g :=
            Dev.wrFlds_keeps p v (Dev.rd · p g) l (fun e f hf x => e.rd_wr_place p x (other f hf)) _
        _ = g.get v := by rw [d.wrFld_of_plain p v hg, Dev.rd_wr_same, Fld.get, Nat.mod_mod]

variable (d : Dev) (b : By) (off : Nat)

/-- A field of a register is a field of its page. -/
theorem Page.mem_at {p : Page} {off : Nat} {f : Fld} : f ∈ p.at off ↔ f ∈ p.fields ∧ f.off = off := by
  simp [Page.at]

/-- What no write of a field that the writer may write changes, the plain write does not change. -/
theorem Dev.wrPlain_keeps {α : Type} (P : Dev → α)
    (h : ∀ e, ∀ f ∈ p.at off, d.mayWrite b.func p f = true → ∀ x, P (e.wr p f x) = P e) :
    P (d.wrPlain b p off v) = P d :=
  Dev.wrFlds_keeps p v P _ (fun e _ hf => h e _ (List.mem_filter.mp hf).1 (List.mem_filter.mp hf).2) d

/-- A field that the writer may write, of plain access, takes its bits of the word. -/
theorem Dev.rd_wrPlain_of_mayWrite {g : Fld} (hg : g ∈ p.at off) (hp : g.acc.plain)
    (hw : d.mayWrite b.func p g = true) : (d.wrPlain b p off v).rd p g = g.get v :=
  Dev.rd_wrFlds_of_plain p v hp (fun _ hf => (Page.mem_at.mp (List.mem_filter.mp hf).1).1)
    (List.mem_filter.mpr ⟨hg, hw⟩) d

/-- A field that the writer may not write keeps its value. -/
theorem Dev.rd_wrPlain_of_not_mayWrite {g : Fld} (hg : g ∈ p.at off) (hw : d.mayWrite b.func p g = false) :
    (d.wrPlain b p off v).rd p g = d.rd p g := by
  refine d.wrPlain_keeps p v b off (Dev.rd · p g) fun e f hf hm x => e.rd_wr_place p x fun hs => ?_
  rw [Page.field_ext (Page.mem_at.mp hg).1 (Page.mem_at.mp hf).1 hs, hm] at hw
  cases hw

end Plain

/-- An RW or RWS field is written by T0 and by no other. -/
theorem Dev.mayWrite_of_rw (d : Dev) (f : Nat) (p : Page) {g : Fld} (h : g.acc = .rw ∨ g.acc = .rws) :
    d.mayWrite f p g = (f == 0) := by
  rcases h with h | h <;> simp only [Dev.mayWrite, h]

/-- An RWT field is written by its page's owner and by no other. -/
theorem Dev.mayWrite_of_rwt (d : Dev) (f : Nat) (p : Page) {g : Fld} (h : g.acc = .rwt) :
    d.mayWrite f p g = (f == d.owner p) := by
  simp only [Dev.mayWrite, h]

/-- Settles O9: the writable fields of one register have keys of their own, so each is written once and the rest kept. -/
theorem registerWriteFields : Obligations.RegisterWriteFields := by
  intro d b p off v
  refine ⟨fun g hg ha hf => ?t0, fun g hg ha hf => ?owner, fun g hg hm => ?unwritten, fun g hg ha hf => ?notT0,
    fun g hg ha hf => ?notOwner, fun q g hk => ?elsewhere, fun t i g => ?tables, ?out, ?ft⟩
  case t0 =>
    have hm : d.mayWrite b.func p g = true := (d.mayWrite_of_rw b.func p ha).trans (beq_iff_eq.mpr hf)
    exact d.rd_wrPlain_of_mayWrite p v b off hg (ha.imp_right .inl) hm
  case owner =>
    have hm : d.mayWrite b.func p g = true := (d.mayWrite_of_rwt b.func p ha).trans (beq_iff_eq.mpr hf)
    exact d.rd_wrPlain_of_mayWrite p v b off hg (.inr (.inr ha)) hm
  case unwritten => exact d.rd_wrPlain_of_not_mayWrite p v b off hg hm
  case notT0 =>
    have hm : d.mayWrite b.func p g = false := (d.mayWrite_of_rw b.func p ha).trans (beq_eq_false_iff_ne.mpr hf)
    exact d.rd_wrPlain_of_not_mayWrite p v b off hg hm
  case notOwner =>
    have hm : d.mayWrite b.func p g = false := (d.mayWrite_of_rwt b.func p ha).trans (beq_eq_false_iff_ne.mpr hf)
    exact d.rd_wrPlain_of_not_mayWrite p v b off hg hm
  case elsewhere =>
    exact d.wrPlain_keeps p v b off (Dev.rd · q g) fun e f hf _ x => e.rd_wr_other p q f g x (hk f hf)
  case tables => exact d.wrPlain_keeps p v b off (Dev.rdT · t i g) fun e f _ _ x => e.rdT_wr p f x t i g
  case out => exact d.wrPlain_keeps p v b off Dev.out fun e f _ _ x => e.wr_out p f x
  case ft => exact d.wrPlain_keeps p v b off Dev.ft fun e f _ _ x => e.wr_ft p f x

end Sys2Proof.Machine
end

section
/-! Several register fields written together, and what the reset of a page keeps (R35). -/

namespace Sys2Proof.Machine

section Wrs
variable (d : Dev) (p : Page) (l : List (Fld × Nat))

/-- What no write of a listed field changes, their writes together do not change. -/
theorem Dev.wrs_keeps {α : Type} (P : Dev → α) (h : ∀ e : Dev, ∀ c ∈ l, ∀ x, P (e.wr p c.1 x) = P e) :
    P (d.wrs p l) = P d := by
  induction l generalizing d with
  | nil => rfl
  | cons c l ih =>
    exact (ih (d.wr p c.1 c.2) fun e c hc => h e c (List.mem_cons_of_mem _ hc)).trans (h d c List.mem_cons_self c.2)

@[simp] theorem Dev.wrs_tbls : (d.wrs p l).tbls = d.tbls := d.wrs_keeps p l Dev.tbls fun _ _ _ _ => rfl
@[simp] theorem Dev.wrs_fab : (d.wrs p l).fab = d.fab := d.wrs_keeps p l Dev.fab fun _ _ _ _ => rfl

/-- A field read after the writes of fields of other keys. -/
theorem Dev.rd_wrs_other {q : Page} {g : Fld} (h : ∀ c ∈ l, q.key g ≠ p.key c.1) : (d.wrs p l).rd q g = d.rd q g :=
  d.wrs_keeps p l (Dev.rd · q g) fun e c hc x => e.rd_wr_other p q c.1 g x (h c hc)

/-- A field written once among others reads what was written. -/
theorem Dev.rd_wrs_of_mem {c : Fld × Nat} (hl : (l.map (fun e => e.1.slot)).Nodup) (hc : c ∈ l) :
    (d.wrs p l).rd p c.1 = c.2 % 2 ^ c.1.width := by
  induction l generalizing d with
  | nil => cases hc
  | cons e l ih =>
    obtain ⟨he, hl⟩ := List.nodup_cons.mp hl
    rcases List.mem_cons.mp hc with rfl | hc
    · have after : ∀ e ∈ l, c.1.slot ≠ e.1.slot := fun e hm hs =>
        he (List.mem_map.mpr ⟨e, hm, hs.symm⟩)
      exact ((d.wr p c.1 c.2).rd_wrs_place p after).trans (d.rd_wr_same p c.1 c.2)
    · exact ih (d.wr p e.1 e.2) hl hc

end Wrs

section Keys
variable {p : Page} {f : Fld}

/-- The key of a field names its page, where the address map has the page (R28). -/
theorem keyPage_key (hp : Page.ofNum p.num = some p) (hf : f ∈ p.fields) : keyPage (p.key f) = some p := by
  rw [keyPage, Page.key_div hf, hp]

/-- A field's place names it among the fields of its page. -/
theorem Page.slot_eq_iff {g : Fld} (hf : f ∈ p.fields) (hg : g ∈ p.fields) : g.off = f.off ∧ g.lo = f.lo ↔ g = f :=
  ⟨fun ⟨ho, hl⟩ => Page.field_ext hg hf (by rw [Fld.slot, Fld.slot, ho, hl]), fun h => by simp [h]⟩

/-- The sticky keys of a page are those of its RWS fields. -/
theorem keySticky_key (hp : Page.ofNum p.num = some p) (hf : f ∈ p.fields) :
    keySticky (p.key f) = true ↔ f.acc = .rws := by
  simp only [keySticky, keyPage_key hp hf, keyOff, Page.key_off hf, Page.key_lo hf, List.any_eq_true, Bool.and_eq_true,
    beq_iff_eq]
  refine ⟨fun ⟨g, hg, hs, ha⟩ => ?_, fun ha => ⟨f, hf, ⟨rfl, rfl⟩, ha⟩⟩
  rwa [(Page.slot_eq_iff hf hg).mp hs] at ha

/-- An unlisted field reads its reset value. -/
theorem regDefault_key (hp : Page.ofNum p.num = some p) (hf : f ∈ p.fields) : regDefault (p.key f) = p.rst f := by
  have found : p.fields.find? (fun g => g.off == f.off && g.lo == f.lo) = some f := by
    cases hg : p.fields.find? (fun g => g.off == f.off && g.lo == f.lo) with
    | none => exact absurd (List.find?_eq_none.mp hg f hf) (by simp)
    | some g =>
      have hs := List.find?_some hg
      simp only [Bool.and_eq_true, beq_iff_eq] at hs
      rw [(Page.slot_eq_iff hf (List.mem_of_find?_eq_some hg)).mp hs]
  simp only [regDefault, Page.key_div hf, hp, Page.key_off hf, Page.key_lo hf, found]

/-- The backup registers lie on RS. -/
theorem keyBackup_key (hp : Page.ofNum p.num = some p) (hf : f ∈ p.fields) (h : p ≠ .rs) :
    keyBackup (p.key f) = false := by
  simp [keyBackup, keyPage_key hp hf, h]

/-- The fields that show the supply, a pin or the retained rail lie on RS and PW. -/
theorem keyPhysical_key (hp : Page.ofNum p.num = some p) (hf : f ∈ p.fields) (hr : p ≠ .rs) (hw : p ≠ .pw) :
    keyPhysical (p.key f) = false := by
  simp [keyPhysical, keyPage_key hp hf, hr, hw]

/-- RS and PW have no block-scope reset. -/
theorem Page.ne_of_softrst (h : p.cap.softrst = true) : p ≠ .rs ∧ p ≠ .pw := by
  constructor <;> rintro rfl <;> cases h

end Keys

section Reset
variable (d : Dev) {p : Page} {f : Fld}

/-- A field after the reset of a page: kept, or as unlisted. -/
theorem Dev.rd_resetPage (q : Page) (g : Fld) : (d.resetPage p).rd q g =
    if keyPage (q.key g) != some p || keySticky (q.key g) || keyBackup (q.key g) || keyPhysical (q.key g) then d.rd q g
    else regDefault (q.key g) := by
  simp only [Dev.rd, Dev.resetPage, Store.get_keep]

/-- The reset of a page keeps its RWS fields. -/
theorem Dev.rd_resetPage_of_rws (hp : Page.ofNum p.num = some p) (hf : f ∈ p.fields) (ha : f.acc = .rws) :
    (d.resetPage p).rd p f = d.rd p f := by
  rw [Dev.rd_resetPage, (keySticky_key hp hf).mpr ha, Bool.or_true, Bool.true_or, Bool.true_or, if_pos rfl]

/-- The reset of a page takes its other fields to their reset values. -/
theorem Dev.rd_resetPage_of_not_rws (hp : Page.ofNum p.num = some p) (hr : p.cap.softrst = true) (hf : f ∈ p.fields)
    (ha : f.acc ≠ .rws) : (d.resetPage p).rd p f = p.rst f := by
  have hs : keySticky (p.key f) = false := by simpa using mt (keySticky_key hp hf).mp ha
  obtain ⟨hrs, hpw⟩ := Page.ne_of_softrst hr
  simp [Dev.rd_resetPage, keyPage_key hp hf, hs, keyBackup_key hp hf hrs, keyPhysical_key hp hf hrs hpw,
    regDefault_key hp hf]

/-- The reset of a page leaves the fields of another. -/
theorem Dev.rd_resetPage_of_ne {q : Page} (hq : Page.ofNum q.num = some q) (hf : f ∈ q.fields) (h : q ≠ p) :
    (d.resetPage p).rd q f = d.rd q f := by
  simp [Dev.rd_resetPage, keyPage_key hq hf, h]

/-- The reset of a page other than RS leaves the calibration values in force. -/
theorem Dev.calWord_resetPage (h : p ≠ .rs) (w : Nat) : (d.resetPage p).calWord w = d.calWord w := by
  have kept : (d.resetPage p).on .rs RS_STAT.CAL_DEFAULT = d.on .rs RS_STAT.CAL_DEFAULT :=
    congrArg (· != 0) (d.rd_resetPage_of_ne (q := .rs) rfl (by decide) h.symm)
  rw [Dev.calWord, kept]; rfl

end Reset

section Calibration
variable (d : Dev) (p : Page)

/-- A write cuts the value to the field's width. -/
theorem Dev.wr_mod (f : Fld) (v : Nat) : d.wr p f (v % 2 ^ f.width) = d.wr p f v := by
  simp only [Dev.wr, Nat.mod_mod]

/-- The values of the calibration store are written field by field. -/
theorem Dev.calPage_eq_wrs : d.calPage p = d.wrs p (calFields d p) := by
  unfold calFields
  split
  · exact (d.wr_mod _ TE_RX_LISTEN.ENERGY_THR _).symm
  · rfl
  · next hte hln =>
    cases p with
    | te n i => exact if_neg fun hi => hte n (by rw [hi])
    | ln l => exact absurd rfl (hln l)
    | _ => rfl

/-- The fields with calibration values: RW fields of the page at distinct places, each value within its width. -/
theorem calFields_facts : ((calFields d p).map (fun c => c.1.slot)).Nodup ∧
    ∀ c ∈ calFields d p, c.1 ∈ p.fields ∧ c.1.acc = .rw ∧ c.2 % 2 ^ c.1.width = c.2 := by
  unfold calFields
  split
  · next n =>
    have hm : TE_RX_LISTEN.ENERGY_THR ∈ (Page.te n 1).fields :=
      List.mem_append_right hdrFields (show _ ∈ te1Fields by decide)
    simpa using hm
  · next l =>
    have hm : ∀ f ∈ [LN_TXEQ.SWING, LN_TXEQ.POST, LN_TXEQ.PRE], f ∈ (Page.ln l).fields :=
      show ∀ f ∈ _, f ∈ hdrFields ++ lnFields by decide
    refine ⟨show [LN_TXEQ.SWING.slot, LN_TXEQ.POST.slot, LN_TXEQ.PRE.slot].Nodup by decide, ?_⟩
    simp only [List.forall_mem_cons, Fld.get, Nat.mod_mod] at hm ⊢
    simpa using hm
  · simp

/-- The reset of a page leaves its calibration values in force. -/
theorem calFields_resetPage (h : p ≠ .rs) : calFields (d.resetPage p) p = calFields d p := by
  unfold calFields
  split <;> simp only [d.calWord_resetPage h]

end Calibration

/-- Settles O15: the reset keeps or clears each key of the page by its access, and the calibration values come after. -/
theorem blockResetKeepsRws : Obligations.BlockResetKeepsRws := by
  intro d p hp hr e
  have he : e = (d.resetPage p).wrs p (calFields d p) := by
    rw [← calFields_resetPage d p (Page.ne_of_softrst hr).1, ← Dev.calPage_eq_wrs]
  obtain ⟨hnd, hcal⟩ := calFields_facts d p
  have uncalibrated {f : Fld} (hf : f ∈ p.fields) (h : ∀ c ∈ calFields d p, c.1 ≠ f) :
      e.rd p f = (d.resetPage p).rd p f := by
    rw [he]
    exact Dev.rd_wrs_place _ p fun c hc hs => h c hc (Page.field_ext (hcal c hc).1 hf hs.symm)
  refine ⟨fun f hf ha => ?rws, fun f hf ha hc => ?reset, fun c hc => ?cal, fun q f hq hne hf => ?others, ?tables,
    ?command⟩
  case rws =>
    have hc : ∀ c ∈ calFields d p, c.1 ≠ f := fun c hc h => by
      have hrw := (hcal c hc).2.1
      rw [h, ha] at hrw
      cases hrw
    rw [uncalibrated hf hc, d.rd_resetPage_of_rws hp hf ha]
  case reset => rw [uncalibrated hf hc, d.rd_resetPage_of_not_rws hp hr hf ha]
  case cal =>
    rw [he, Dev.rd_wrs_of_mem _ p _ hnd hc, (hcal c hc).2.2]
  case others =>
    have hn : q.num ≠ p.num := fun h => hne (Option.some.inj (hq.symm.trans ((congrArg Page.ofNum h).trans hp)))
    rw [he, Dev.rd_wrs_other _ p _ fun c hc => Page.key_ne_of_num hf (hcal c hc).1 hn, d.rd_resetPage_of_ne hq hf hne]
  case tables => rw [he, Dev.wrs_tbls]; rfl
  case command =>
    rw [he, Dev.wrs_fab]
    exact Store.get_del_same none _ _

end Sys2Proof.Machine
end

section
/-! Interrupts, the error log and HI_ERR: what each leaves as it was (R36, R37, R437). -/

namespace Sys2Proof.Machine

section Errors
variable (d : Dev) (p : Page)

/-- A message leaves the register fabric. -/
@[simp] theorem Dev.msixSend_fab (f v : Nat) (keep : Bool) : (d.msixSend f v keep).fab = d.fab := by
  unfold Dev.msixSend; dsimp only; split
  · rfl
  · split <;> rfl

/-- An event leaves the register fabric. -/
@[simp] theorem Dev.raise_fab (b : Nat) : (d.raise p b).fab = d.fab := by
  unfold Dev.raise Dev.pendEdge; split
  · exact Dev.msixSend_fab _ _ _ _
  · rfl

/-- A register field after an event: only INT_RAW was written. -/
theorem Dev.rd_raise (b : Nat) (q : Page) (f : Fld) :
    (d.raise p b).rd q f = (d.wr p INT_RAW.RAW (setBit (d.rd p INT_RAW.RAW) b)).rd q f := by
  rw [Dev.rd, Dev.raise_regs, ← Dev.rd]

/-- The fields that an error of a page writes. -/
def errFields : List Fld := [ERR_COUNT.COUNT, ERR_FIRST.CODE, ERR_FIRST.TIME, INT_RAW.RAW]

/-- An error of a page leaves the tables. -/
@[simp] theorem Dev.logErr_tbls (code : Nat) : (d.logErr p code).tbls = d.tbls := by
  rw [Dev.logErr, Dev.raise_tbls]
  split <;> rfl

/-- An error of a page leaves the register fabric. -/
@[simp] theorem Dev.logErr_fab (code : Nat) : (d.logErr p code).fab = d.fab := by
  rw [Dev.logErr, Dev.raise_fab]
  split <;> rfl

/-- ERR_COUNT, ERR_FIRST and INT_RAW are all that an error of a page writes. -/
theorem Dev.rd_logErr_place (code : Nat) {g : Fld} (h : ∀ f ∈ errFields, g.slot ≠ f.slot) :
    (d.logErr p code).rd p g = d.rd p g := by
  simp only [errFields, List.forall_mem_cons] at h
  obtain ⟨hcount, hcode, htime, hraw, -⟩ := h
  rw [Dev.logErr, Dev.rd_raise, Dev.rd_wr_place _ _ _ hraw]
  split
  · rw [Dev.rd_wr_place _ _ _ htime, Dev.rd_wr_place _ _ _ hcode, Dev.sat, Dev.rd_wr_place _ _ _ hcount]
  · rw [Dev.sat, Dev.rd_wr_place _ _ _ hcount]

/-- ERR_COUNT saturates (Table REG–9). -/
theorem Dev.rd_logErr_count (code : Nat) :
    (d.logErr p code).rd p ERR_COUNT.COUNT = min (d.rd p ERR_COUNT.COUNT + 1) 0xffffffff := by
  have counted : (d.sat p ERR_COUNT.COUNT).rd p ERR_COUNT.COUNT = min (d.rd p ERR_COUNT.COUNT + 1) 0xffffffff := by
    rw [Dev.sat, Dev.rd_wr_same]
    exact Nat.mod_eq_of_lt (Nat.lt_of_le_of_lt (Nat.min_le_right _ _) (by decide))
  rw [Dev.logErr, Dev.rd_raise, Dev.rd_wr_place _ _ _ (by decide)]
  split
  · rw [Dev.rd_wr_place _ _ _ (by decide), Dev.rd_wr_place _ _ _ (by decide), counted]
  · exact counted

/-- The record of a refused write leaves the tables: only codes 3, 4 and 9 count elsewhere too. -/
theorem Dev.hiErr_tbls {code : Nat} (h : code ∉ [3, 4, 9]) (func : Nat) (isRead : Bool) (ofs : Nat) :
    (d.hiErr code func isRead ofs).tbls = d.tbls := by
  simp only [List.mem_cons, List.not_mem_nil, or_false, not_or] at h
  obtain ⟨h3, h4, h9⟩ := h
  simp [Dev.hiErr, h3, h4, h9, Dev.raise_tbls, Dev.sat]

end Errors

end Sys2Proof.Machine
end

section
/-! The indirect window: errors change no entry, an index never wraps, a busy window discards (R42–R44). -/

namespace Sys2Proof.Machine

section Errors
variable (d : Dev)

/-- A command's outcome that shows an error comes with the tables as they were. -/
def keepsOnError (r : TblCmd × Dev) : Prop := r.1.code ≠ 0 → r.2.tbls = d.tbls

theorem keepsOnError_unchanged (c : TblCmd) : keepsOnError d (c, d) := fun _ => rfl

theorem keepsOnError_of_ok {c : TblCmd} (h : c.code = 0) (e : Dev) : keepsOnError d (c, e) := fun hc => absurd h hc

theorem keepsOnError_tblBad (t : Tbl) (i : Nat) : keepsOnError d (d.tblBad t i) := fun _ => rfl

/-- A WRITE or RMW is refused before it changes the entry. -/
theorem keepsOnError_tblPut (func : Nat) (t : Tbl) (i e : Nat) : keepsOnError d (d.tblPut func t i e) := by
  unfold Dev.tblPut
  split
  · split
    · exact keepsOnError_unchanged d _
    · exact keepsOnError_of_ok d rfl _
  · intro _
    dsimp only
    split
    · exact d.hiErr_tbls (by decide) _ _ _
    · rfl

/-- A window command with an error changes no entry. -/
theorem keepsOnError_tblRun (func : Nat) (p : Page) (op arg : Nat) (bad : Bool) :
    keepsOnError d (d.tblRun func p op arg bad) := by
  have unchanged := keepsOnError_unchanged d
  unfold Dev.tblRun
  dsimp only
  split
  · exact unchanged _
  split
  · exact unchanged _
  split
  · exact unchanged _
  split
  · exact unchanged _
  split
  · split
    · split
      · exact keepsOnError_tblBad d _ _
      · exact unchanged _
    · exact unchanged _
  split
  · split
    · exact keepsOnError_tblBad d _ _
    · exact unchanged _
  split
  · exact keepsOnError_tblPut d _ _ _ _
  split
  · split
    · exact keepsOnError_tblBad d _ _
    · exact keepsOnError_tblPut d _ _ _ _
  split
  · exact unchanged _
  split
  · exact unchanged _
  · exact keepsOnError_of_ok d rfl _

end Errors

/-- Settles O18: each way through a command either shows no error or leaves the device's tables. -/
theorem tableErrorChangesNothing : Obligations.TableErrorChangesNothing := fun d func p op arg bad =>
  keepsOnError_tblRun d func p op arg bad

/-- An index beyond the selected table's size ends a command that uses it, before anything is done (R43, R44). -/
theorem Dev.tblRun_of_outOfRange (d : Dev) (func : Nat) {p : Page} {op arg : Nat} (bad : Bool) {t : Tbl} {sh : Bool}
    (hlo : 1 ≤ op) (hhi : op ≤ 4) (ht : d.tblPick p = some (t, sh))
    (hi : d.tblSize t ≤ d.rd p TBL_INDEX.INDEX ∨ (op = 4 ∧ d.tblSize t ≤ d.rd p TBL_INDEX.INDEX + arg)) :
    d.tblRun func p op arg bad = (TblCmd.fail 1, d) := by
  have h4 : ¬ 4 < op := Nat.not_lt.mpr hhi
  have h0 : op ≠ 0 := Nat.one_le_iff_ne_zero.mp hlo
  simp only [Dev.tblRun, if_neg h4, if_neg h0, ht, if_pos hi]

/-- Settles O19: the check of the index comes before every other use of the table. -/
theorem tableIndexNeverWraps : Obligations.TableIndexNeverWraps := by
  intro d func p op arg bad t sh hlo hhi ht hi
  rw [d.tblRun_of_outOfRange func bad hlo hhi ht hi]
  exact ⟨rfl, rfl⟩

/-- A write of TBL_CMD on a page that has a window (R466). -/
theorem Dev.tblOp_of_window (d : Dev) (func : Nat) {p : Page} (v : Nat) (bad : Bool) (hp : ∀ t, p ≠ .hdr t) :
    d.tblOp func p v bad = if d.on p TBL_STAT.BUSY then d.overrun p else
      let op := TBL_CMD.OP.get v
      let arg := TBL_CMD.ARG.get v
      let r := (d.tblStart p op arg).tblRun func p op arg bad
      r.2.tblKeep p r.1 := by
  unfold Dev.tblOp
  split
  · next t => exact absurd rfl (hp t)
  · rfl

/-- Settles O20: OVERRUN and the error log are written, and every other field, the fabric and the tables kept. -/
theorem busyWindowDiscards : Obligations.BusyWindowDiscards := by
  intro d func p v bad hp hb e
  have he : e = (d.wr p TBL_STAT.OVERRUN 1).logErr p 4 := by
    rw [show e = _ from d.tblOp_of_window func v bad hp, if_pos (by simpa [Dev.on] using hb), Dev.overrun]
  have kept {g : Fld} (h : ∀ f ∈ TBL_STAT.OVERRUN :: errFields, g.slot ≠ f.slot) : e.rd p g = d.rd p g := by
    obtain ⟨ho, hl⟩ := List.forall_mem_cons.mp h
    rw [he, Dev.rd_logErr_place _ p 4 hl, d.rd_wr_place p 1 ho]
  have data : ∀ k < 16, ∀ f ∈ TBL_STAT.OVERRUN :: errFields, (TBL_DATA.D k).slot ≠ f.slot := by decide
  refine ⟨?overrun, ?count, kept (by decide), ?fab, ?tables, fun k hk => kept (data k hk), kept (by decide)⟩
  case overrun =>
    rw [he, Dev.rd_logErr_place _ p 4 (by decide), Dev.rd_wr_same]
    rfl
  case count => rw [he, Dev.rd_logErr_count, d.rd_wr_place p 1 (by decide)]
  case fab => rw [he, Dev.logErr_fab, Dev.wr_fab]
  case tables => rw [he, Dev.logErr_tbls, Dev.wr_tbls]

end Sys2Proof.Machine
end

section
/-! Host accesses that reach their register: the way to the page, then the register's meaning. -/

namespace Sys2Proof.Machine

/-- The way of an access keeps the function that makes it. -/
@[simp] theorem viaOf_func (b : By) (pg : Nat) : (viaOf b pg).func = b.func := by
  unfold viaOf; split <;> rfl

/-- An accepted write meets no refusal, may write its field and changes none that its writer may not write. -/
theorem Dev.accepts_iff (d : Dev) (b : By) (p : Page) (f : Fld) (v : Nat) :
    d.accepts b p f v = true ↔ d.names b p = true ∧ d.deny b p true = 0 ∧ d.mayWrite b.func p f = true ∧
      (p.at f.off).any (fun g => d.forbidden b.func p g v) = false := by
  simp [Dev.accepts, and_assoc]

/-- A well-formed command answers the state after what its meaning makes of the device. -/
theorem exec_next_of_eq (c : Instr) (f : Dev → Dev) (s : State) (hx : exec c s = s.run c f) (hw : c.wellFormed = true)
    {e : Dev} (he : f s.dev = e) : exec c s = .next (s.after e) :=
  he ▸ exec_next_after c f s hx hw

section Ways
variable (d : Dev) (b : By) (pg : Nat) {p : Page}

/-- An accepted write of a header register has its meaning on the page that the access names. -/
theorem Dev.hostHdr_accepts {f : Fld} {v : Nat} (k : Page → Dev → Dev) (hp : d.pageOf (viaOf b pg) pg = some p)
    (hh : ∀ t, p ≠ .hdr t) (ha : d.accepts (viaOf b pg) p f v = true) : d.hostHdr b pg f v k = k p d := by
  unfold Dev.hostHdr
  rw [hp]
  split
  · next h => cases h
  · next t h => exact absurd (Option.some.inj h) (hh t)
  · next q _ h => rw [← Option.some.inj h, Dev.hostF_accepts _ _ _ _ _ _ ha]

/-- A read that reaches its page returns the addressed bytes of its value, with its effect. -/
theorem Dev.readAt_readable (off : Nat) (k : Page → Dev → Nat × Dev) (hp : d.pageOf (viaOf b pg) pg = some p)
    (hr : d.readable (viaOf b pg) p = true) :
    d.readAt b pg off k = (k p d).2.emit (.rdata (viaOf b pg).func (bytesOf (viaOf b pg) (k p d).1)) := by
  rw [Dev.readAt, hp]
  exact d.hostR_readable _ p off (k p) hr

/-- A guarded write depends on what the write makes of the device at hand. -/
theorem Page.guarded_congr (p : Page) {f g : Dev → Dev} {d : Dev} (h : f d = g d) : p.guarded f d = p.guarded g d := by
  simp only [Page.guarded, Dev.watchAll, Dev.watch, h]

end Ways

/-- A command of a host access is well formed when it names a way, a page and a word. -/
theorem hostWord_wellFormed {b : By} {pg v : Nat} (hb : b.ok = true) (hp : pg < 16384) (hv : v < 2 ^ 32) :
    (b.ok && decide (pg < 16384) && decide (v < 4294967296)) = true := by
  simp [hb, hp, show v < 4294967296 from hv]

/-- The word of a well-formed host access fits its 32 bits. -/
theorem word_lt_of_wellFormed {b : By} {pg v : Nat}
    (h : (b.ok && decide (pg < 16384) && decide (v < 4294967296)) = true) : v % 2 ^ 32 = v := by
  simp only [Bool.and_eq_true, decide_eq_true_eq] at h
  exact Nat.mod_eq_of_lt h.2

end Sys2Proof.Machine
end

section
/-! The interrupt registers, the vectors and the plain registers (R36, R37, R46, R51, R431). -/

namespace Sys2Proof.Machine

/-- Settles O10: each access reaches its register, whose meaning the clause writes out. -/
theorem interruptRegistersComplete : Obligations.InterruptRegistersComplete := by
  intro s b pg p v w hh hp
  refine ⟨fun hw ha => ?clear, fun hw ha => ?force, fun hw hr => ?count⟩
  case clear =>
    rw [exec_next_after (.intRawClear b pg v) _ s rfl hw, Dev.hostHdr_accepts _ b pg _ hp hh ha, Dev.wIntRaw,
      word_lt_of_wellFormed hw]
    rfl
  case force =>
    rw [exec_next_after (.intForceWrite b pg v) _ s rfl hw, Dev.hostHdr_accepts _ b pg _ hp hh ha, Dev.wIntForce,
      word_lt_of_wellFormed hw]
    rfl
  case count =>
    rw [exec_next_after (.errCountRead b pg) _ s rfl hw, Dev.errCountRead, Dev.readAt_readable _ b pg _ _ hp hr]
    rfl

/-- The vector's mask bit and pending bit after a write of its mask. -/
theorem Dev.setMask_msix (d : Dev) (f v : Nat) (masked keep : Bool) (k : Nat) :
    (d.setMask f v masked keep).hif.msix.get Msix.init k =
      if k = vecKey f v then
        { masked := masked, pending := keep && (d.hif.msix.get Msix.init (vecKey f v)).pending }
      else d.hif.msix.get Msix.init k := by
  split
  · next h => rw [h]; exact Store.get_put_same _ _ _ _
  · next h => exact Store.get_put_other _ _ _ _ _ _ h

/-- The pending bit as a proposition: a ring's completion, or a page of the function whose interrupt the vector serves. -/
theorem Dev.msixPending_iff (d : Dev) (f v : Nat) : d.msixPending f v = true ↔
    (d.hif.msix.get Msix.init (vecKey f v)).pending = true ∨ ∃ p ∈ d.pendPages f, d.rd p PAGE_OWNER.VECTOR = v := by
  simp [Dev.msixPending]

/-- Settles O11: the mask goes and with it what was pending; the message is the only output. -/
theorem vectorUnmaskCompletes : Obligations.VectorUnmaskCompletes := by
  intro s f vec hf hv hpr
  have hw : (Instr.msixVectorUnmask f vec).wellFormed = true :=
    show (decide (f < 16) && decide (vec < 64)) = true by simp [hf, hv]
  refine ⟨_, exec_next_after (.msixVectorUnmask f vec) _ s rfl hw, ?_⟩
  rw [Dev.unmask, if_pos hpr]
  simp only [Bool.and_eq_true, Dev.msixPending_iff]
  split <;> refine ⟨?_, fun k hk => ?_, rfl, rfl, rfl⟩
  all_goals simp [Dev.setMask_msix, *]

/-- A write of a block register by a writer who may write all that the word changes has the register's behaviour. -/
theorem Dev.wWord_of_block (d : Dev) (b : By) {p : Page} {off : Nat} (v : Nat) (hh : ∀ t, p ≠ .hdr t)
    (ho : 0x100 ≤ off) (hn : (p.at off).any (fun g => d.forbidden b.func p g v) = false)
    (hw : (p.at off).any (fun g => d.mayWrite b.func p g) = true) : d.wWord b p off v = d.wBlock b p off v := by
  have hlog : d.logForbidden b p off v = d := by simp [Dev.logForbidden, hn]
  have howner : off ≠ PAGE_OWNER.OWNER.off := by
    rintro rfl
    exact absurd ho (by decide)
  unfold Dev.wWord
  split
  · next t => exact absurd rfl (hh t)
  · rw [if_neg howner]
    simp only [hlog, if_neg (Nat.not_lt.mpr ho), hw, if_true]

/-- A page without behaviours of its own is written plainly, and bears on no key. -/
theorem plainPage_facts {p : Page} (h : plainPage p) : (∀ t, p ≠ .hdr t) ∧ p.nearKeyA = false ∧
    ∀ (d : Dev) b off v, d.wBlock b p off v = d.wrPlain b p off v := by
  rcases h with rfl | rfl | rfl | ⟨n, rfl⟩ <;>
    exact ⟨fun _ => Page.noConfusion, rfl, fun _ _ _ _ => rfl⟩

/-- Settles O8: the page has no behaviour of its own at the offset, so the word is written plainly; the other accesses are
their meanings. -/
theorem registerWriteTaken : Obligations.RegisterWriteTaken := by
  intro s b pg p off w
  have ran (op : HostOp) (hb : b.ok = true) (hpg : pg < 16384) (hoff : off < 4096) (hop : op.ok = true) :
      exec (.registerWrite b pg off op) s = .next (s.after (s.dev.hostAccess b pg off op)) :=
    exec_next_after (.registerWrite b pg off op) _ s rfl
      (show (b.ok && decide (pg < 16384) && decide (off < 4096) && op.ok) = true by simp [hb, hpg, hoff, hop])
  refine ⟨fun v f hw h4 ho hpl hp hf ha => ?write, fun hb hpg hoff h4 hp hr => ?read,
    fun k hk hb hpg hoff h0 => ⟨s.dev.vfEnable k, ?enable, rfl, rfl, rfl, rfl⟩,
    fun vec hv hb hpg hoff hpr => ⟨s.dev.setMask b.func vec true true, ?mask, ?_, fun k hk => ?_, rfl, rfl, rfl⟩⟩
  case write =>
    obtain ⟨hat, hoff⟩ := Page.mem_at.mp hf
    obtain ⟨hn, hd, hm, hnf⟩ := (s.dev.accepts_iff w p f v).mp ha
    obtain ⟨hh, hk, hb⟩ := plainPage_facts hpl
    rw [hoff] at hnf
    have reached : s.dev.regWrite b pg off v = s.dev.hostW w p off (p.guarded (Dev.wWord w p off v)) := by
      rw [Dev.regWrite, Nat.div_mul_cancel (Nat.dvd_of_mod_eq_zero h4), hp]
    rw [exec_next_after (.registerWrite b pg off (.write v)) _ s rfl hw, Dev.hostAccess, reached,
      Dev.hostW_reaches _ _ _ _ _ hn hd, Page.guarded_off _ _ _ hk,
      Dev.wWord_of_block _ _ v hh ho hnf (List.any_eq_true.mpr ⟨f, hf, hm⟩), hb]
  case read =>
    rw [ran .read hb hpg hoff rfl, Dev.hostAccess, Dev.regRead, Nat.div_mul_cancel (Nat.dvd_of_mod_eq_zero h4),
      Dev.readAt_readable _ b pg _ _ hp hr]
  case enable =>
    rw [ran (.vfEnable k) hb hpg hoff (show decide (k < 16) = true by simp [hk]), Dev.hostAccess, if_pos h0]
  case mask =>
    rw [ran (.msixMask vec) hb hpg hoff (show decide (vec < 64) = true by simp [hv]), Dev.hostAccess, if_pos hpr]
  all_goals simp [Dev.setMask_msix, *]

end Sys2Proof.Machine
end

section
/-! PAGE_OWNER and PAGE_CTRL: ownership, enable, quiesce and block reset (R32–R35, R45, R47, R346). -/

namespace Sys2Proof.Machine

/-- Settles O12: the write reaches the page, and its guards decide between the three outcomes. -/
theorem pageOwnerWriteCompletes : Obligations.PageOwnerWriteCompletes := by
  intro s b pg p v x hw hp hn hd w
  have reached : exec (.pageOwnerWrite b pg v) s = .next (s.after (s.dev.wOwner x p v)) := by
    refine exec_next_of_eq (.pageOwnerWrite b pg v) _ s rfl hw ?_
    rw [Dev.hostOwner, hp]
    exact Dev.hostW_reaches _ x p _ _ hn hd
  have hx : x.func = b.func := viaOf_func b pg
  have allowed (hf : b.func = 0) (hb : s.dev.ownerBad p w.owner w.mask = false) :
      ¬ (x.func ≠ 0 ∨ s.dev.ownerBad p w.owner w.mask = true) := by simp [hx, hf, hb]
  refine ⟨fun hf hb hi => ?taken, fun hf hb hi => ⟨_, reached, ?waiting⟩, fun h => ?refused⟩
  case taken =>
    have idle : ¬ s.dev.on p TBL_STAT.BUSY = true := by simp [Dev.on, hi]
    rw [reached, Dev.wOwner, if_neg (allowed hf hb), if_neg idle]
  case waiting =>
    have busy : s.dev.on p TBL_STAT.BUSY = true := by simpa [Dev.on] using hi
    rw [Dev.wOwner, if_neg (allowed hf hb), if_pos busy]
    exact ⟨Store.get_put_same none s.dev.fab.ownerPend p.num (some w), rfl, rfl⟩
  case refused =>
    rw [reached, Dev.wOwner, if_pos (by rwa [hx]), hx]

/-- Above its lowest bit a word with a field set holds the new value below what stood above the field. -/
theorem Fld.set_div_lo (f : Fld) (v x : Nat) :
    f.set v x / 2 ^ f.lo = x % 2 ^ f.width + 2 ^ f.width * (v / 2 ^ f.lo / 2 ^ f.width) := by
  have hL : 0 < 2 ^ f.lo := Nat.two_pow_pos _
  have hput : f.put (f.get v) = 2 ^ f.lo * f.get v := by rw [Fld.put, Fld.get, Nat.mod_mod, Nat.mul_comm]
  have hv : v = f.put (f.get v) + (2 ^ f.lo * (2 ^ f.width * (v / 2 ^ f.lo / 2 ^ f.width)) + v % 2 ^ f.lo) := by
    rw [hput, Fld.get, ← Nat.add_assoc, ← Nat.mul_add, Nat.mod_add_div, Nat.div_add_mod]
  have hset : f.set v x =
      v % 2 ^ f.lo + 2 ^ f.lo * (x % 2 ^ f.width + 2 ^ f.width * (v / 2 ^ f.lo / 2 ^ f.width)) := by
    rw [Fld.set, Nat.sub_eq_of_eq_add' hv, Fld.put]
    ring
  rw [hset, Nat.add_mul_div_left _ _ hL, Nat.div_eq_of_lt (Nat.mod_lt _ hL), Nat.zero_add]

/-- A field above the one that was set keeps its value. -/
theorem Fld.get_set_of_above {f g : Fld} (h : f.lo + f.width ≤ g.lo) (v x : Nat) : g.get (f.set v x) = g.get v := by
  have hW : 0 < 2 ^ f.width := Nat.two_pow_pos _
  have high (w : Nat) : g.get w = w / 2 ^ f.lo / 2 ^ f.width / 2 ^ (g.lo - (f.lo + f.width)) % 2 ^ g.width := by
    rw [Fld.get, Nat.div_div_eq_div_mul, Nat.div_div_eq_div_mul, ← Nat.pow_add, ← Nat.pow_add, ← Nat.add_assoc,
      Nat.add_sub_cancel' h]
  rw [high, Fld.set_div_lo, Nat.add_mul_div_left _ _ hW, Nat.div_eq_of_lt (Nat.mod_lt _ hW), Nat.zero_add, ← high]

section PageControl
variable (d : Dev) (p : Page) (v : Nat)

/-- What a write of PAGE_CTRL makes of QUIESCE_REQ and EN, where the page has them. -/
def Dev.quiesceEnable (quiesce en : Nat) (d : Dev) : Dev :=
  let e1 := if p.cap.quiesce then d.setQuiesce p quiesce else d
  if p.enFixed then e1 else e1.setEnable p en

/-- On a port page that is a valid port, and on every other page, a write of PAGE_CTRL is taken (R346). -/
theorem Dev.wPageCtrl_of_validPort (hu : ∀ u, p = .ulp u → d.validPort u = true) :
    d.wPageCtrl p v =
      let e := Dev.quiesceEnable p (PAGE_CTRL.QUIESCE_REQ.get v) (PAGE_CTRL.EN.get v) d
      if PAGE_CTRL.SOFT_RST.get v = 1 ∧ p.cap.softrst then e.blockReset p else e := by
  cases p with
  | ulp u => simp [Dev.wPageCtrl, hu u rfl, Dev.quiesceEnable]
  | _ => rfl

end PageControl

/-- Settles O13: each write of PAGE_CTRL reaches the page, with the field that its command fixes. -/
theorem pageControlCompletes : Obligations.PageControlCompletes := by
  intro s b pg p v w hb hpg hv hh hp hu
  have hw := hostWord_wellFormed hb hpg hv
  have reached {v' : Nat} {g : Dev → Dev} (ha : s.dev.accepts w p PAGE_CTRL.EN v' = true)
      (hg : (let e := Dev.quiesceEnable p (PAGE_CTRL.QUIESCE_REQ.get v') (PAGE_CTRL.EN.get v') s.dev
        if PAGE_CTRL.SOFT_RST.get v' = 1 ∧ p.cap.softrst then e.blockReset p else e) = g s.dev) :
      s.dev.hostCtrl b pg v' = p.guarded g s.dev :=
    (Dev.hostHdr_accepts _ b pg _ hp hh ha).trans (p.guarded_congr ((s.dev.wPageCtrl_of_validPort p v' hu).trans hg))
  have hen (q : Nat) : PAGE_CTRL.EN.get (PAGE_CTRL.QUIESCE_REQ.set v q) = PAGE_CTRL.EN.get v :=
    Fld.get_set_of_below (by decide) v q
  have hrst (q : Nat) : PAGE_CTRL.SOFT_RST.get (PAGE_CTRL.QUIESCE_REQ.set v q) = PAGE_CTRL.SOFT_RST.get v :=
    Fld.get_set_of_above (by decide) v q
  refine ⟨fun h0 ha => ?enable, fun h0 hq ha => ?request, fun h0 hq ha => ?release, fun hr ha => ?reset⟩
  case enable => exact exec_next_of_eq (.pageEnableWrite b pg v) _ s rfl hw (reached ha (by simp [Dev.quiesceEnable, h0]))
  case request =>
    refine exec_next_of_eq (.quiesceRequest b pg v) _ s rfl hw (reached ha ?_)
    simp [Dev.quiesceEnable, Fld.get_set PAGE_CTRL.QUIESCE_REQ, hen, hrst, h0, hq]
  case release =>
    refine exec_next_of_eq (.quiesceRelease b pg v) _ s rfl hw (reached ha ?_)
    simp [Dev.quiesceEnable, Fld.get_set PAGE_CTRL.QUIESCE_REQ, hen, hrst, h0, hq]
  case reset =>
    refine exec_next_of_eq (.softRst b pg v) _ s rfl hw (reached ha ?_)
    have below {f : Fld} (h : f.lo + f.width ≤ PAGE_CTRL.SOFT_RST.lo) : f.get (PAGE_CTRL.SOFT_RST.set v 1) = f.get v :=
      Fld.get_set_of_below h v 1
    simp [Dev.quiesceEnable, Fld.get_set PAGE_CTRL.SOFT_RST, below (f := PAGE_CTRL.EN) (by decide),
      below (f := PAGE_CTRL.QUIESCE_REQ) (by decide), hr]

/-- Settles O14: the guards of R34 and R85 hold, and the end of a block reset takes one page off the list. -/
theorem quiesceAndResetEnd : Obligations.QuiesceAndResetEnd := by
  intro s pg hpg
  have hw : decide (pg < 16384) = true := decide_eq_true hpg
  refine ⟨fun p hp hl hq ho => ?quiesced, s.dev.blockDone pg, exec_next_after (.blockResetDone pg) _ s rfl hw, ?_, ?_,
    rfl, rfl⟩
  case quiesced =>
    rw [exec_next_after (.quiesceReached pg) _ s rfl hw]
    simp [Dev.quiesced, hp, hl, hq, ho]
  · simp [Dev.blockDone]
  · intro k hk
    simp [Dev.blockDone, hk]

end Sys2Proof.Machine
end

section
/-! The commands of the indirect window, from their acceptance to their completion (R39–R44, R47, R229, R254). -/

namespace Sys2Proof.Machine

section Run
variable (d : Dev) (func : Nat) {p : Page} {t : Tbl} {arg : Nat}

/-- An accepted image is written, except a BP_ACCOUNT image, which waits for the command's completion (R254). -/
theorem Dev.tblPut_of_check {i e : Nat} (h : d.imageCheck func t i e = 0) : d.tblPut func t i e =
    if t = .bpAccount then ({ TblCmd.ok with late := [(i, e)] }, d)
    else ({ TblCmd.ok with drain := t == .clProfile }, d.imageApply t i e) := by
  simp only [Dev.tblPut, h]

/-- NOP does nothing. -/
theorem Dev.tblRun_nop (bad : Bool) : d.tblRun func p 0 arg bad = (TblCmd.ok, d) := rfl

/-- READ keeps the entry's words, or those of its shadow, for completion. -/
theorem Dev.tblRun_read {shadow : Bool} (ht : d.tblPick p = some (t, shadow))
    (hi : d.rd p TBL_INDEX.INDEX < d.tblSize t) : d.tblRun func p 1 arg false =
      let i := d.rd p TBL_INDEX.INDEX
      ({ TblCmd.ok with
          data := entryWords (if shadow then d.shadEntry t i else d.viewEntry t i), isRead := true }, d) := by
  cases shadow <;> simp [Dev.tblRun, ht, Nat.not_le.mpr hi]

/-- WRITE puts TBL_DATA into the entry. -/
theorem Dev.tblRun_write (bad : Bool) (ht : d.tblPick p = some (t, false))
    (hi : d.rd p TBL_INDEX.INDEX < d.tblSize t) : d.tblRun func p 2 arg bad =
      d.tblPut func t (d.rd p TBL_INDEX.INDEX) (d.tblData p) := by
  simp [Dev.tblRun, ht, Nat.not_le.mpr hi]

/-- RMW puts the enabled words of TBL_DATA into the entry. -/
theorem Dev.tblRun_rmw (ht : d.tblPick p = some (t, false)) (hi : d.rd p TBL_INDEX.INDEX < d.tblSize t) :
    d.tblRun func p 3 arg false = d.tblPut func t (d.rd p TBL_INDEX.INDEX)
      (rmwImage arg (d.viewEntry t (d.rd p TBL_INDEX.INDEX)) (d.tblData p)) := by
  simp [Dev.tblRun, ht, Nat.not_le.mpr hi]

/-- CLEAR_RANGE resets the range once every entry of it may be cleared. -/
theorem Dev.tblRun_clearRange (bad : Bool) (ht : d.tblPick p = some (t, false))
    (hi : d.rd p TBL_INDEX.INDEX + arg < d.tblSize t)
    (hc : ∀ k ≤ arg, d.clearCheck func t (d.rd p TBL_INDEX.INDEX + k) = 0) : d.tblRun func p 4 arg bad =
      let i := d.rd p TBL_INDEX.INDEX
      if t = .bpAccount then
        ({ TblCmd.ok with late := (List.range (arg + 1)).map (fun k => (i + k, d.clearImage t (i + k))) }, d)
      else ({ TblCmd.ok with drain := t == .clProfile }, d.clearRange t i (arg + 1)) := by
  have first : d.rd p TBL_INDEX.INDEX < d.tblSize t := Nat.lt_of_le_of_lt (Nat.le_add_right _ _) hi
  have clear : ((List.range (arg + 1)).map (fun k => d.clearCheck func t (d.rd p TBL_INDEX.INDEX + k))).find? (· != 0) =
      none := by
    simpa [Nat.lt_succ_iff] using hc
  simp [Dev.tblRun, ht, Nat.not_le.mpr hi, Nat.not_le.mpr first, clear]

/-- Starting a command leaves the index. -/
theorem Dev.rd_index_tblStart (op arg : Nat) : (d.tblStart p op arg).rd p TBL_INDEX.INDEX = d.rd p TBL_INDEX.INDEX :=
  d.rd_wrs_place p (by simp [Fld.slot])

/-- An accepted write of TBL_CMD has its meaning on the page that the access names. -/
theorem Dev.tblCmd_accepts (b : By) (pg v : Nat) (bad : Bool) (hp : d.pageOf (viaOf b pg) pg = some p)
    (ha : d.accepts (viaOf b pg) p TBL_CMD.OP v = true) :
    d.tblCmd b pg v bad = p.guarded (Dev.tblOp b.func p v bad) d := by
  rw [Dev.tblCmd, hp]
  exact d.hostF_accepts _ p _ v _ ha

end Run

/-- The command that a write of TBL_CMD carries. -/
theorem TBL_CMD.op_get_op_set (v : Nat) {op : Nat} (h : op < 5) : TBL_CMD.OP.get (TBL_CMD.OP.set v op) = op :=
  (Fld.get_set TBL_CMD.OP v op).trans (Nat.mod_eq_of_lt (h.trans (by decide)))

/-- Setting OP leaves ARG. -/
theorem TBL_CMD.arg_get_op_set (v op : Nat) : TBL_CMD.ARG.get (TBL_CMD.OP.set v op) = TBL_CMD.ARG.get v :=
  Fld.get_set_of_above (by decide) v op

/-- Settles O16: an accepted command on an idle window runs on the started window, and what the run gives is kept. -/
theorem tableCommandsComplete : Obligations.TableCommandsComplete := by
  intro s b pg p v w hb hpg hv hh hp hi
  have hw := hostWord_wellFormed hb hpg hv
  refine ⟨fun op h => ⟨TBL_CMD.op_get_op_set v h, TBL_CMD.arg_get_op_set v op⟩, ?_⟩
  intro arg i x put
  have idle : ¬ s.dev.on p TBL_STAT.BUSY = true := by simp [Dev.on, hi]
  have index (op : Nat) : (x op).rd p TBL_INDEX.INDEX = i := s.dev.rd_index_tblStart op arg
  have reached {op : Nat} (hop : op < 5) {g : Dev → Dev} {r : TblCmd × Dev}
      (ha : s.dev.accepts w p TBL_CMD.OP (TBL_CMD.OP.set v op) = true)
      (hr : (x op).tblRun b.func p op arg false = r) (hg : r.2.tblKeep p r.1 = g s.dev) :
      s.dev.tblCmd b pg (TBL_CMD.OP.set v op) false = p.guarded g s.dev := by
    rw [s.dev.tblCmd_accepts b pg _ false hp ha]
    refine p.guarded_congr ?_
    rw [Dev.tblOp_of_window _ _ _ _ hh, if_neg idle, TBL_CMD.op_get_op_set v hop, TBL_CMD.arg_get_op_set]
    exact (congrArg (fun r : TblCmd × Dev => r.2.tblKeep p r.1) hr).trans hg
  have kept (t : Tbl) (e op : Nat) (hc : (x op).imageCheck b.func t i e = 0) :
      ((x op).tblPut b.func t i e).2.tblKeep p ((x op).tblPut b.func t i e).1 = put t e (x op) := by
    rw [Dev.tblPut_of_check _ _ hc]
    simp only [put]
    split <;> rfl
  refine ⟨fun ha => ?nop, fun t shadow ha ht hx => ?read, fun t ha ht hx hc => ?write, fun t ha ht hx => ?rmw,
    fun t ha ht hx hc => ?clear⟩
  case nop => exact exec_next_of_eq (.tblNop b pg v) _ s rfl hw (reached (by decide) ha (Dev.tblRun_nop _ _ _) rfl)
  case read =>
    rw [← index 1] at hx
    refine exec_next_of_eq (.tblRead b pg v false) _ s rfl hw (reached (by decide) ha (Dev.tblRun_read _ _ ht hx) ?_)
    rw [index]
    rfl
  case write =>
    rw [← index 2] at hx
    refine exec_next_of_eq (.tblWrite b pg v) _ s rfl hw (reached (by decide) ha (Dev.tblRun_write _ _ false ht hx) ?_)
    rw [index]
    exact kept t _ 2 hc
  case rmw =>
    intro e hc
    rw [← index 3] at hx
    refine exec_next_of_eq (.tblRmw b pg v false) _ s rfl hw (reached (by decide) ha (Dev.tblRun_rmw _ _ ht hx) ?_)
    rw [index]
    exact kept t e 3 hc
  case clear =>
    rw [← index 4] at hx hc
    refine exec_next_of_eq (.tblClearRange b pg v) _ s rfl hw
      (reached (by decide) ha (Dev.tblRun_clearRange _ _ false ht hx hc) ?_)
    rw [index]
    dsimp only
    split <;> rfl

/-- Settles O17: the outcome kept for the page is shown by the completion that waits for it. -/
theorem tableCommandsEnd : Obligations.TableCommandsEnd := by
  intro s pg p c hpg hp hc d1 d2 d3 d4
  obtain rfl := Page.num_of_ofNum hp
  have ended : s.dev.tblEnd p c = d4 := rfl
  refine ⟨fun hd => ?done, fun hn hd => ?drained⟩
  case done =>
    refine exec_next_of_eq (.tblCmdDone p.num) _ s rfl (decide_eq_true hpg) ?_
    simp only [Dev.tblDone, hp, hc, hd, Bool.false_eq_true, if_false, ended]
  case drained =>
    obtain rfl : p = .cl 1 := Option.some.inj (hp.symm.trans (congrArg Page.ofNum hn))
    refine exec_next_of_eq .clProfileDrainDone _ s rfl rfl ?_
    simp only [Dev.drainDone, hc, hd, if_true, ended]

end Sys2Proof.Machine
end

section
/-! What an error of a page shows in ERR_FIRST (Table REG–8). -/

namespace Sys2Proof.Machine

/-- An armed ERR_FIRST captures the code of the error, cut to its field. -/
theorem Dev.rd_logErr_code (d : Dev) (p : Page) (code : Nat) (h : d.rd p ERR_FIRST.CODE = 0) :
    (d.logErr p code).rd p ERR_FIRST.CODE = code % 2 ^ ERR_FIRST.CODE.width := by
  have armed : (d.sat p ERR_COUNT.COUNT).rd p ERR_FIRST.CODE = 0 := by
    rw [Dev.sat, Dev.rd_wr_place _ _ _ (by decide), h]
  rw [Dev.logErr, Dev.rd_raise, Dev.rd_wr_place _ _ _ (by decide), if_pos armed, Dev.rd_wr_place _ _ _ (by decide),
    Dev.rd_wr_same]

end Sys2Proof.Machine
end

section
/-! The line mode of a tree (R55, R89). -/

namespace Sys2Proof.Machine

section LineMode
variable (d : Dev) (n v : Nat)

/-- The condition of R55 in the fields that it names. -/
theorem Dev.modeFree_iff : (d.framerOff n && d.rxOff n && (d.groupOf n).isNone) = true ↔
    d.rd (.te n 0) TE_TX_CTRL.FRAMER_EN = 0 ∧ d.rd (.te n 1) TE_RX_CTRL.RX_EN = 0 ∧ d.groupOf n = none := by
  simp [Dev.framerOff, Dev.rxOff, Dev.on, and_assoc]

/-- A write of TE_MODE is taken while the framer and the receiver of an unbonded tree are off. -/
theorem Dev.wLineMode_of_free (h : d.rd (.te n 0) TE_TX_CTRL.FRAMER_EN = 0 ∧ d.rd (.te n 1) TE_RX_CTRL.RX_EN = 0 ∧
    d.groupOf n = none) : d.wLineMode n v = d.setLineMode n (TE_MODE.LINE_MODE.get v) :=
  if_pos ((d.modeFree_iff n).mpr h)

/-- Any other write of TE_MODE is refused with its error. -/
theorem Dev.wLineMode_of_not_free (h : ¬ (d.rd (.te n 0) TE_TX_CTRL.FRAMER_EN = 0 ∧
    d.rd (.te n 1) TE_RX_CTRL.RX_EN = 0 ∧ d.groupOf n = none)) : d.wLineMode n v = d.logErr (.te n 0) 0x101 :=
  if_neg (mt (d.modeFree_iff n).mp h)

/-- An accepted LINE_MODE_WRITE has the meaning of the write of TE_MODE. -/
theorem exec_lineModeWrite (s : State) {b : By} {n v : Nat} (hw : (Instr.lineModeWrite b n v).wellFormed = true)
    (ha : s.dev.accepts b (.te n 0) TE_MODE.LINE_MODE v = true) :
    exec (.lineModeWrite b n v) s = .next (s.after (s.dev.wLineMode n v)) :=
  exec_next_after_hostF (.lineModeWrite b n v) s rfl hw ha

end LineMode

/-- Settles O58: the write is taken or refused by the condition of R55, and a refusal writes the error log alone. -/
theorem lineModeRule : Obligations.LineModeRule := by
  rintro s _ rfl b n v hw ha
  refine ⟨fun h => ?taken, fun h => ⟨?refused, ?field, ?count, fun hc => ?first⟩⟩
  case taken => rw [exec_lineModeWrite s hw ha, Dev.wLineMode_of_free _ n v h]
  case refused => rw [exec_lineModeWrite s hw ha, Dev.wLineMode_of_not_free _ n v h]
  case field => exact s.dev.rd_logErr_place _ 0x101 (by decide)
  case count => exact s.dev.rd_logErr_count _ 0x101
  case first => exact s.dev.rd_logErr_code _ 0x101 hc

end Sys2Proof.Machine
end

section
/-! Commands of module time, the one-second tick and the reads that latch or pop (R59, R313–R315, R323). -/

namespace Sys2Proof.Machine

section Time
variable (d : Dev)

/-- A SET or STEP that is not refused shows STAT 1 and waits with the value that its write finds (R314). -/
theorem Dev.wTodCmd_of_pending {v op : Nat} (hop : op = 1 ∨ op = 2) (hs : d.rd (.tm 0) TM_TOD_CMD.STAT ≠ 1)
    (hn : d.rd (.tm 0) TM_TOD_SET.NS ≤ 999999999) : d.wTodCmd (TM_TOD_CMD.OP.set v op) =
      ((d.wr (.tm 0) TM_TOD_CMD.OP op).wr (.tm 0) TM_TOD_CMD.STAT 1).setTm
        { d.tm with todCmd := some (op, d.todSet (op == 2)) } := by
  have hget : TM_TOD_CMD.OP.get (TM_TOD_CMD.OP.set v op) = op :=
    (Fld.get_set TM_TOD_CMD.OP v op).trans (Nat.mod_eq_of_lt (show op < 16 by omega))
  have taken : ¬ ((op ≠ 1 ∧ op ≠ 2) ∨ 999999999 < d.rd (.tm 0) TM_TOD_SET.NS) := by omega
  simp only [Dev.wTodCmd, if_neg hs, hget, if_neg taken, Dev.wr_tm]

/-- The value of a STEP: the seconds of TM_TOD_SET are signed (R314). -/
theorem Dev.todSet_of_step : d.todSet (2 == 2) =
    (sext 48 (d.rd (.tm 0) TM_TOD_SET.SEC_HI * 2 ^ 32 + d.rd (.tm 0) TM_TOD_SET.SEC_LO) * 1000000000 +
      d.rd (.tm 0) TM_TOD_SET.NS) * 2 ^ 32 + d.rd (.tm 0) TM_TOD_SET.FRAC * 65536 := by
  simp only [Dev.todSet, beq_self_eq_true, if_true]

/-- A live TM ends the second once it has applied the command that waits (R314, R315). -/
theorem exec_oneSecondTick (s : State) (h : s.dev.live (.tm 0) = true) :
    exec .oneSecondTick s = .next (s.after s.dev.todApply.wrapSecond) :=
  exec_next_of_eq .oneSecondTick _ s rfl rfl (if_pos h)

/-- A SET or STEP that waits is applied, and STAT shows 0 (R314). -/
theorem Dev.todApply_of_some {op : Nat} {v : Int} (h : d.tm.todCmd = some (op, v)) : d.todApply =
    let d1 := (d.setTm { d.tm with todCmd := none }).wr (.tm 0) TM_TOD_CMD.STAT 0
    if op = 1 then d1.stepTo (TimeVal.ofInt v) else d1.stepBy v := by
  simp only [Dev.todApply, h]

/-- Without a command that waits there is none to apply. -/
theorem Dev.todApply_of_none (h : d.tm.todCmd = none) : d.todApply = d := by
  simp only [Dev.todApply, h]

/-- A read of TM_TSQ(u) pops the head entry and shows its time (R323). -/
theorem Dev.tsqLoad_of_cons {u : Nat} {e : TsqEntry} {t : List TsqEntry} (h : d.tm.tsq.get [] u = e :: t) :
    d.tsqLoad u =
      ((TM_TSQ.VALID u).put 1 + (TM_TSQ.DROPPED u).put e.dropped.toNat +
          (TM_TSQ.OVF u).put (d.tm.ovf.get false u).toNat + (TM_TSQ.LEFT u).put t.length + (TM_TSQ.ID u).put e.id,
        (d.setTm { d.tm with tsq := d.tm.tsq.put [] u t, ovf := d.tm.ovf.put false u false }).wrs (.tm 1)
          [(TM_TSQ_TS.SEC_LO u, e.sec), (TM_TSQ_TS.SEC_HI u, e.sec / 2 ^ 32), (TM_TSQ_TS.FRAC u, e.frac),
           (TM_TSQ_TS.NS u, e.ns)]) := by
  simp only [Dev.tsqLoad, h]

end Time

/-- Settles O36: each command's write or read reaches its register, and the tick applies what waits. -/
theorem moduleTimeComplete : Obligations.ModuleTimeComplete := by
  rintro s _ rfl
  refine ⟨fun b v hw ha hs hn => ?set, fun b v hw ha hs hn => ?step,
    fun hl => ⟨fun h => ?plain, fun v h => ?afterSet, fun v h => ?afterStep⟩, fun b hb hr => ?time,
    fun b n hb hn hr => ?count, fun b u e t hb hu hr hq => ?pop⟩
  case set =>
    rw [exec_next_after_hostF (.todSet b v) s rfl hw ha, Dev.wTodCmd_of_pending _ (.inl rfl) hs hn]
    rfl
  case step =>
    rw [exec_next_after_hostF (.todStep b v) s rfl hw ha, Dev.wTodCmd_of_pending _ (.inr rfl) hs hn,
      Dev.todSet_of_step]
  case plain =>
    rw [exec_oneSecondTick s hl, Dev.todApply_of_none _ h]
    rfl
  case afterSet =>
    rw [exec_oneSecondTick s hl, Dev.todApply_of_some _ h]
    rfl
  case afterStep =>
    rw [exec_oneSecondTick s hl, Dev.todApply_of_some _ h]
    rfl
  case time => exact exec_next_of_eq (.todRead b) _ s rfl hb (Dev.hostR_readable _ b (.tm 0) _ _ hr)
  case count =>
    have hw : (Instr.sfcLoRead b n).wellFormed = true := show (b.ok && decide (n < 48)) = true by simp [hb, hn]
    exact exec_next_of_eq (.sfcLoRead b n) _ s rfl hw (Dev.hostR_readable _ b (.te n 0) _ _ hr)
  case pop =>
    have hw : (Instr.tsqPop b u).wellFormed = true := show (b.ok && decide (u < 32)) = true by simp [hb, hu]
    refine exec_next_of_eq (.tsqPop b u) _ s rfl hw ?_
    rw [Dev.tsqPop, Dev.hostR_readable _ b (.tm 1) _ _ hr, Dev.tsqLoad_of_cons _ hq]
    rfl

end Sys2Proof.Machine
end

section
/-! The downstream framer: its frame starts, its registers, the payload field, announcements, host PLOAM messages and the
TXDIS land (R54–R58, R64–R73, R76). -/

namespace Sys2Proof.Machine

section Framer
variable (d : Dev) (n : Nat)

/-! ## Frame starts (R56, R58, R73) -/

/-- ALIGNING ends with the first frame, whose count is TE_SFC_INIT. -/
theorem Dev.frameStart_of_aligning (hl : d.live (.te n 0) = true) (hg : d.groupOf n = none)
    (hf : d.rd (.te n 0) TE_TX_STAT.FSTATE = 1) : d.frameStart n =
      ((d.closeField n).wr (.te n 0) TE_TX_STAT.FSTATE 2).startFrame n
        (d.rd (.te n 0) TE_SFC_INIT_LO.INIT_LO + 2 ^ 32 * d.rd (.te n 0) TE_SFC_INIT_HI.INIT_HI) := by
  simp [Dev.frameStart, hl, hg, hf]

/-- In SENDING each frame counts one on. -/
theorem Dev.frameStart_of_sending (hl : d.live (.te n 0) = true) (hg : d.groupOf n = none)
    (hf : d.rd (.te n 0) TE_TX_STAT.FSTATE = 2) :
    d.frameStart n = (d.closeField n).startFrame n ((d.sfc n + 1) % 2 ^ 51) := by
  simp [Dev.frameStart, hl, hg, hf]

/-- STOPPING ends at the frame start when no remainder is owed. -/
theorem Dev.frameStart_of_stopping (hl : d.live (.te n 0) = true) (hg : d.groupOf n = none)
    (hf : d.rd (.te n 0) TE_TX_STAT.FSTATE = 3) (ho : ((d.closeField n).fr n).oweRem = false) :
    d.frameStart n = (d.closeField n).watch [n] (fun x => x.framerEnd n) := by
  simp [Dev.frameStart, hl, hg, hf, ho]

/-! ## Registers (Table DSF–10, R71, R73) -/

/-- A write of TE_OC_HI commits its word with TE_OC_LO. -/
theorem Dev.wOcHi_eq (v : Nat) : d.wOcHi n v =
    let d1 := d.wr (.te n 0) TE_OC_HI.OC_HI (TE_OC_HI.OC_HI.get v)
    d1.setFr n { d1.fr n with
      ocPend := some (d.rd (.te n 0) TE_OC_LO.OC_LO + 2 ^ 32 * TE_OC_HI.OC_HI.get v) } := by
  have hget : TE_OC_HI.OC_HI.get v % 2 ^ TE_OC_HI.OC_HI.width = TE_OC_HI.OC_HI.get v := Nat.mod_mod _ _
  rw [Dev.wOcHi, Dev.rd_wr_same, hget, Dev.rd_wr_place _ _ _ (by decide)]

/-- An arming write of a stamp that is not armed: STALE shows a target that has passed. -/
theorem Dev.wTodCtrl_of_arm (v : Nat) (h : d.rd (.te n 0) TE_TOD_CTRL.ARM = 0) :
    d.wTodCtrl n (TE_TOD_CTRL.ARM.set v 1) = d.wrs (.te n 0)
      (if d.sfc n + 1 < d.todTarget n then [(TE_TOD_CTRL.DONE, 0), (TE_TOD_CTRL.STALE, 0), (TE_TOD_CTRL.ARM, 1)]
      else [(TE_TOD_CTRL.DONE, 0), (TE_TOD_CTRL.STALE, 1), (TE_TOD_CTRL.ARM, 0)]) := by
  have idle : ¬ d.on (.te n 0) TE_TOD_CTRL.ARM = true := by simp [Dev.on, h]
  have arm : TE_TOD_CTRL.ARM.get (TE_TOD_CTRL.ARM.set v 1) = 1 := Fld.get_set TE_TOD_CTRL.ARM v 1
  rw [Dev.wTodCtrl, if_neg idle]
  split
  · next future => simp [arm, Nat.not_le.mpr future]
  · next passed => simp [arm, Nat.not_lt.mp passed]

/-- A write of TE_TX_CTRL with PLOAM_MAX in range is taken, and the framer moves. -/
theorem Dev.wTxCtrl_of_inRange {v en : Nat} (he : en < 2) (h1 : 1 ≤ TE_TX_CTRL.PLOAM_MAX.get v)
    (h8 : TE_TX_CTRL.PLOAM_MAX.get v ≤ 8) : d.wTxCtrl n (TE_TX_CTRL.FRAMER_EN.set v en) =
      d.watch [n] (fun x => (x.wrs (.te n 0) [(TE_TX_CTRL.PLOAM_MAX, TE_TX_CTRL.PLOAM_MAX.get v),
        (TE_TX_CTRL.TX_EN, TE_TX_CTRL.TX_EN.get v), (TE_TX_CTRL.FRAMER_EN, en)]).framerKick n) := by
  have above {f : Fld} (h : TE_TX_CTRL.FRAMER_EN.lo + TE_TX_CTRL.FRAMER_EN.width ≤ f.lo) :
      f.get (TE_TX_CTRL.FRAMER_EN.set v en) = f.get v := Fld.get_set_of_above h v en
  have hen : TE_TX_CTRL.FRAMER_EN.get (TE_TX_CTRL.FRAMER_EN.set v en) = en :=
    (Fld.get_set TE_TX_CTRL.FRAMER_EN v en).trans (Nat.mod_eq_of_lt he)
  have inRange : ¬ (TE_TX_CTRL.PLOAM_MAX.get v < 1 ∨ 8 < TE_TX_CTRL.PLOAM_MAX.get v) := by omega
  simp only [Dev.wTxCtrl, above (f := TE_TX_CTRL.PLOAM_MAX) (by decide), above (f := TE_TX_CTRL.TX_EN) (by decide), hen,
    if_neg inRange]

/-! ## The payload field (R67–R69) -/

/-- An open field with room takes the next ready frame. -/
theorem Dev.dsXgem_of_open (ho : d.fieldOpen n = true) (hr : (d.fr n).room ≠ 0) : d.dsXgem n = d.place n :=
  if_pos (by simp [ho, hr])

variable {x : Xgem} {t : List Xgem}

/-- The frame of a clear flow passes the clear-frame check. -/
theorem Xgem.not_wouldGoClear (hc : x.cipher = false) : ¬ x.wouldGoClear = true := by simp [Xgem.wouldGoClear, hc]

/-- A whole frame that fits goes out, and its buffer is released. -/
theorem Dev.place_of_fits (hq : (d.fr n).ready = x :: t) (hc : x.cipher = false) (hr : x.rest = [])
    (hfit : xgemBytes x.payload.length ≤ (d.fr n).room) : d.place n =
      (((d.setFr n { d.fr n with ready := t }).xgemOut n x true x.payload).cnt (.teDsCnt n) 2).xgemFree x := by
  simp [Dev.place, hq, Xgem.not_wouldGoClear hc, hr, hfit]

/-- Less room than a fragment needs is filled with an idle frame, behind which the frame waits. -/
theorem Dev.place_of_noRoom (hq : (d.fr n).ready = x :: t) (hc : x.cipher = false) (h16 : (d.fr n).room < 16)
    (hbig : (d.fr n).room < xgemBytes (x.payload.length + x.rest.length))
    (hf : d.rd (.te n 0) TE_TX_STAT.FSTATE = 2) : d.place n = d.idleFill n (d.fr n).room := by
  simp [Dev.place, hq, Xgem.not_wouldGoClear hc, Nat.not_le.mpr h16, Nat.not_le.mpr hbig, hf]

/-! ## Announcements and host PLOAM messages (R64, R72) -/

/-- The first announcement for the framer arrives: late when its frame has started, kept otherwise. -/
theorem Dev.annArrive_of_some {a : AnnFrame} (h : d.te.anns.find? (fun e => e.1 == n) = some (n, a)) :
    d.annArrive n =
      let d1 : Dev := { d with te := { d.te with anns := d.te.anns.erase (n, a) } }
      if a.sendSfc ≤ d.sfc n ∧ d.sending n = true then (d1.cnt (.teDsCnt n) 10).raise (.te n 0) 4
      else d1.setFr n { d1.fr n with ann := (d1.fr n).ann ++ [a] } := by
  simp only [Dev.annArrive, h]

/-- A host PLOAM message of an allowed type to everyone or to an ONU of the tree is queued. -/
theorem Dev.ploamSubmit_of_allowed {m : Ploam} (h : d.te.subs.find? (fun e => e.1 == n) = some (n, m))
    (hb : ploamBarred m.type = false)
    (ho : m.onu = bcastOnu ∨ (m.onu < 256 ∧ d.onuSt (d.groupPort n) m.onu ≠ 0)) : d.ploamSubmit n =
      let d1 : Dev := { d with te := { d.te with subs := d.te.subs.erase (n, m) } }
      d1.setFr (d1.lead n) { d1.fr (d1.lead n) with hostQ := (d1.fr (d1.lead n)).hostQ ++ [m] } := by
  have known : ¬ (m.onu ≠ bcastOnu ∧ (256 ≤ m.onu ∨ d.onuSt (d.groupPort n) m.onu = 0)) := by
    rintro ⟨hne, hbad⟩
    obtain ⟨hlt, hst⟩ := ho.resolve_left hne
    exact hbad.elim (Nat.not_le.mpr hlt) hst
  simp only [Dev.ploamSubmit, h, hb, Bool.false_eq_true, if_false, if_neg known]

/-! ## The TXDIS land (R76) -/

/-- A land that agrees with the command clears the run of samples that disagree. -/
theorem Dev.txdisSample_of_agree (hl : d.live (.te n 0) = true) : d.txdisSample n (d.txdis n) =
    let d1 := d.wr (.te n 0) TE_TX_STAT.TXDIS_PIN (d.txdis n).toNat
    d1.setFr n { d1.fr n with disRun := 0 } := by
  simp only [Dev.txdisSample, if_pos hl, if_true]

/-- The second sample in a row that disagrees raises the alarm. -/
theorem Dev.txdisSample_of_second (hl : d.live (.te n 0) = true) (h1 : (d.fr n).disRun = 1) :
    d.txdisSample n (!d.txdis n) =
      let d1 := d.wr (.te n 0) TE_TX_STAT.TXDIS_PIN (!d.txdis n).toNat
      (((d1.setFr n { d1.fr n with disRun := 2 }).raise (.te n 0) 6).logErr (.te n 0) 0x105).report 35 n := by
  have run (p : Page) (f : Fld) (v : Nat) : ((d.wr p f v).fr n).disRun = 1 := h1
  simp [Dev.txdisSample, hl, run]

end Framer

/-- Settles O47: each clause names what decides its command's way, and the lemma of that way is the rest. -/
theorem framerComplete : Obligations.FramerComplete := by
  rintro s _ n rfl hn
  have hin : decide (n < 48) = true := decide_eq_true hn
  refine ⟨fun hl hg => ⟨fun hf => ?aligning, fun hf => ?sending, fun hf ho => ?stopping⟩, fun b v hw ha => ?opControl,
    fun b v hw ha h0 => ⟨fun future => ?armed, fun passed => ?stale⟩,
    fun b v hw h1 h8 => ⟨fun ha => ?enable, fun ha => ?disable⟩, fun b v hw ha hf hr hg => ?mode,
    fun ho hr => ⟨fun x t hq hc hw hfit => ?whole, fun x t hq hc h16 hbig hf => ?idle⟩,
    fun a h => ⟨fun early => ?kept, fun late hs => ?late⟩, fun m h hb ho => ?ploam, fun hl => ?agree,
    fun hl h1 => ?alarm⟩
  case aligning => exact exec_next_of_eq (.frameStart n) _ s rfl hin (Dev.frameStart_of_aligning _ n hl hg hf)
  case sending => exact exec_next_of_eq (.frameStart n) _ s rfl hin (Dev.frameStart_of_sending _ n hl hg hf)
  case stopping => exact exec_next_of_eq (.frameStart n) _ s rfl hin (Dev.frameStart_of_stopping _ n hl hg hf ho)
  case opControl => rw [exec_next_after_hostF (.ocHiWrite b n v) s rfl hw ha, Dev.wOcHi_eq]
  case armed => rw [exec_next_after_hostF (.todArm b n v) s rfl hw ha, Dev.wTodCtrl_of_arm _ n v h0, if_pos future]
  case stale => rw [exec_next_after_hostF (.todArm b n v) s rfl hw ha, Dev.wTodCtrl_of_arm _ n v h0, if_neg passed]
  case enable =>
    rw [exec_next_after_hostF (.framerEnable b n v) s rfl hw ha, Dev.wTxCtrl_of_inRange _ n (by decide) h1 h8]
  case disable =>
    rw [exec_next_after_hostF (.framerDisable b n v) s rfl hw ha, Dev.wTxCtrl_of_inRange _ n (by decide) h1 h8]
  case mode => rw [exec_lineModeWrite s hw ha, Dev.wLineMode_of_free _ n v ⟨hf, hr, hg⟩]
  case whole =>
    exact exec_next_of_eq (.dsXgemFrame n) _ s rfl hin
      ((Dev.dsXgem_of_open _ n ho hr).trans (Dev.place_of_fits _ n hq hc hw hfit))
  case idle =>
    exact exec_next_of_eq (.dsXgemFrame n) _ s rfl hin
      ((Dev.dsXgem_of_open _ n ho hr).trans (Dev.place_of_noRoom _ n hq hc h16 hbig hf))
  case kept =>
    exact exec_next_of_eq (.todAnnouncement n) _ s rfl hin
      ((Dev.annArrive_of_some _ n h).trans (if_neg fun started => Nat.not_le.mpr early started.1))
  case late =>
    exact exec_next_of_eq (.todAnnouncement n) _ s rfl hin ((Dev.annArrive_of_some _ n h).trans (if_pos ⟨late, hs⟩))
  case ploam => exact exec_next_of_eq (.hostPloamSubmit n) _ s rfl hin (Dev.ploamSubmit_of_allowed _ n h hb ho)
  case agree => exact exec_next_of_eq (.txdisSample n _) _ s rfl hin (Dev.txdisSample_of_agree _ n hl)
  case alarm => exact exec_next_of_eq (.txdisSample n _) _ s rfl hin (Dev.txdisSample_of_second _ n hl h1)

end Sys2Proof.Machine
end

section
/-! The burst receiver: a slot through its states, the delimiter and the header, reset pulses, FEC codewords and
listened spans (R84, R93–R101). -/

namespace Sys2Proof.Machine

section Receiver
variable (d : Dev) (n k : Nat)

/-! ## The receiver goes off (R84) -/

/-- RX_EN = 0 keeps the bursts in PAYLOAD, and the other fields of the write are taken. -/
theorem Dev.wRxCtrl_of_off (v : Nat) : d.wRxCtrl n (TE_RX_CTRL.RX_EN.set v 0) =
    (d.wrs (.te n 1) [(TE_RX_CTRL.RX_EN, 0), (TE_RX_CTRL.PREARM_EN, TE_RX_CTRL.PREARM_EN.get v),
      (TE_RX_CTRL.LISTEN_EN, TE_RX_CTRL.LISTEN_EN.get v), (TE_RX_CTRL.RECALL_EN, TE_RX_CTRL.RECALL_EN.get v)]).setRx n
        { d.rx n with
          cur := (d.rx n).cur.filter (fun x => x.st == .payload),
          next := (d.rx n).next.filter (fun x => x.st == .payload), pre := [] } := by
  have off : TE_RX_CTRL.RX_EN.get (TE_RX_CTRL.RX_EN.set v 0) = 0 := Fld.get_set TE_RX_CTRL.RX_EN v 0
  have above {f : Fld} (h : TE_RX_CTRL.RX_EN.lo + TE_RX_CTRL.RX_EN.width ≤ f.lo) :
      f.get (TE_RX_CTRL.RX_EN.set v 0) = f.get v := Fld.get_set_of_above h v 0
  simp only [Dev.wRxCtrl, off, above (f := TE_RX_CTRL.PREARM_EN) (by decide),
    above (f := TE_RX_CTRL.LISTEN_EN) (by decide), above (f := TE_RX_CTRL.RECALL_EN) (by decide), if_true]
  rfl

/-! ## A slot in one of its states (Table BRX–5) -/

variable {d n k} {x : Slot}

/-- An event of a live receiver meets the slot that is in the event's state. -/
theorem Dev.withSlot_of_state {st : BurstState} (f : Slot → Dev → Dev) (hx : (d.slots n)[k]? = some x) (hs : x.st = st)
    (hl : d.live (.te n 1) = true) : d.withSlot n k [st] f = f x d := by
  simp [Dev.withSlot, hx, hs, hl]

/-! ## The delimiter and the header (R93, R94) -/

section Delimiter
variable {bits w : Nat} {err : Int} (hx : (d.slots n)[k]? = some x) (hs : x.st = .search)
  (hl : d.live (.te n 1) = true) (hi : d.inService n = true)
  (hd : bitDiff bits (d.rdT (.teBurstProfile n) x.prof TE_BURST_PROFILE.DELIMITER) ≤ x.cfg.tol)
  (hw : d.window n x = some w) (he : err.natAbs ≤ w)
include hx hs hl hi hd hw he

/-- The grantee's good header opens PAYLOAD. -/
theorem Dev.delimMatch_of_grantee : d.delimMatch n k bits 1 x.onu err false = d.setSlot n k { x with
    st := .payload, corrected := false,
    delimErr := bitDiff bits (d.rdT (.teBurstProfile n) x.prof TE_BURST_PROFILE.DELIMITER), arrErr := err,
    locked := true } := by
  simp [Dev.delimMatch, Dev.withSlot_of_state _ hx hs hl, hi, hw, Nat.not_lt.mpr hd, Nat.not_lt.mpr he]

/-- An uncorrectable header leaves its mark on the slot. -/
theorem Dev.delimMatch_of_uncorrectable (id : Nat) (gasp : Bool) :
    d.delimMatch n k bits 0 id err gasp = d.setSlot n k { x with lastUncorr := true } := by
  simp [Dev.delimMatch, Dev.withSlot_of_state _ hx hs hl, hi, hw, Nat.not_lt.mpr hd, Nat.not_lt.mpr he]

/-- The first header of another ONU raises WRONG_ONU and is rogue evidence. -/
theorem Dev.delimMatch_of_foreign {id : Nat} (gasp : Bool) (hne : id ≠ x.onu) (ha : d.acquiring n = false)
    (hf : x.foreignIds.contains id = false) : d.delimMatch n k bits 1 id err gasp =
      ((d.setSlot n k { x with foreign := true, foreignIds := x.foreignIds ++ [id], lastUncorr := false }).raise
        (.te n 1) 0).rogue n (some id) := by
  have new : id ∉ x.foreignIds := by simpa using hf
  simp [Dev.delimMatch, Dev.withSlot_of_state _ hx hs hl, hi, hw, Nat.not_lt.mpr hd, Nat.not_lt.mpr he, hne, ha, new]

end Delimiter

/-! ## Burst reset (R99) -/

section BurstReset
variable (hx : (d.rx n).done[k]? = some x) (hon : d.rxOn n = true)
include hx hon

/-- Without an armed burst to come the pulse has its full width. -/
theorem Dev.brstPulse_of_last (h : d.brstRoom n x = none) : d.brstPulse n k = d.emit (.brst n x.cfg.brstWidth) := by
  simp [Dev.brstPulse, hx, hon, h]

/-- The next lock cuts the pulse short where BRST_MIN still fits. -/
theorem Dev.brstPulse_of_fits {room : Nat} (h : d.brstRoom n x = some room) (hm : x.cfg.brstMin ≤ room) :
    d.brstPulse n k = d.emit (.brst n (min room x.cfg.brstWidth)) := by
  simp [Dev.brstPulse, hx, hon, h, Nat.not_lt.mpr hm]

/-- Where BRST_MIN does not fit the pulse is omitted and counted. -/
theorem Dev.brstPulse_of_noRoom {room : Nat} (h : d.brstRoom n x = some room) (hm : room < x.cfg.brstMin) :
    d.brstPulse n k = (d.cnt (.teUsCnt n) 18).raise (.te n 1) 2 := by
  simp [Dev.brstPulse, hx, hon, h, hm]

end BurstReset

/-! ## FEC (R96–R98) -/

/-- The trailer's mismatching bits are counted and the items of a codeword taken in order, for the burst at a place
among those that decode. -/
def Dev.takeItems (n k : Nat) (x : Slot) (bad : Bool) (bip : Nat) (items : List UsItem) (d : Dev) : Dev :=
  let r := items.foldl (Dev.usItem n bad) (x, d.addT (.teOnuLine n) x.onu TE_ONU_LINE.BIP bip)
  r.2.setDecoding n k r.1

/-- What a codeword of a burst with FEC counts: itself, and how its decoding went. -/
def Dev.countCodeword (n corr : Nat) (bad : Bool) (onu : Nat) (d : Dev) : Dev :=
  let one := d.cnt (.teUsCnt n) 7
  if bad then (one.cnt (.teUsCnt n) 9).addT (.teOnuLine n) onu TE_ONU_LINE.FEC_UNCORR
  else if 0 < corr then (one.cnt (.teUsCnt n) 8).addT (.teOnuLine n) onu TE_ONU_LINE.FEC_CORR corr
  else one

/-- A codeword that decoded with corrections counts them for its ONU. -/
theorem Dev.countCodeword_of_corrected (n onu : Nat) {corr : Nat} (h : 0 < corr) (d : Dev) :
    d.countCodeword n corr false onu =
      ((d.cnt (.teUsCnt n) 7).cnt (.teUsCnt n) 8).addT (.teOnuLine n) onu TE_ONU_LINE.FEC_CORR corr := if_pos h

section Codeword
variable (corr bip : Nat) (bad : Bool) (items : List UsItem) (hx : (d.decoding n)[k]? = some x)
  (hl : d.live (.te n 1) = true) (hi : d.inService n = true) (hs : x.st = .payload ∨ x.st = .closed)
include hx hl hi hs

/-- With FEC a codeword is counted before its items are taken. -/
theorem Dev.fecDecode_of_fec (hf : x.fec = true) : d.fecDecode n k corr bad bip items =
    (d.countCodeword n corr bad x.onu).takeItems n k x bad bip items := by
  rcases hs with hs | hs <;> simp [Dev.fecDecode, Dev.takeItems, Dev.countCodeword, hx, hl, hi, hs, hf]

/-- Without FEC what was received is taken as it is. -/
theorem Dev.fecDecode_of_noFec (hf : x.fec = false) :
    d.fecDecode n k corr bad bip items = d.takeItems n k x false bip items := by
  rcases hs with hs | hs <;> simp [Dev.fecDecode, Dev.takeItems, hx, hl, hi, hs, hf]

end Codeword

/-! ## Listening (R100, R101) -/

section Listening
variable {sp : Int × Int} {amp dur : Nat} (found : Option (Nat × Nat × Nat)) (hk : (d.idleSpans n)[k]? = some sp)
  (hon : d.rxOn n = true) (hwin : (d.sq (d.groupPort n)).win = none) (hhunt : (d.sq (d.groupPort n)).hunt = none)
  (hlisten : d.rd (.te n 1) TE_RX_CTRL.LISTEN_EN ≠ 0)
include hk hon hwin hhunt hlisten

/-- A listened span without energy is counted. -/
theorem Dev.listen_of_quiet (h : d.isEnergy n amp dur = false) :
    d.listen n k amp dur found = d.cnt (.teUsCnt n) 16 := by
  simp [Dev.listen, Dev.on, hk, hon, hwin, hhunt, hlisten, h]

/-- Energy outside a takeover is counted, raises its interrupt and is rogue evidence. -/
theorem Dev.listen_of_energy (h : d.isEnergy n amp dur = true) (ht : (d.bw (d.groupPort n)).takeover = 0) :
    d.listen n k amp dur found =
      ((((d.cnt (.teUsCnt n) 16).setSq (d.groupPort n) { d.sq (d.groupPort n) with heard := some (sp.1, dur) }).cnt
        (.teUsCnt n) 17).raise (.te n 1) 1).rogue n (d.heardId n found) := by
  simp [Dev.listen, Dev.on, hk, hon, hwin, hhunt, hlisten, h, ht]

end Listening

end Receiver

section Commands
variable (s : State) {n k : Nat}

/-- A command on a slot that is in the state that the command meets does its work on that slot. -/
theorem exec_next_of_slot (c : Instr) {x : Slot} {st : BurstState} (f : Slot → Dev → Dev)
    (hc : exec c s = s.run c (fun d => d.withSlot n k [st] f)) (hw : c.wellFormed = true)
    (hx : (s.dev.slots n)[k]? = some x) (hs : x.st = st) (hl : s.dev.live (.te n 1) = true) :
    exec c s = .next (s.after (f x s.dev)) :=
  exec_next_of_eq c _ s hc hw (Dev.withSlot_of_state f hx hs hl)

/-- A candidate for the delimiter is well formed when it names a slot, 64 bits and a header that exist. -/
theorem delimiterMatch_wellFormed {bits hdr id : Nat} (err : Int) (gasp : Bool) (hn : n < 48) (hk : k < 2048)
    (hb : bits < 2 ^ 64) (hh : hdr < 3) (hid : id < 1024) :
    (Instr.delimiterMatch n k bits hdr id err gasp).wellFormed = true := by
  simp [Instr.wellFormed, hn, hk, show bits < 18446744073709551616 from hb, hh, hid]

/-- Where a codeword with corrections is well formed, so is one without. -/
theorem fecCodewordDecode_wellFormed_clean {corr bip : Nat} {bad : Bool} {items : List UsItem}
    (hw : (Instr.fecCodewordDecode n k corr bad bip items).wellFormed = true) :
    (Instr.fecCodewordDecode n k 0 bad bip items).wellFormed = true := by
  simp only [Instr.wellFormed, Bool.and_eq_true, decide_eq_true_eq] at hw ⊢
  omega

end Commands

/-- Settles O48: each clause names what decides its command's way, and the lemma of that way is the rest. -/
theorem receiverComplete : Obligations.ReceiverComplete := by
  rintro s _ n rfl hn
  have place {k : Nat} (hk : k < 2048) : (decide (n < 48) && decide (k < 2048)) = true := by simp [hn, hk]
  refine ⟨fun b v hw ha => ?disable,
    fun k x hk hx hl => ⟨fun hs => ?lock, fun hs locked => ?opens, fun hs locked => ?closes,
      fun hs hi bits err w hb hd hwin he => ⟨fun ho => ?grantee, fun id gasp hid => ?unreadable,
        fun id gasp hid hne ha hf => ?foreign⟩, fun hs hi ffe dfe dc freq gain thresh phase hw => ?accepted⟩,
    fun k x hk hx hon => ⟨fun h => ?whole, fun room h hm => ?fits, fun room h hm => ?omitted⟩,
    fun k corr bip items x hw hx hl hi hs =>
      ⟨fun hf => ⟨?clean, fun hc => ?corrected, ?uncorrectable⟩, fun hf bad => ?uncoded⟩,
    fun k sp amp dur found hw hk hon hwin hhunt hlisten => ⟨fun h => ?quiet, fun h ht => ?energy⟩⟩
  case disable => rw [exec_next_after_hostF (.rxDisable b n v) s rfl hw ha, Dev.wRxCtrl_of_off]
  case lock => exact exec_next_of_slot s (.burstLockStart n k) _ rfl (place hk) hx hs hl
  case opens => exact exec_next_of_slot s (.searchWindowOpen n k locked) _ rfl (place hk) hx hs hl
  case closes => exact exec_next_of_slot s (.searchWindowClose n k locked) _ rfl (place hk) hx hs hl
  case grantee =>
    exact exec_next_of_eq (.delimiterMatch n k bits 1 x.onu err false) _ s rfl
      (delimiterMatch_wellFormed err false hn hk hb (by decide) ho) (Dev.delimMatch_of_grantee hx hs hl hi hd hwin he)
  case unreadable =>
    exact exec_next_of_eq (.delimiterMatch n k bits 0 id err gasp) _ s rfl
      (delimiterMatch_wellFormed err gasp hn hk hb (by decide) hid)
      (Dev.delimMatch_of_uncorrectable hx hs hl hi hd hwin he id gasp)
  case foreign =>
    exact exec_next_of_eq (.delimiterMatch n k bits 1 id err gasp) _ s rfl
      (delimiterMatch_wellFormed err gasp hn hk hb (by decide) hid)
      (Dev.delimMatch_of_foreign hx hs hl hi hd hwin he gasp hne ha hf)
  case accepted =>
    rw [exec_next_of_slot s (.burstPayloadEnd n k ffe dfe dc freq gain thresh phase) _ rfl hw hx hs hl,
      if_neg (by simp [hi])]
  case whole => exact exec_next_of_eq (.brstPulse n k) _ s rfl (place hk) (Dev.brstPulse_of_last hx hon h)
  case fits => exact exec_next_of_eq (.brstPulse n k) _ s rfl (place hk) (Dev.brstPulse_of_fits hx hon h hm)
  case omitted => exact exec_next_of_eq (.brstPulse n k) _ s rfl (place hk) (Dev.brstPulse_of_noRoom hx hon h hm)
  case clean =>
    exact exec_next_of_eq (.fecCodewordDecode n k 0 false bip items) _ s rfl (fecCodewordDecode_wellFormed_clean hw)
      (Dev.fecDecode_of_fec 0 bip false items hx hl hi hs hf)
  case corrected =>
    rw [exec_next_of_eq (.fecCodewordDecode n k corr false bip items) _ s rfl hw
      (Dev.fecDecode_of_fec corr bip false items hx hl hi hs hf), Dev.countCodeword_of_corrected _ _ hc]
    rfl
  case uncorrectable =>
    exact exec_next_of_eq (.fecCodewordDecode n k corr true bip items) _ s rfl hw
      (Dev.fecDecode_of_fec corr bip true items hx hl hi hs hf)
  case uncoded =>
    exact exec_next_of_eq (.fecCodewordDecode n k corr bad bip items) _ s rfl hw
      (Dev.fecDecode_of_noFec corr bip bad items hx hl hi hs hf)
  case quiet =>
    exact exec_next_of_eq (.idleSpanListen n k amp dur found) _ s rfl hw
      (Dev.listen_of_quiet found hk hon hwin hhunt hlisten h)
  case energy =>
    exact exec_next_of_eq (.idleSpanListen n k amp dur found) _ s rfl hw
      (Dev.listen_of_energy found hk hon hwin hhunt hlisten h ht)

end Sys2Proof.Machine
end

section
/-! The range configuration of a tree (R106). -/

namespace Sys2Proof.Machine

section RangeConfig
variable (d : Dev) (n v : Nat)

/-- A write of TE_RANGE_CFG changes one of its fields. -/
def Dev.rangeChanges : Prop :=
  TE_RANGE_CFG.TEQD_NS.get v ≠ d.rd (.te n 2) TE_RANGE_CFG.TEQD_NS ∨
    TE_RANGE_CFG.MAX_KM.get v ≠ d.rd (.te n 2) TE_RANGE_CFG.MAX_KM ∨
    TE_RANGE_CFG.DIFF_KM.get v ≠ d.rd (.te n 2) TE_RANGE_CFG.DIFF_KM

/-- A word of TE_RANGE_CFG keeps TEQD_NS within the bounds for its MAX_KM. -/
def teqdInBounds : Prop :=
  37000 + 9800 * TE_RANGE_CFG.MAX_KM.get v ≤ TE_RANGE_CFG.TEQD_NS.get v ∧ TE_RANGE_CFG.TEQD_NS.get v ≤ 1000000

/-- What R106 refuses with 0x140. -/
def Dev.rangeBarred : Prop :=
  ¬ teqdInBounds v ∨ (d.rangeChanges n v ∧ d.rd (.te n 0) TE_TX_CTRL.FRAMER_EN ≠ 0)

/-- The guard of the write is the condition of R106. -/
theorem Dev.rangeBarred_iff : d.rangeBarred n v ↔
    (((TE_RANGE_CFG.MAX_KM.get v != d.rd (.te n 2) TE_RANGE_CFG.MAX_KM ||
        TE_RANGE_CFG.DIFF_KM.get v != d.rd (.te n 2) TE_RANGE_CFG.DIFF_KM ||
        TE_RANGE_CFG.TEQD_NS.get v != d.rd (.te n 2) TE_RANGE_CFG.TEQD_NS) && d.on (.te n 0) TE_TX_CTRL.FRAMER_EN) ||
      decide (TE_RANGE_CFG.TEQD_NS.get v < 37000 + 9800 * TE_RANGE_CFG.MAX_KM.get v ∨
        1000000 < TE_RANGE_CFG.TEQD_NS.get v)) = true := by
  simp only [Dev.rangeBarred, Dev.rangeChanges, teqdInBounds, Dev.on, Bool.or_eq_true, Bool.and_eq_true, bne_iff_ne,
    decide_eq_true_eq]
  omega

variable {d n v}

/-- A write that breaks the rule is refused with its error. -/
theorem Dev.wRangeCfg_of_barred (h : d.rangeBarred n v) : d.wRangeCfg n v = d.logErr (.te n 2) 0x140 :=
  if_pos ((d.rangeBarred_iff n v).mp h)

/-- A write that keeps the rule is refused for another field (R109) or taken. -/
theorem Dev.wRangeCfg_of_not_barred (h : ¬ d.rangeBarred n v) : d.wRangeCfg n v = d.logErr (.te n 2) 0x141 ∨
    d.wRangeCfg n v = d.wrs (.te n 2) [(TE_RANGE_CFG.MAX_KM, TE_RANGE_CFG.MAX_KM.get v),
      (TE_RANGE_CFG.DIFF_KM, TE_RANGE_CFG.DIFF_KM.get v), (TE_RANGE_CFG.TEQD_NS, TE_RANGE_CFG.TEQD_NS.get v)] := by
  have kept : d.wRangeCfg n v = _ := if_neg (mt (d.rangeBarred_iff n v).mpr h)
  rw [kept]
  exact ite_eq_or_eq _ _ _

/-- An error of the page leaves the fields of TE_RANGE_CFG. -/
theorem Dev.rd_logErr_rangeCfg (code : Nat) : ∀ f ∈ [TE_RANGE_CFG.TEQD_NS, TE_RANGE_CFG.MAX_KM, TE_RANGE_CFG.DIFF_KM],
    (d.logErr (.te n 2) code).rd (.te n 2) f = d.rd (.te n 2) f := by
  have apart : ∀ f ∈ [TE_RANGE_CFG.TEQD_NS, TE_RANGE_CFG.MAX_KM, TE_RANGE_CFG.DIFF_KM], ∀ g ∈ errFields,
      f.slot ≠ g.slot := by decide
  exact fun f hf => d.rd_logErr_place _ code (apart f hf)

/-- A TEQD_NS that a write changes is the one written, and the write kept the rule. -/
theorem Dev.wRangeCfg_teqd_changed
    (h : (d.wRangeCfg n v).rd (.te n 2) TE_RANGE_CFG.TEQD_NS ≠ d.rd (.te n 2) TE_RANGE_CFG.TEQD_NS) :
    (d.wRangeCfg n v).rd (.te n 2) TE_RANGE_CFG.TEQD_NS = TE_RANGE_CFG.TEQD_NS.get v ∧ ¬ d.rangeBarred n v := by
  have refused (code : Nat) : d.wRangeCfg n v ≠ d.logErr (.te n 2) code := by
    intro he
    rw [he] at h
    exact h (Dev.rd_logErr_rangeCfg code _ List.mem_cons_self)
  have free : ¬ d.rangeBarred n v := fun hb => refused _ (Dev.wRangeCfg_of_barred hb)
  have taken := (Dev.wRangeCfg_of_not_barred free).resolve_left (refused _)
  refine ⟨?_, free⟩
  have cut : TE_RANGE_CFG.TEQD_NS.get v % 2 ^ TE_RANGE_CFG.TEQD_NS.width = TE_RANGE_CFG.TEQD_NS.get v := Nat.mod_mod _ _
  have apart : [TE_RANGE_CFG.MAX_KM.slot, TE_RANGE_CFG.DIFF_KM.slot, TE_RANGE_CFG.TEQD_NS.slot].Nodup := by decide
  rw [taken, d.rd_wrs_of_mem (.te n 2) _ ?_ (c := (TE_RANGE_CFG.TEQD_NS, TE_RANGE_CFG.TEQD_NS.get v)) ?_, cut]
  · exact apart
  · simp

end RangeConfig

/-- Settles O59: a refusal writes the error log alone, and a changed TEQD_NS comes from a write that was not refused. -/
theorem rangeConfigurationRule : Obligations.RangeConfigurationRule := by
  intro d n v p km t changes e
  refine ⟨fun h => ?refused, fun h => ?changed⟩
  case refused =>
    have he : e = d.logErr p 0x140 := Dev.wRangeCfg_of_barred h
    rw [he]
    exact ⟨rfl, Dev.rd_logErr_rangeCfg 0x140, d.rd_logErr_count p 0x140, d.rd_logErr_code p 0x140⟩
  case changed =>
    obtain ⟨written, free⟩ := Dev.wRangeCfg_teqd_changed h
    obtain ⟨bounds, off⟩ := not_or.mp free
    obtain ⟨low, high⟩ := not_not.mp bounds
    have differs : changes := .inl fun same => h (written.trans same)
    exact ⟨written, low, high, not_not.mp fun on => off ⟨differs, on⟩⟩

end Sys2Proof.Machine
end

section
/-! The host commands of the ranging sequencer (R114, R125, R127). -/

namespace Sys2Proof.Machine

/-- With no command pending, a defined OP is shown with its INDEX as pending and committed (R127). -/
theorem Dev.wOnuCmd_of_idle (d : Dev) (n v : Nat) {op : Nat} (h1 : 1 ≤ op) (h7 : op ≤ 7)
    (hs : d.rd (.te n 2) TE_ONU_CMD.STAT ≠ 1) : d.wOnuCmd n (TE_ONU_CMD.OP.set v op) =
      (d.wrs (.te n 2) [(TE_ONU_CMD.OP, op), (TE_ONU_CMD.INDEX, TE_ONU_CMD.INDEX.get v),
        (TE_ONU_CMD.STAT, 1)]).commitNow n := by
  have hop : TE_ONU_CMD.OP.get (TE_ONU_CMD.OP.set v op) = op :=
    (Fld.get_set TE_ONU_CMD.OP v op).trans (Nat.mod_eq_of_lt (show op < 16 by omega))
  have hindex : TE_ONU_CMD.INDEX.get (TE_ONU_CMD.OP.set v op) = TE_ONU_CMD.INDEX.get v :=
    Fld.get_set_of_below (by decide) v op
  have defined : ¬ (op = 0 ∨ 8 ≤ op) := by omega
  simp only [Dev.wOnuCmd, if_neg hs, hop, hindex, if_neg defined]

/-- A command of TE_ONU_CMD whose write is accepted while none is pending is issued. -/
theorem exec_onuCmd_of_idle (c : Instr) (s : State) {b : By} {n v op : Nat}
    (hx : exec c s = s.run c (Dev.onuCmd b n v op)) (hw : c.wellFormed = true) (h1 : 1 ≤ op) (h7 : op ≤ 7)
    (hs : s.dev.rd (.te n 2) TE_ONU_CMD.STAT ≠ 1)
    (ha : s.dev.accepts b (.te n 2) TE_ONU_CMD.OP (TE_ONU_CMD.OP.set v op) = true) :
    exec c s = .next (s.after ((s.dev.wrs (.te n 2) [(TE_ONU_CMD.OP, op),
      (TE_ONU_CMD.INDEX, TE_ONU_CMD.INDEX.get v), (TE_ONU_CMD.STAT, 1)]).commitNow n)) := by
  rw [exec_next_after_hostF c s hx hw ha, Dev.wOnuCmd_of_idle _ n v h1 h7 hs]

/-- Settles O49: the seven commands differ in the OP that they write. -/
theorem onuCommandsComplete : Obligations.OnuCommandsComplete := by
  rintro s _ rfl b n v hw hs
  exact ⟨exec_onuCmd_of_idle (.onuAuthorise b n v) s rfl hw (by decide) (by decide) hs,
    exec_onuCmd_of_idle (.onuRerange b n v) s rfl hw (by decide) (by decide) hs,
    exec_onuCmd_of_idle (.onuDeactivate b n v) s rfl hw (by decide) (by decide) hs,
    exec_onuCmd_of_idle (.onuDisable b n v) s rfl hw (by decide) (by decide) hs,
    exec_onuCmd_of_idle (.onuEnable b n v) s rfl hw (by decide) (by decide) hs,
    exec_onuCmd_of_idle (.onuRelease b n v) s rfl hw (by decide) (by decide) hs,
    exec_onuCmd_of_idle (.huntAbort b n v) s rfl hw (by decide) (by decide) hs⟩

end Sys2Proof.Machine
end

section
/-! Discovery, ranging and the rogue hunt (R104–R120, R124). -/

namespace Sys2Proof.Machine

section Ranging
variable (d : Dev) (n : Nat)

/-! ## Discovery windows (R107–R113) -/

/-- The discovery window's length in blocks (R109). -/
def Dev.discBlocks : Nat := nsToBlocks (d.blocks (d.lead n))
  (discNs (d.rd (.te n 2) TE_RANGE_CFG.DIFF_KM) (d.rd (.te n 2) TE_DISC_CFG.RAND_SPAN_US))

/-- The upstream frames that a discovery window reaches over. -/
def Dev.discFrames : Nat := (d.discBlocks n + d.blocks (d.lead n) - 1) / d.blocks (d.lead n)

/-- The serial-number grant of a discovery window (R110). -/
def Dev.discGrant : Grant where
  wireId := bcastOnu
  start := d.blocks (d.lead n) -
    nsToBlocks (d.blocks (d.lead n)) (1000 * d.rd (.te n 2) TE_DISC_CFG.RAND_SPAN_US + 3000)
  size := 4
  prof := 0
  dbru := false
  ploamu := false
  seq := true
  alloc := none
  onu := bcastOnu
  tenant := 0
  kind := 3

/-- The quiet window of a discovery: it ends with the upstream frame of its grant (R110). -/
def Dev.discQuiet : Quiet where
  port := d.lead n
  first := ((d.discFrames n * d.blocks (d.lead n) : Nat) : Int) - d.discBlocks n
  last := (d.discFrames n * d.blocks (d.lead n) : Nat)
  frame := d.discFrames n - 1
  grant := some (d.discGrant n)
  prof := d.rd (.te n 2) TE_DISC_CFG.DISC_PROFILE

/-- A window opens where nothing else is reserved: its quiet window is the only one, and EqD_pre goes out. -/
theorem Dev.discOpen_of_pending (hp : d.discPending n = true) (hw : (d.sq n).win = none)
    (hq : (d.sq n).quiet = []) : d.discOpen n =
      (((d.setSq n { d.sq n with
        quiet := [d.discQuiet n], discSince := some d.now,
        win := some { sfc := 0, serials := [], overflow := false, resent := [] } }).wr (.te n 2) TE_DISC_STAT.OPEN
          1).cnt (.teRngCnt n) 0).ploam n bcastOnu .rangingTime (beBytes 4 (d.eqdUnits n (d.eqdPre n))) := by
  simp only [Dev.discOpen, hp, hw, hq, Option.isSome_none, List.any_nil, Bool.not_true, Bool.or_self,
    Bool.false_eq_true, if_false, List.nil_append]
  rfl

/-- A serial-number burst is what R111 names. -/
theorem Dev.snGood_iff (bits hdr id : Nat) (bytes : List Byte) (mic : Nat) : d.snGood n bits hdr id bytes mic = true ↔
    bitDiff bits (d.rdT (.teBurstProfile n) (d.rd (.te n 2) TE_DISC_CFG.DISC_PROFILE) TE_BURST_PROFILE.DELIMITER) ≤
      (d.rxCfgAt (d.lead n)).tol ∧ hdr ≠ 0 ∧ id = bcastOnu ∧ d.ploamMic none bytes = mic := by
  simp [Dev.snGood, and_assoc]

variable {d n}

section Window
variable {w : DiscWin} (hwin : (d.sq n).win = some w)
include hwin

/-- A serial number that is new to the window is counted and handled (R112, R113). -/
theorem Dev.snAccept_of_new {serial : Nat} (rnd : Nat) (err : Int) (hl : w.serials.length < 16)
    (hnew : w.serials.contains serial = false) : d.snAccept n serial rnd err =
      let w1 : DiscWin := { w with serials := w.serials ++ [serial] }
      let rtd : Int := (d.teqdUi n : Int) + wholeUi err - d.eqdPre n - nsToUi (d.blocks (d.lead n)) rnd
      ((d.setSq n { d.sq n with win := some w1 }).cnt (.teRngCnt n) 1).snHandle n serial rnd (toBits 32 rtd) w1 := by
  simp only [Dev.snAccept, hwin, if_neg (Nat.not_le.mpr hl), hnew, Bool.false_eq_true, if_false]

/-- A serial number that the window has is a duplicate. -/
theorem Dev.snAccept_of_repeated {serial : Nat} (rnd : Nat) (err : Int) (hl : w.serials.length < 16)
    (hrep : w.serials.contains serial = true) : d.snAccept n serial rnd err = d.cnt (.teRngCnt n) 3 := by
  simp only [Dev.snAccept, hwin, if_neg (Nat.not_le.mpr hl), hrep, if_true]

/-- The seventeenth serial number is recorded with reason 4 (Table RNG–12). -/
theorem Dev.snAccept_of_full (serial rnd : Nat) (err : Int) (hl : 16 ≤ w.serials.length) (ho : w.overflow = false) :
    d.snAccept n serial rnd err =
      (d.setSq n { d.sq n with win := some { w with overflow := true } }).snUnknown n 4 serial w.sfc := by
  simp only [Dev.snAccept, hwin, if_pos hl, ho, Bool.false_eq_true, if_false]

/-- A window ends with its count of serial numbers; energy without one is a collision (R112). -/
theorem Dev.discEnd_of_open (amp dur : Nat) : d.discEnd n amp dur =
    let d1 := (d.setSq n { d.sq n with win := none }).wrs (.te n 2)
      [(TE_DISC_STAT.OPEN, 0), (TE_DISC_STAT.SN_LAST, w.serials.length)]
    if d.isEnergy (d.lead n) amp dur && w.serials.isEmpty then d1.cnt (.teRngCnt n) 2 else d1 := by
  simp only [Dev.discEnd, hwin]

end Window

/-- An entry that stays unauthorised goes back to EMPTY (Table RNG–2). -/
theorem Dev.discoveredTimeout_of_unauthorised {j : Nat} (hd : d.onuSt n j = 1) (ha : d.rdT (.teOnu n) j TE_ONU.AUTH = 0)
    (hs : d.standby n = false) : d.discoveredTimeout n j = d.planNow n (Trans.plain j 0 4 4) :=
  if_pos (by simp [Dev.onT, hd, ha, hs])

/-! ## Ranging bursts and Ranging_Time (R118, R120) -/

section Burst
variable {k : Nat} {x : Slot} {r : Ranging} (hx : (d.slots n)[k]? = some x) (hst : x.st = .payload)
  (hl : d.live (.te n 1) = true) (hk : x.kind = 2) (ht : x.taken = false) (ho : d.onuSt (d.groupPort n) x.onu = 2)
  (hlr : d.live (.te (d.groupPort n) 2) = true) (hs : d.standby (d.groupPort n) = false)
  (hr : d.rng (d.groupPort n) x.onu = some r) (hwait : r.wait = false)
include hx hst hl hk ht ho hlr hs hr hwait

/-- The one burst of a ranging grant confirms its EqD within the margin, and is measured otherwise. -/
theorem Dev.rangingAccept_of_awaited : d.rangingAccept n k =
    let d1 := d.setSlot n k { x with taken := true }
    if r.confirm = true ∧ x.arrErr.natAbs ≤ marginUi x.cfg.margin then
      d1.planNow (d.groupPort n) (Trans.plain x.onu 3 5 4)
    else d1.measure (d.groupPort n) x.onu r (wholeUi x.arrErr) := by
  rw [Dev.rangingAccept, Dev.withSlot_of_state _ hx hst hl]
  simp only [hk, ht, ho, hlr, hs, hr, hwait, decide_true, Bool.not_false, beq_self_eq_true, Bool.and_self, if_true,
    Bool.false_eq_true, if_false]

end Burst

section Ack
variable {j mic : Nat} {bytes : List Byte} {e : Dev} {g : Ranging} (hok : d.usPloamOk n j bytes mic = (true, e))
  (hg : e.rng n j = some g) (hwait : g.wait = true) (hseq : g.seqs.contains (ploamSeqOf bytes) = true)
include hok hg hwait hseq

/-- The acknowledgement of a Ranging_Time starts the confirming step of an ONU in RANGING; otherwise its drift sampling
resumes. -/
theorem Dev.rangingAck_of_awaited : d.rangingAck n j bytes mic =
    if e.onuSt n j = 2 then
      e.setRng n j { g with wait := false, confirm := true, used := e.rdT (.teOnu n) j TE_ONU.EQD }
    else e.setSq n { e.sq n with rng := (e.sq n).rng.del j, resume := (e.sq n).resume.ins j (e.nextMap n) } := by
  simp only [Dev.rangingAck, hok, hg, hwait, hseq, Bool.not_true, Bool.or_self, Bool.false_eq_true, if_false]

end Ack

/-- Eight frames after a Ranging_Time without its acknowledgement: another one until RANGE_TRIES is reached, and then the
ONU is lost or drifts (Table RNG–2). -/
theorem Dev.ackTimeout_of_awaited {j : Nat} {r : Ranging} (hl : d.live (.te n 2) = true) (hs : d.standby n = false)
    (hr : d.rng n j = some r) (hwait : r.wait = true) (hq : d.rangingWaits n j = false) : d.ackTimeout n j =
      if r.sends < d.rd (.te n 2) TE_DRIFT_CFG.RANGE_TRIES then
        (d.setRng n j { r with sends := r.sends + 1 }).rangingTime n j
      else if d.onuSt n j = 2 then d.rangeFail n j
      else d.planNow n (Trans.plain j 4 8 4) := by
  simp only [Dev.ackTimeout, hl, hs, hr, hwait, hq, Bool.not_true, Bool.not_false, Bool.and_self, Bool.or_self,
    Bool.false_eq_true, if_true, if_false]

/-! ## The rogue hunt (R124) -/

/-- A round that was listened to: energy clears the isolated half and puts the rest under suspicion, and silence the
half. -/
theorem Dev.huntNext_of_listening {h : Hunt} (hl : d.live (.te n 2) = true) (hs : d.standby n = false)
    (hh : (d.sq n).hunt = some h) (hlisten : h.listening = true) (hc : h.confirming = false) : d.huntNext n =
      let d1 := d.wr (.te n 2) TE_SEQ_STAT.ROUND (d.rd (.te n 2) TE_SEQ_STAT.ROUND + 1)
      (if h.energy then (d1.huntRelease n h.half).huntRound n (h.suspects.filter (fun j => !h.half.contains j))
        (h.isolated.filter (fun j => !h.half.contains j))
      else d1.huntRound n h.half h.isolated).commitNow n := by
  simp only [Dev.huntNext, hl, hs, hh, hlisten, hc, Bool.not_true, Bool.not_false, Bool.and_self, Bool.false_eq_true,
    if_true, if_false]

end Ranging

/-- A serial-number burst reaches the window of its tree. -/
theorem exec_snBurstAccept_of_good (s : State) {n bits hdr id serial rnd mic : Nat} {err : Int} {bytes : List Byte}
    (hw : (Instr.snBurstAccept n bits hdr id serial rnd err bytes mic).wellFormed = true)
    (hg : s.dev.snGood n bits hdr id bytes mic = true) :
    exec (.snBurstAccept n bits hdr id serial rnd err bytes mic) s =
      .next (s.after (s.dev.snAccept n serial rnd err)) :=
  exec_next_of_eq (.snBurstAccept n bits hdr id serial rnd err bytes mic)
    (fun d => if d.snGood n bits hdr id bytes mic then d.snAccept n serial rnd err else d) s rfl hw (if_pos hg)

/-- Settles O50: each clause names what decides its command's way, and the lemma of that way is the rest. -/
theorem rangingComplete : Obligations.RangingComplete := by
  rintro s _ n rfl hn
  have tree : decide (n < 48) = true := decide_eq_true hn
  have entry {j : Nat} (hj : j < 256) : (decide (n < 48) && decide (j < 256)) = true := by simp [hn, hj]
  refine ⟨fun hp hw hq => ?opens,
    fun bits hdr id serial rnd err bytes mic w hw hb hh hid hm hwin => ?burst,
    fun w amp dur hw hwin => ⟨fun hq => ?counted, fun he h0 => ?collision⟩,
    fun j hj hd ha hs => ?unauthorised,
    fun k x r hk hx hst hl hkind ht ho hlr hs hr hwait => ⟨fun hc hm => ?confirmed, fun hc => ?measured⟩,
    fun j bytes mic e g hj hok hg hwait hseq => ⟨fun ho => ?confirming, fun ho => ?resumed⟩,
    fun j r hj hl hs hr hwait hq => ⟨fun hlt => ?again, fun hle => ⟨fun ho => ?lost, fun ho => ?drifts⟩⟩,
    fun h hl hs hh hlisten hc => ⟨fun he => ?energy, fun he => ?silence⟩⟩
  case opens =>
    exact exec_next_of_eq (.discoveryWindowOpen n) _ s rfl tree (Dev.discOpen_of_pending _ n hp hw hq)
  case burst =>
    have accepted := exec_snBurstAccept_of_good s hw ((Dev.snGood_iff ..).mpr ⟨hb, hh, hid, hm⟩)
    refine ⟨fun hl hnew => ?new, fun hl hrep => ?repeated, fun hl ho => ?seventeenth⟩
    case new => rw [accepted, Dev.snAccept_of_new hwin rnd err hl hnew]
    case repeated => rw [accepted, Dev.snAccept_of_repeated hwin rnd err hl hrep]
    case seventeenth => rw [accepted, Dev.snAccept_of_full hwin serial rnd err hl ho]
  case counted =>
    exact exec_next_of_eq (.discoveryWindowEnd n amp dur) _ s rfl hw
      ((Dev.discEnd_of_open hwin amp dur).trans (if_neg (by simp [hq])))
  case collision =>
    exact exec_next_of_eq (.discoveryWindowEnd n amp dur) _ s rfl hw
      ((Dev.discEnd_of_open hwin amp dur).trans (if_pos (by simp [he, h0])))
  case unauthorised =>
    exact exec_next_of_eq (.discoveredTimeout n j) _ s rfl (entry hj)
      (Dev.discoveredTimeout_of_unauthorised hd ha hs)
  case confirmed =>
    exact exec_next_of_eq (.rangingBurstAccept n k) _ s rfl (by simp [Instr.wellFormed, hn, hk])
      ((Dev.rangingAccept_of_awaited hx hst hl hkind ht ho hlr hs hr hwait).trans (if_pos ⟨hc, hm⟩))
  case measured =>
    exact exec_next_of_eq (.rangingBurstAccept n k) _ s rfl (by simp [Instr.wellFormed, hn, hk])
      ((Dev.rangingAccept_of_awaited hx hst hl hkind ht ho hlr hs hr hwait).trans (if_neg (by simp [hc])))
  case confirming =>
    exact exec_next_of_eq (.rangingTimeAck n j bytes mic) _ s rfl (entry hj)
      ((Dev.rangingAck_of_awaited hok hg hwait hseq).trans (if_pos ho))
  case resumed =>
    exact exec_next_of_eq (.rangingTimeAck n j bytes mic) _ s rfl (entry hj)
      ((Dev.rangingAck_of_awaited hok hg hwait hseq).trans (if_neg ho))
  case again =>
    exact exec_next_of_eq (.rangingAckTimeout n j) _ s rfl (entry hj)
      ((Dev.ackTimeout_of_awaited hl hs hr hwait hq).trans (if_pos hlt))
  case lost =>
    exact exec_next_of_eq (.rangingAckTimeout n j) _ s rfl (entry hj)
      ((Dev.ackTimeout_of_awaited hl hs hr hwait hq).trans ((if_neg (Nat.not_lt.mpr hle)).trans (if_pos ho)))
  case drifts =>
    exact exec_next_of_eq (.rangingAckTimeout n j) _ s rfl (entry hj)
      ((Dev.ackTimeout_of_awaited hl hs hr hwait hq).trans ((if_neg (Nat.not_lt.mpr hle)).trans (if_neg ho)))
  case energy =>
    rw [exec_next_of_eq (.huntRoundEnd n) _ s rfl tree (Dev.huntNext_of_listening hl hs hh hlisten hc)]
    simp only [he, if_true]
  case silence =>
    rw [exec_next_of_eq (.huntRoundEnd n) _ s rfl tree (Dev.huntNext_of_listening hl hs hh hlisten hc)]
    simp only [he, Bool.false_eq_true, if_false]

end Sys2Proof.Machine
end

section
/-! The window as a command of one entry loads it: the selection, the index and the data read back, and the run of a
WRITE or RMW that its check takes (R39, R43). -/

namespace Sys2Proof.Machine

/-! ## An entry as words -/

/-- The words of an entry make up its low bits. -/
theorem wordsEntry_words (e n : Nat) :
    wordsEntry ((List.range n).map (fun k => e / 2 ^ (32 * k) % 2 ^ 32)) = e % 2 ^ (32 * n) := by
  induction n with
  | zero => simp [wordsEntry, Nat.mod_one]
  | succ n ih =>
    rw [wordsEntry] at ih ⊢
    rw [List.range_succ, List.map_append, List.zipIdx_append, List.foldl_append, ih, Nat.mul_succ, Nat.pow_add,
      Nat.mod_mul]
    simp [Nat.mul_comm]

/-- An entry of sixteen words is what its words make up. -/
theorem wordsEntry_entryWords {e : Nat} (h : e < 2 ^ 512) : wordsEntry (entryWords e) = e := by
  rw [entryWords, wordsEntry_words, show 32 * 16 = 512 from rfl, Nat.mod_eq_of_lt h]

/-! ## The data words -/

section Data
variable (d : Dev) (p : Page) (l : List Nat)

/-- TBL_DATA's words, each with its field. -/
def dataWrites (l : List Nat) : List (Fld × Nat) := l.zipIdx.map (fun x => (TBL_DATA.D x.2, x.1))

/-- Putting the data is a write of the fields that hold them. -/
theorem Dev.setTblData_eq_wrs : d.setTblData p l = d.wrs p (dataWrites l) := by
  rw [Dev.setTblData, Dev.wrs, dataWrites, List.foldl_map]

/-- The data words stand at distinct places. -/
theorem dataWrites_slots_nodup : ((dataWrites l).map (fun c => c.1.slot)).Nodup := by
  have slots : (dataWrites l).map (fun c => c.1.slot) = (List.range l.length).map (fun k => (TBL_DATA.D k).slot) := by
    rw [dataWrites, List.map_map, List.range_eq_range', ← List.zipIdx_map_snd 0 l, List.map_map]
    rfl
  rw [slots]
  refine List.nodup_range.map fun a b h => ?_
  simp only [Fld.slot, TBL_DATA.D] at h
  omega

/-- A field below the data words keeps its value. -/
theorem Dev.rd_setTblData_of_below {f : Fld} (h : f.slot < (TBL_DATA.D 0).slot) :
    (d.setTblData p l).rd p f = d.rd p f := by
  rw [Dev.setTblData_eq_wrs]
  refine d.rd_wrs_place p fun c hc => ?_
  obtain ⟨x, _, rfl⟩ := List.mem_map.mp hc
  simp only [Fld.slot, TBL_DATA.D] at h ⊢
  omega

/-- A data word reads as it was put. -/
theorem Dev.rd_setTblData {k : Nat} (h : k < l.length) : (d.setTblData p l).rd p (TBL_DATA.D k) = l[k] % 2 ^ 32 := by
  rw [Dev.setTblData_eq_wrs]
  refine d.rd_wrs_of_mem p _ (c := (TBL_DATA.D k, l[k])) (dataWrites_slots_nodup l) (List.mem_map.mpr ⟨(l[k], k), ?_, rfl⟩)
  exact List.mk_mem_zipIdx_iff_getElem?.mpr (List.getElem?_eq_getElem h)

/-- The data read as the entry whose words were put. -/
theorem Dev.tblData_setTblData {e : Nat} (h : e < 2 ^ 512) : (d.setTblData p (entryWords e)).tblData p = e := by
  have words : (List.range 16).map (fun k => (d.setTblData p (entryWords e)).rd p (TBL_DATA.D k)) = entryWords e := by
    refine List.map_congr_left fun k hk => ?_
    rw [d.rd_setTblData p _ (by simpa [entryWords] using List.mem_range.mp hk)]
    simp [entryWords]
  rw [Dev.tblData, words, wordsEntry_entryWords h]

end Data

/-! ## The window loaded and started -/

/-- The fields that the start of a command writes. -/
def startFields : List Fld := [TBL_CMD.ARG, TBL_CMD.OP, TBL_STAT.BUSY, TBL_STAT.DONE, TBL_STAT.OVERRUN]

section Started
variable (d : Dev) (p : Page) (sel i e op arg : Nat)

/-- Starting a command leaves every other field of the page. -/
theorem Dev.rd_tblStart_place {f : Fld} (h : ∀ g ∈ startFields, f.slot ≠ g.slot) :
    (d.tblStart p op arg).rd p f = d.rd p f :=
  d.rd_wrs_place p (by simpa [startFields] using h)

/-- Starting a command leaves the data. -/
theorem Dev.tblData_tblStart : (d.tblStart p op arg).tblData p = d.tblData p := by
  have data : ∀ k ∈ List.range 16, ∀ g ∈ startFields, (TBL_DATA.D k).slot ≠ g.slot := by decide
  rw [Dev.tblData, Dev.tblData, List.map_congr_left fun k hk => d.rd_tblStart_place p op arg (data k hk)]

/-- The table selected by a loaded window. -/
theorem Dev.rd_table_tblLoad (h : sel < 256) : (d.tblLoad p sel i e).rd p TBL_SEL.TABLE = sel := by
  rw [Dev.tblLoad, Dev.rd_setTblData_of_below _ _ _ (by decide),
    d.rd_wrs_of_mem p _ (c := (TBL_SEL.TABLE, sel)) (by simp [Fld.slot]) (by simp)]
  exact Nat.mod_eq_of_lt h

/-- The index of a loaded window. -/
theorem Dev.rd_index_tblLoad (h : i < 2 ^ 20) : (d.tblLoad p sel i e).rd p TBL_INDEX.INDEX = i := by
  rw [Dev.tblLoad, Dev.rd_setTblData_of_below _ _ _ (by decide),
    d.rd_wrs_of_mem p _ (c := (TBL_INDEX.INDEX, i)) (by simp [Fld.slot]) (by simp)]
  exact Nat.mod_eq_of_lt h

end Started

/-! ## A window write of one entry -/

/-- A page lists a table at the table's number. -/
theorem Tbl.tableAt_slot (t : Tbl) : t.page.tableAt t.slot = some t := by
  have listed : t ∈ t.page.tables := by cases t <;> simp [Tbl.page, Page.tables]
  have found : t.slot < t.page.tables.length := List.findIdx_lt_length_of_exists ⟨t, listed, beq_self_eq_true t⟩
  rw [Page.tableAt, List.getElem?_eq_getElem found]
  exact congrArg some (beq_iff_eq.mp (List.findIdx_getElem (p := (· == t)) (w := found)))

/-- A page has fewer tables than TBL_SEL can name outside its shadows. -/
theorem Tbl.slot_lt (t : Tbl) : t.slot < 128 := by
  have small : t.page.tables.length < 128 := by cases t <;> simp [Tbl.page, Page.tables]
  exact Nat.lt_of_le_of_lt List.findIdx_le_length small

section Send
variable (d : Dev) (func : Nat) (t : Tbl) (i e op arg : Nat)

/-- A started window that was loaded for a table selects it. -/
theorem Dev.tblPick_loaded : ((d.tblLoad t.page t.slot i e).tblStart t.page op arg).tblPick t.page = some (t, false) := by
  have selected : ((d.tblLoad t.page t.slot i e).tblStart t.page op arg).rd t.page TBL_SEL.TABLE = t.slot := by
    rw [Dev.rd_tblStart_place _ _ _ _ (by decide), Dev.rd_table_tblLoad _ _ _ _ _ (t.slot_lt.trans (by decide))]
  simp [Dev.tblPick, selected, t.slot_lt, t.tableAt_slot]

/-- A started window that was loaded for an entry has its index. -/
theorem Dev.rd_index_loaded (h : i < 2 ^ 20) :
    ((d.tblLoad t.page t.slot i e).tblStart t.page op arg).rd t.page TBL_INDEX.INDEX = i :=
  (Dev.rd_index_tblStart _ op arg).trans (Dev.rd_index_tblLoad d _ _ _ e h)

/-- A started window that was loaded for an entry holds the entry's image. -/
theorem Dev.tblData_loaded (h : e < 2 ^ 512) :
    ((d.tblLoad t.page t.slot i e).tblStart t.page op arg).tblData t.page = e := by
  rw [Dev.tblData_tblStart, Dev.tblLoad, Dev.tblData_setTblData _ _ h]

variable {d func t i e arg}

/-- A table whose images take effect at once and complete without a wait (R229, R254). -/
def Tbl.immediate (t : Tbl) : Prop := t ≠ .bpAccount ∧ t ≠ .clProfile

/-- An image that its check takes is in force at once, but in the tables of R229 and R254. -/
theorem Dev.tblPut_of_immediate (ht : t.immediate) (hc : d.imageCheck func t i e = 0) :
    d.tblPut func t i e = (TblCmd.ok, d.imageApply t i e) := by
  obtain ⟨account, profile⟩ := ht
  rw [Dev.tblPut_of_check d func hc, if_neg account, beq_eq_false_iff_ne.mpr profile]
  rfl

/-- On an idle window a WRITE of one entry loads it and puts the image in force. -/
theorem Dev.tblSend_write (hb : d.rd t.page TBL_STAT.BUSY = 0) (ht : t.immediate) (hi : i < 2 ^ 20)
    (hz : i < ((d.tblLoad t.page t.slot i e).tblStart t.page 2 0).tblSize t) (he : e < 2 ^ 512)
    (hc : ((d.tblLoad t.page t.slot i e).tblStart t.page 2 0).imageCheck func t i e = 0) :
    d.tblSend t.page t.slot i 2 0 e func =
      (((d.tblLoad t.page t.slot i e).tblStart t.page 2 0).imageApply t i e).tblKeep t.page TblCmd.ok := by
  have idle : ¬ d.on t.page TBL_STAT.BUSY = true := by simp [Dev.on, hb]
  have index := d.rd_index_loaded t i e 2 0 hi
  rw [Dev.tblSend, if_neg idle,
    Dev.tblRun_write _ func false (d.tblPick_loaded t i e 2 0) (index.symm ▸ hz), index, d.tblData_loaded t i e 2 0 he,
    Dev.tblPut_of_immediate ht hc]

/-- On an idle window an RMW of one entry loads it and puts in force the entry with the words that ARG enables. -/
theorem Dev.tblSend_rmw (hb : d.rd t.page TBL_STAT.BUSY = 0) (ht : t.immediate) (hi : i < 2 ^ 20)
    (hz : i < ((d.tblLoad t.page t.slot i e).tblStart t.page 3 arg).tblSize t) :
    let y := (d.tblLoad t.page t.slot i e).tblStart t.page 3 arg
    let image := rmwImage arg (y.viewEntry t i) (y.tblData t.page)
    y.imageCheck func t i image = 0 →
      d.tblSend t.page t.slot i 3 arg e func = (y.imageApply t i image).tblKeep t.page TblCmd.ok := by
  intro y image hc
  have idle : ¬ d.on t.page TBL_STAT.BUSY = true := by simp [Dev.on, hb]
  have index : y.rd t.page TBL_INDEX.INDEX = i := d.rd_index_loaded t i e 3 arg hi
  rw [Dev.tblSend, if_neg idle, Dev.tblRun_rmw y func (d.tblPick_loaded t i e 3 arg) (index.symm ▸ hz), index,
    Dev.tblPut_of_immediate ht hc]

end Send

/-- An accepted window write of one entry runs under the watch of its page. -/
theorem Dev.hostSend_accepts {d : Dev} {b : By} {p : Page} {sel i op arg e : Nat} {r : Dev}
    (ha : d.accepts b p TBL_CMD.OP 0 = true) (hr : d.tblSend p sel i op arg e b.func = r) :
    d.hostSend b p sel i op arg e = p.guarded (fun _ => r) d :=
  (d.hostF_accepts b p TBL_CMD.OP 0 _ ha).trans (p.guarded_congr hr)

end Sys2Proof.Machine
end

section
/-! The commands that are a window write of one entry (R176, R178, R216, R364, R367, R369). -/

namespace Sys2Proof.Machine

/-- The bound on the image of sixteen words, as the commands' operands state it. -/
theorem two_pow_512 : 2 ^ 512 = 13407807929942597099574024998205846127479365820592393377723561443721764030073546976801874298166903427690031858186486050853753882811946569946433649006084096 := by
  decide +kernel

/-- A command that gives one entry a value is well formed when it names a way, an entry and a value within bounds. -/
theorem entryValue_wellFormed {b : By} {i n v k : Nat} (hb : b.ok = true) (hi : i < n) (hv : v < k) :
    (b.ok && decide (i < n) && decide (v < k)) = true := by
  simp only [hb, hi, hv, decide_true, Bool.and_self]

/-- A command that names one entry is well formed when it names a way and an entry. -/
theorem entry_wellFormed {b : By} {i n : Nat} (hb : b.ok = true) (hi : i < n) : (b.ok && decide (i < n)) = true := by
  simp only [hb, hi, decide_true, Bool.and_self]

/-- Settles O21: the window loaded with an entry of the table is in range and holds the command's image, so the run puts
it in force; the commands of one field share their RMW. -/
theorem entryCommandsComplete : Obligations.EntryCommandsComplete := by
  intro s b hb w r free
  refine ⟨fun i e hi he hf hc => ?form, fun i e hi he hf hc => ?role, fun t i f v hf ht => ?field⟩
  case form =>
    obtain ⟨ha, hidle⟩ := hf
    have sent := Dev.tblSend_write (t := .bdGroup) hidle (by simp [Tbl.immediate]) (by omega) hi he hc
    exact exec_next_of_eq (.groupForm b i e) _ s rfl (entryValue_wellFormed hb hi (he.trans_eq two_pow_512))
      (Dev.hostSend_accepts ha sent)
  case role =>
    obtain ⟨ha, hidle⟩ := hf
    have sent := Dev.tblSend_write (t := .pxRole) hidle (by simp [Tbl.immediate]) (by omega) hi he hc
    exact exec_next_of_eq (.pxRoleWrite b i e) _ s rfl (entryValue_wellFormed hb hi (he.trans_eq two_pow_512))
      (Dev.hostSend_accepts ha sent)
  case field =>
    intro y e hc z
    obtain ⟨ha, hidle⟩ := hf
    have now : t.immediate := by rcases ht with ⟨rfl, _⟩ | ⟨rfl, _⟩ <;> simp [Tbl.immediate]
    have index : i < 2 ^ 20 := by omega
    have entry : i < y.tblSize t := by rcases ht with ⟨rfl, hi⟩ | ⟨rfl, hi⟩ <;> exact hi
    have sent : s.dev.sendField b t i f v = t.page.guarded (fun _ => (y.imageApply t i e).tblKeep t.page TblCmd.ok) s.dev :=
      Dev.hostSend_accepts ha (Dev.tblSend_rmw hidle now index entry hc)
    have group (h : t = .bdGroup) : i < 24 := by simpa [h] using ht
    have domain (h : t = .ckDomainCtrl) : i < 179 := by simpa [h] using ht
    refine ⟨?dissolve, ?lineMode, ?source, ?gate, ?ungate⟩
    case dissolve =>
      rintro rfl rfl rfl
      exact exec_next_of_eq (.groupDissolve b i) _ s rfl (entry_wellFormed hb (group rfl)) sent
    case lineMode =>
      rintro rfl rfl hv
      exact exec_next_of_eq (.groupLineMode b i v) _ s rfl (entryValue_wellFormed hb (group rfl) hv) sent
    case source =>
      rintro rfl rfl hv
      exact exec_next_of_eq (.sourceSwitch b i v) _ s rfl (entryValue_wellFormed hb (domain rfl) hv) sent
    case gate =>
      rintro rfl rfl rfl
      exact exec_next_of_eq (.gateRequest b i) _ s rfl (entry_wellFormed hb (domain rfl)) sent
    case ungate =>
      rintro rfl rfl rfl
      exact exec_next_of_eq (.ungate b i) _ s rfl (entry_wellFormed hb (domain rfl)) sent

end Sys2Proof.Machine
end

section
/-! The bonding unit's commands and events (R180–R192, Table BND–7). -/

namespace Sys2Proof.Machine

/-- The writes of a page's fields leave what the bonding unit holds of a member beside its entry. -/
@[simp] theorem Dev.mem_wrs (d : Dev) (p : Page) (l : List (Fld × Nat)) (g m : Nat) : (d.wrs p l).mem g m = d.mem g m :=
  d.wrs_keeps p l (Dev.mem · g m) fun _ _ _ _ => rfl

/-! ## BD_CMD (Table BND–7) -/

section BdCmd
variable (v op : Nat)

/-- Setting OP of BD_CMD leaves the group that the word names. -/
@[simp] theorem BD_CMD.group_get_op_set : BD_CMD.GROUP.get (BD_CMD.OP.set v op) = BD_CMD.GROUP.get v :=
  Fld.get_set_of_below (by decide) v op

/-- Setting OP of BD_CMD leaves the member slot that the word names. -/
@[simp] theorem BD_CMD.slot_get_op_set : BD_CMD.SLOT.get (BD_CMD.OP.set v op) = BD_CMD.SLOT.get v :=
  Fld.get_set_of_below (by decide) v op

/-- Setting OP of BD_CMD leaves the ONU that the word names. -/
@[simp] theorem BD_CMD.onu_get_op_set : BD_CMD.ONU.get (BD_CMD.OP.set v op) = BD_CMD.ONU.get v :=
  Fld.get_set_of_below (by decide) v op

variable {v op} (d : Dev) (hs : d.rd .bd BD_CMD.STAT ≠ 1) (hg : BD_CMD.GROUP.get v ≤ 23)
include hs hg

/-- DOWN (1) and RESTORE (2) of a member keep its transition for the next handover, or commit it at once where none
occurs (R114, R189). -/
theorem Dev.wBdCmd_of_member (ho : op = 1 ∨ op = 2) (hm : BD_CMD.SLOT.get v < d.grpSize (BD_CMD.GROUP.get v)) :
    d.wBdCmd (BD_CMD.OP.set v op) =
      let g := BD_CMD.GROUP.get v
      let m := BD_CMD.SLOT.get v
      let d0 := d.wrs .bd [(BD_CMD.OP, op), (BD_CMD.GROUP, g), (BD_CMD.SLOT, m), (BD_CMD.ONU, BD_CMD.ONU.get v)]
      ((d0.wr .bd BD_CMD.STAT 1).setMem g m
        { d.mem g m with trans := some (if op = 1 then (1, 4) else (2, 0)) }).memberNow g := by
  have issued : BD_CMD.OP.get (BD_CMD.OP.set v op) = op := by
    rw [Fld.get_set]; exact Nat.mod_eq_of_lt (by rcases ho with rfl | rfl <;> decide)
  have taken : ¬ (op = 0 ∨ 3 < op ∨ 23 < BD_CMD.GROUP.get v ∨ d.grpSize (BD_CMD.GROUP.get v) = 0 ∨
      (op ≠ 3 ∧ d.grpSize (BD_CMD.GROUP.get v) ≤ BD_CMD.SLOT.get v)) := by omega
  have member : op ≠ 3 := by omega
  simp only [Dev.wBdCmd, issued, BD_CMD.group_get_op_set, BD_CMD.slot_get_op_set, BD_CMD.onu_get_op_set, if_neg hs,
    if_neg taken, if_neg member, Dev.mem_wrs]

/-- REMEASURE (3) adds a probe of every member in service but the acting lead, at once (R185). -/
theorem Dev.wBdCmd_of_remeasure (hz : d.grpSize (BD_CMD.GROUP.get v) ≠ 0) :
    d.wBdCmd (BD_CMD.OP.set v 3) =
      let g := BD_CMD.GROUP.get v
      let j := BD_CMD.ONU.get v
      let d0 := d.wrs .bd [(BD_CMD.OP, 3), (BD_CMD.GROUP, g), (BD_CMD.SLOT, BD_CMD.SLOT.get v), (BD_CMD.ONU, j)]
      ((d0.members g).filter (fun k => k != d0.lead k && d0.inService k)).foldl
        (fun (x : Dev) k => x.probeAdd g (k - 2 * g) j) (d0.wr .bd BD_CMD.STAT 0) := by
  have issued : BD_CMD.OP.get (BD_CMD.OP.set v 3) = 3 := Fld.get_set BD_CMD.OP v 3
  have taken : ¬ (3 = 0 ∨ 3 < 3 ∨ 23 < BD_CMD.GROUP.get v ∨ d.grpSize (BD_CMD.GROUP.get v) = 0 ∨
      (3 ≠ 3 ∧ d.grpSize (BD_CMD.GROUP.get v) ≤ BD_CMD.SLOT.get v)) := by omega
  simp only [Dev.wBdCmd, issued, BD_CMD.group_get_op_set, BD_CMD.slot_get_op_set, BD_CMD.onu_get_op_set, if_neg hs,
    if_neg taken, if_true]

end BdCmd

/-! ## Events -/

section Events
variable {d : Dev} {g : Nat}

/-- A member that is DOWN for cause 3 or 6 is restored when its time is over (Table BND–2). -/
theorem Dev.restoreDue_of_cause {m : Nat} (hm : m < d.grpSize g) (hd : d.memberState g m = 1)
    (hc : d.memberCause g m = 3 ∨ d.memberCause g m = 6) :
    d.restoreDue g m = (d.setMem g m { d.mem g m with trans := some (2, 0) }).memberNow g := by
  have notByCommand : d.memberCause g m ≠ 4 := by omega
  exact if_pos ⟨hm, hd, notByCommand, hc.imp_right Or.inl⟩

/-- The first waiting packet of a group is cut while the bonding unit is on (R181). -/
theorem Dev.distribute_of_cons {c : CutPkt} {t : List CutPkt} (hq : d.path.cx.cut.get [] g = c :: t)
    (hb : d.enabled .bd = true) :
    d.distribute g = Dev.cutOut (c.frame.payload.length + 1) (d.setCut g t) g c := by
  simp only [Dev.distribute, hq, hb, if_true]

/-- The first recovered fragment of a group joins the reorder store while the bonding unit is on (R188). -/
theorem Dev.fragTake_of_cons {f : BdFrag} {t : List BdFrag} (hq : (d.bd g).inq = f :: t) (hb : d.enabled .bd = true) :
    d.fragTake g = (d.setBd g { d.bd g with inq := t }).fragReceive g f := by
  simp only [Dev.fragTake, hq, hb, if_true]

/-- While a member is DOWN the degraded template is sent with its number, and the cleared one is owed as before (R192). -/
theorem Dev.oamSend_of_degraded (hb : d.enabled .bd = true) (he : d.rdT .bdGroup g BD_GROUP.OAM_EN ≠ 0)
    (hz : d.grpSize g ≠ 0) (hd : d.anyDown g = true) (hl : d.rdT .bdGroup g BD_GROUP.OAM_LEN_DEG ≠ 0) :
    d.oamSend g =
      let a : Admit :=
        { rt := 0, first := .template g, second := none, bytes := d.oamBytes g 0 (d.rdT .bdGroup g BD_GROUP.OAM_LEN_DEG),
          ts := none, source := 0, req := none, tx := none }
      let d1 := d.setBd g { d.bd g with oamSeq := (d.bd g).oamSeq + 1 }
      (d1.setBp { d1.path.bp with inq := d1.path.bp.inq ++ [a] }).cnt .bdCnt (g * 16 + 12) := by
  have due : (d.enabled .bd && d.onT .bdGroup g BD_GROUP.OAM_EN && d.grpSize g != 0 &&
      d.rdT .bdGroup g BD_GROUP.OAM_LEN_DEG != 0) = true := by simp [Dev.onT, hb, he, hz, hl]
  simp only [Dev.oamSend, hd, if_true, due, Bool.true_or, Bool.and_self]

end Events

/-- Settles O53: each clause names what decides the guards of its command's meaning; DOWN and RESTORE share one rule. -/
theorem bondingComplete : Obligations.BondingComplete := by
  rintro s _ rfl
  refine ⟨fun b v hw hs => ?command,
    fun g m hw hm hd hc => ?restored, fun g c t hg hq hb => ?cut, fun g f t hg hq hb => ?ordered,
    fun g a hw hb => ?lost, fun g hg hb he hz hd hl => ?template⟩
  case command =>
    intro g m j ok d0 hg hz
    refine ⟨fun hm ha => ?down, fun hm ha => ?restore, fun ha => ?remeasure⟩
    case down =>
      rw [exec_next_after_hostF (.memberDown b v) s rfl hw ha, Dev.wBdCmd_of_member _ hs hg (.inl rfl) hm]
      rfl
    case restore =>
      rw [exec_next_after_hostF (.memberRestore b v) s rfl hw ha, Dev.wBdCmd_of_member _ hs hg (.inr rfl) hm]
      rfl
    case remeasure =>
      rw [exec_next_after_hostF (.skewRemeasure b v) s rfl hw ha, Dev.wBdCmd_of_remeasure _ hs hg hz]
  case restored => exact exec_next_of_eq (.memberRestoreTimeout g m) _ s rfl hw (Dev.restoreDue_of_cause hm hd hc)
  case cut =>
    exact exec_next_of_eq (.dsFragmentDistribute g) _ s rfl (decide_eq_true hg) (Dev.distribute_of_cons hq hb)
  case ordered => exact exec_next_of_eq (.usFragmentReceive g) _ s rfl (decide_eq_true hg) (Dev.fragTake_of_cons hq hb)
  case lost => exact exec_next_of_eq (.fragmentWaitTimeout g a) _ s rfl hw (if_pos hb)
  case template =>
    exact exec_next_of_eq (.oamTemplateSend g) _ s rfl (decide_eq_true hg) (Dev.oamSend_of_degraded hb he hz hd hl)

end Sys2Proof.Machine
end

section
/-! The Aztil links and the hold lines: the cells that leave and arrive, the records and messages that they carry, and what
the hold lines show (R197–R203, R208, R209, R216, R218). -/

namespace Sys2Proof.Machine

/-- Under the watch on every tree only what the effect makes of the device at hand counts. -/
theorem Dev.watchAll_congr {f g : Dev → Dev} {d : Dev} (h : f d = g d) : d.watchAll f = d.watchAll g := by
  simp only [Dev.watchAll, Dev.watch, h]

/-- A well-formed command that runs under the watch answers the state after that watch on what its effect makes of the
device. -/
theorem exec_next_of_watched (c : Instr) (f : Dev → Dev) (s : State) (hx : exec c s = s.run c (Dev.watchAll f))
    (hw : c.wellFormed = true) {g : Dev → Dev} (he : f s.dev = g s.dev) :
    exec c s = .next (s.after (s.dev.watchAll g)) :=
  exec_next_of_eq c _ s hx hw (Dev.watchAll_congr he)

/-- What was listed last for a key replaces what was listed before. -/
theorem Store.ins_ins {α : Type} (st : Store α) (q : Nat) (v w : α) : (st.ins q v).ins q w = st.ins q w := by
  induction st with
  | nil => simp [Store.ins]
  | cons e t ih =>
    obtain ⟨k, x⟩ := e
    by_cases below : q < k
    · simp [Store.ins, below]
    · by_cases here : q = k
      · simp [Store.ins, here]
      · simp [Store.ins, below, here, ih]

section Links
variable {d : Dev} {k : Nat}

/-- A link reads as it was set. -/
@[simp] theorem Dev.lnk_setLnk (d : Dev) (k : Nat) (l : PxLink) : (d.setLnk k l).lnk k = l := Store.get_put_same _ _ _ _

/-- Of two settings of a link the last counts, where neither is a link's state after reset. -/
theorem Dev.setLnk_setLnk {l m : PxLink} (hl : l ≠ PxLink.init) (hm : m ≠ PxLink.init) :
    (d.setLnk k l).setLnk k m = d.setLnk k m := by
  simp only [Dev.setLnk, Store.put, if_neg hl, if_neg hm, Store.ins_ins]

/-! ## The hold lines and silence (R197, R201, R218) -/

/-- Indications that still disagree on an enabled link raise the fault and report it (R218). -/
theorem Dev.holdFault_of_differs (he : d.rd (.pxl k) PX_PEER_CFG.EN ≠ 0) (hd : d.holdDiffers k = true) :
    d.holdFault k = (d.raise (.pxl k) 2).report 49 k := by
  simp [Dev.holdFault, Dev.on, he, hd]

/-- An enabled link that was heard until now becomes silent: shown, counted, raised (R201). -/
theorem Dev.silence_of_heard (he : d.rd (.pxl k) PX_PEER_CFG.EN ≠ 0) (hs : d.linkSilent k = false) :
    d.silence k = (((d.wr (.pxl k) PX_LINK_STAT.SILENT 1).cnt (.pxLinkCnt k) 4).raise (.pxl k) 1).pxEval k := by
  simp [Dev.silence, Dev.on, he, hs]

/-! ## The TIME cell that leaves (R202, R203) -/

/-- On a free link a TIME cell leaves before the messages, with no PROTECTION cell and no record ahead of it (R202). -/
theorem Dev.cellRun_of_timeDue (hf : d.cellFree k = true) (hp : (d.lnk k).protDue = false) (hm : (d.lnk k).mirQ = [])
    (ht : (d.lnk k).timeDue = true) :
    d.cellRun k =
      let l := d.lnk k
      let at_ := max l.busyTo (d.now * 100)
      d.cellSend k at_ { l.count 4 with timeDue := false } 4 (l.lone 4 (d.timeBytes k at_)) := by
  simp [Dev.cellRun, Dev.cellPick, hf, hp, hm, ht]

/-! ## Cells that arrive (Table PRT–2) -/

/-- The last cell of several arrives after the others. -/
theorem Dev.cellsIn_concat (d : Dev) (k : Nat) (cells : List (Nat × List Byte)) (h : Nat) (payload : List Byte) :
    Dev.cellsIn k (cells ++ [(h, payload)]) d = (Dev.cellsIn k cells d).cellIn k h payload := by
  simp [Dev.cellsIn]

section Arrival
variable {h : Nat} {payload : List Byte} {e : Dev} (hh : d.cellHead k h = (true, e))
include hh

/-- A PROTECTION cell that the link takes. -/
theorem Dev.cellIn_of_protection (ht : bitsAt h 60 4 = 1) :
    d.cellIn k h payload = e.cellTake k (payload.take (bitsAt h 32 8)) := by
  simp [Dev.cellIn, hh, ht]

/-- A MIRROR cell that the link takes. -/
theorem Dev.cellIn_of_mirror (ht : bitsAt h 60 4 = 2) : d.cellIn k h payload =
    e.mirrorCell k (hasBit h 59) (hasBit h 58) (bitsAt h 40 16) (bitsAt h 16 16) (payload.take (bitsAt h 32 8)) := by
  simp [Dev.cellIn, hh, ht]

/-- A MESSAGE cell that the link takes. -/
theorem Dev.cellIn_of_message (ht : bitsAt h 60 4 = 3) : d.cellIn k h payload =
    e.msgCell k (hasBit h 59) (hasBit h 58) (bitsAt h 40 16) (payload.take (bitsAt h 32 8)) := by
  simp [Dev.cellIn, hh, ht]

/-- A TIME cell that the link takes. -/
theorem Dev.cellIn_of_time (ht : bitsAt h 60 4 = 4) :
    d.cellIn k h payload = e.timeTake k (payload.take (bitsAt h 32 8)) := by
  simp [Dev.cellIn, hh, ht]

end Arrival

/-! ## Gathering (R201, R209, R216) -/

section Gathering
variable {first : Bool} {seq stream tag : Nat} {b whole : List Byte}

/-- A first cell with nothing half received begins what it carries; a cell in its order continues it. -/
theorem cellJoin_of_inOrder {part : Option (Nat × List Byte)} {next : Option Nat} {begun : Nat}
    (h : (first = true ∧ part = none ∧ tag = begun ∧ whole = b) ∨
      (first = false ∧ next = some seq ∧ ∃ l, part = some (tag, l) ∧ whole = l ++ b)) :
    cellJoin part next first seq begun b = ⟨none, some (tag, whole), false⟩ := by
  rcases h with ⟨rfl, rfl, rfl, rfl⟩ | ⟨rfl, rfl, l, rfl, rfl⟩
  · rfl
  · simp [cellJoin]

section Record
variable (hj : cellJoin (d.lnk k).mirPart (d.lnk k).mirSeq first seq stream b = ⟨none, some (tag, whole), false⟩)
include hj

/-- A record that the last cell completes and that is not whole, or whose CRC does not fit, ends as bad (R209). -/
theorem Dev.mirrorCell_of_bad (hr : MirrorRec.ofBytes whole = none) :
    d.mirrorCell k first true seq stream b =
      (d.setLnk k { d.lnk k with mirSeq := some ((seq + 1) % 65536), mirPart := none }).mirrorBad k tag := by
  simp [Dev.mirrorCell, hj, hr]

/-- A record that the last cell completes and whose CRC fits reaches the standby (R209). -/
theorem Dev.mirrorCell_of_record {r : MirrorRec} (hr : MirrorRec.ofBytes whole = some r) :
    d.mirrorCell k first true seq stream b =
      (d.setLnk k { d.lnk k with mirSeq := some ((seq + 1) % 65536), mirPart := none }).mirrorIn k r := by
  simp [Dev.mirrorCell, hj, hr]

end Record

/-- The next record of a tree without further members completes its cycle, which is applied (R208, R209). -/
theorem Dev.mirrorIn_of_alone {r : MirrorRec} {n prev : Nat} (ht : d.mirrorTree k r.tree = some n)
    (hp : r.tree = d.rdT .pxRole n PX_ROLE.PEER_TREE) (hm : d.mates n = [n]) (hg : (d.px n).gathered = [])
    (hl : (d.px n).late ≠ some r.sfc) (hs : (d.px n).lastSfc = some prev) (hn : r.sfc = (prev + 1) % 2 ^ 51) :
    d.mirrorIn k r = (d.setPx n { d.px n with gathered := [(0, some r)] }).mirrorApply n [(n, r)] := by
  have consecutive : ((d.px n).lastSfc.any fun s => r.sfc != (s + 1) % 2 ^ 51) = false := by simp [hs, hn]
  have due : ((d.px n).dueSfc.any (· != r.sfc)) = false := by simp [PxTree.dueSfc, hg, hs, hn]
  simp only [Dev.mirrorIn, ht, if_neg hl, consecutive, due, ← hp, hg, hm, Bool.false_eq_true, if_false, Nat.sub_self,
    Store.ins, List.length_cons, List.length_nil, Nat.lt_irrefl, List.filterMap_cons, Option.map_some, Nat.add_zero,
    List.filterMap_nil]

/-- A message that the last cell completes is held for the host and counted, and goes on where there is room (R216). -/
theorem Dev.msgCell_of_message
    (hj : cellJoin (d.lnk k).msgPart (d.lnk k).msgSeq first seq seq b = ⟨none, some (tag, whole), false⟩) :
    d.msgCell k first true seq b =
      let l := { d.lnk k with msgSeq := some ((seq + 1) % 65536), msgPart := none }
      let m : RxMsg :=
        { cls := 6, reason := 0, source := k, ts := none, epoch := bytesAt whole 0 2, bytes := whole.drop 2 }
      ((d.setLnk k { l with heldRx := l.heldRx ++ [(tag, m)] }).cnt (.pxLinkCnt k) 9).rxRetry 0 := by
  have begun {l : PxLink} {i : Nat} (h : l.msgSeq = some i) : l ≠ PxLink.init := by rintro rfl; cases h
  simp only [Dev.msgCell, hj, if_true, Dev.msgTake, Dev.lnk_setLnk]
  rw [Dev.setLnk_setLnk (begun rfl) (begun rfl)]

end Gathering

/-- An acknowledged message completes its descriptor and is awaited no longer (R216). -/
theorem Dev.msgAck_of_unacked {id : Nat} {m : AzMsg} (dropped : Bool)
    (h : (d.lnk k).unacked.find? (fun x => x.id == id) = some m) :
    d.msgAck k id dropped =
      (d.setLnk k { d.lnk k with unacked := (d.lnk k).unacked.erase m }).txComplete 0 m.ring m.idx
        (if dropped then 10 else 0) 0 (d.rd (.pxl k) PX_LINK_STAT.PEER_EPOCH) := by
  simp only [Dev.msgAck, h]

end Links

/-- Settles O54: every command runs its meaning; a cell that is taken goes by its type, and the cell that ends a record or
message in order hands over what was gathered. -/
theorem protectionLinksComplete : Obligations.ProtectionLinksComplete := by
  rintro s _ k rfl hk
  have link : decide (k < 2) = true := decide_eq_true hk
  refine ⟨fun agree => ⟨?quiet, ?toggles⟩, ?gap0, ?gap1, fun he hd => ?fault, ?send, fun h payload e hw hh ht => ?receive,
    fun he hs => ?silent, fun ho => ⟨?timeDue, fun hf hp hm => ?timeLeaves⟩, fun h payload e hw hh ht => ?time,
    fun cells h payload e tag whole hw hh ht hlast => ?record,
    fun cells h payload e tag whole hw hh ht hlast => ?message, fun m dropped hid hm => ?ack⟩
  case quiet => exact exec_next_of_eq (.holdGapDetect k true agree) _ s rfl link rfl
  case toggles => exact exec_next_of_eq (.holdGapDetect k false agree) _ s rfl link rfl
  case gap0 => exact exec_next_of_eq (.holdGapEnd 0) _ s rfl rfl rfl
  case gap1 => exact exec_next_of_eq (.holdGapEnd 1) _ s rfl rfl rfl
  case fault => exact exec_next_of_eq (.holdFault k) _ s rfl link (Dev.holdFault_of_differs he hd)
  case send => exact exec_next_of_watched (.protectionCellSend k) _ s rfl link rfl
  case receive =>
    exact exec_next_of_watched (.protectionCellReceive k h payload) _ s rfl hw (Dev.cellIn_of_protection hh ht)
  case silent => exact exec_next_of_watched (.linkSilent k) _ s rfl link (Dev.silence_of_heard he hs)
  case timeDue => exact exec_next_of_eq (.timeCellSend k) _ s rfl link (if_pos ho)
  case timeLeaves =>
    have due : ((s.dev.setLnk k { s.dev.lnk k with timeDue := true }).lnk k).timeDue = true := by rw [Dev.lnk_setLnk]
    exact exec_next_of_eq (.timeCellSend k) _ s rfl link ((if_pos ho).trans (Dev.cellRun_of_timeDue hf hp hm due))
  case time =>
    intro b d1
    have taken := Dev.cellIn_of_time (payload := payload) hh ht
    exact ⟨fun hb => exec_next_of_watched (.timeCellReceive k h payload) _ s rfl hw (taken.trans (if_pos hb)),
      fun hb => exec_next_of_watched (.timeCellReceive k h payload) _ s rfl hw (taken.trans (if_neg (Nat.not_lt.mpr hb)))⟩
  case record =>
    intro b hj d1
    have taken : Dev.cellsIn k (cells ++ [(h, payload)]) s.dev =
        e.mirrorCell k (hasBit h 59) true (bitsAt h 40 16) (bitsAt h 16 16) b := by
      rw [Dev.cellsIn_concat, Dev.cellIn_of_mirror hh ht, hlast]
    refine ⟨fun hr => ?bad, fun r n prev hr hn hp hm hg hl hs hc => ?applied⟩
    case bad =>
      exact exec_next_of_watched (.mirrorRecordApply k _) _ s rfl hw
        (taken.trans (Dev.mirrorCell_of_bad (cellJoin_of_inOrder hj) hr))
    case applied =>
      exact exec_next_of_watched (.mirrorRecordApply k _) _ s rfl hw
        ((taken.trans (Dev.mirrorCell_of_record (cellJoin_of_inOrder hj) hr)).trans
          (Dev.mirrorIn_of_alone hn hp hm hg hl hs hc))
  case message =>
    intro b hj l m
    have taken : Dev.cellsIn k (cells ++ [(h, payload)]) s.dev =
        e.msgCell k (hasBit h 59) true (bitsAt h 40 16) b := by
      rw [Dev.cellsIn_concat, Dev.cellIn_of_message hh ht, hlast]
    exact exec_next_of_watched (.aztilMessageReceive k _) _ s rfl hw
      (taken.trans (Dev.msgCell_of_message (cellJoin_of_inOrder hj)))
  case ack =>
    have named : (decide (k < 2) && decide (m.id < 65536)) = true := by simp only [hk, hid, decide_true, Bool.and_self]
    exact exec_next_of_eq (.aztilMessageAck k m.id dropped) _ s rfl named (Dev.msgAck_of_unacked dropped hm)

end Sys2Proof.Machine
end

section
/-! Protected trees: the mirror deadline, acquisition's time, requests, the exercise, the wait to restore and the start into
silence (R196, R209, R211, R214, R215, Table PRT–6). -/

namespace Sys2Proof.Machine

section Trees
variable {d : Dev} {n : Nat}

/-! ## The mirror deadline and acquisition (R209, R211) -/

/-- At the deadline a standby's records were applied, or are due and discarded, or are not known (R209). -/
theorem Dev.mirrorDeadline_of_standby (hg : n = d.groupPort n) (hp : d.isProtected n = true) (h3 : 3 ≤ d.pxState n)
    (h5 : d.pxState n ≤ 5) : d.mirrorDeadline n =
    if (d.px n).applied then d.setPx n { d.px n with applied := false, late := (d.px n).lastSfc }
    else if (d.px n).dueSfc.isSome then d.mirrorDrop n (d.px n).dueSfc
    else d.setPx n { d.px n with
      late := if d.onT .pxRole n PX_ROLE.ACQ then some (d.sfc (d.lead n))
        else (d.px n).late.map (fun s => (s + 1) % 2 ^ 51) } := by
  have standby : ¬ (n ≠ d.groupPort n ∨ (!d.isProtected n) = true ∨ d.pxState n < 3 ∨ 5 < d.pxState n) := by
    simp only [hp, Bool.not_true, Bool.false_eq_true, false_or]; omega
  exact if_neg standby

/-- Acquisition fails when its frames are over before sixteen bursts were accepted (R211). -/
theorem Dev.acqTimeout_of_over (hg : n = d.groupPort n) (ha : d.acquiring n = true) (hw : (d.px n).acqWait = 0)
    (hn : (d.px n).acqN < 16) (hf : 1024 ≤ (d.px n).acqFrames) : d.acqTimeout n = d.acqFail n :=
  if_pos ⟨hg, ha, hw, hn, hf⟩

/-! ## Requests (R214, R215) -/

/-- Setting OP of PX_REQ leaves the tree that the word names. -/
@[simp] theorem PX_REQ.tree_get_op_set (v op : Nat) : PX_REQ.TREE.get (PX_REQ.OP.set v op) = PX_REQ.TREE.get v :=
  Fld.get_set_of_below (by decide) v op

/-- A request for a protected tree is shown as pending and becomes the tree's local request (R214). -/
theorem Dev.wPxReq_of_protected {v op : Nat} (ho : op < 5) (hn : PX_REQ.TREE.get v < 48)
    (hm : d.rdT .pxRole (PX_REQ.TREE.get v) PX_ROLE.MODE = 1) :
    d.wPxReq (PX_REQ.OP.set v op) =
      let n := PX_REQ.TREE.get v
      ((d.wrs .px0 [(PX_REQ.OP, op), (PX_REQ.TREE, n)]).wr .px0 PX_REQ.STAT 1).wrT .pxRole n PX_ROLE.REQ_LOCAL op := by
  have issued : PX_REQ.OP.get (PX_REQ.OP.set v op) = op := by
    rw [Fld.get_set]; exact Nat.mod_eq_of_lt (ho.trans (by decide))
  have taken : ¬ (5 ≤ op ∨ 48 ≤ PX_REQ.TREE.get v ∨ d.rdT .pxRole (PX_REQ.TREE.get v) PX_ROLE.MODE ≠ 1) := by omega
  simp only [Dev.wPxReq, issued, PX_REQ.tree_get_op_set, if_neg taken]

/-- Every request command writes its own OP, with one outcome for a protected tree. -/
theorem exec_pxReq_of_protected (c : Instr) (s : State) {b : By} {v op : Nat}
    (hx : exec c s = s.run c (Dev.pxReq b v op)) (hw : c.wellFormed = true) (ho : op < 5)
    (ha : s.dev.accepts b .px0 PX_REQ.OP (PX_REQ.OP.set v op) = true) (hn : PX_REQ.TREE.get v < 48)
    (hm : s.dev.rdT .pxRole (PX_REQ.TREE.get v) PX_ROLE.MODE = 1) :
    exec c s = .next (s.after
      (((s.dev.wrs .px0 [(PX_REQ.OP, op), (PX_REQ.TREE, PX_REQ.TREE.get v)]).wr .px0 PX_REQ.STAT 1).wrT .pxRole
        (PX_REQ.TREE.get v) PX_ROLE.REQ_LOCAL op)) :=
  (exec_next_after_hostF c s hx hw ha).trans
    (congrArg (fun d => Host.Outcome.next (s.after d)) (Dev.wPxReq_of_protected ho hn hm))

/-- The wait to restore ends where no FORCED and no MANUAL is in effect: REVERT_REQ is sent (R214, R215). -/
theorem Dev.wtrOver_of_free (hs : d.pxState n = 5) (hw : d.rdT .pxRole n PX_ROLE.WTR_S ≠ 0)
    (hr : (d.px n).reverting = false) (h2 : d.rdT .pxRole n PX_ROLE.REQ_EFF ≠ 2)
    (h3 : d.rdT .pxRole n PX_ROLE.REQ_EFF ≠ 3) :
    d.wtrOver n = ((d.setPx n { d.px n with reverting := true }).wrT .pxRole n PX_ROLE.CAUSE 7).pxTell n :=
  if_pos ⟨hs, bne_iff_ne.mpr hw, congrArg (!·) hr, h2, h3⟩

/-! ## A start into silence (R196, Table PRT–6) -/

/-- A non-home in INIT that finds both indications by silence takes the tree (Table PRT–6). -/
theorem Dev.startLate_of_silent (hg : n = d.groupPort n) (hp : d.isProtected n = true) (hs : d.pxState n = 1)
    (hh : d.isHome n = false) (hl : d.linkSilent (d.pxLink n) = true) (hm : d.mayTake n = true) :
    d.startLate n = d.pxTake n 3 :=
  if_pos ⟨hp, hg, hs, congrArg (!·) hh, hl, hm⟩

end Trees

/-- Settles O55: each clause names what decides the guards of its command's meaning; the five requests share one rule. -/
theorem protectionTreesComplete : Obligations.ProtectionTreesComplete := by
  rintro s _ rfl
  refine ⟨fun n hn hg hp h3 h5 => ?deadline, fun n hn hg ha hw hb hf => ?acquisition, fun b v hw => ?request,
    fun n hn he => ?exercise, fun n hn hs hw hr h2 h3 => ?restore, fun n hn hg hp hs hh hl hm => ?start⟩
  case deadline =>
    have standby := Dev.mirrorDeadline_of_standby hg hp h3 h5
    refine ⟨fun ha hd => ?missed, fun ha => ?met⟩
    case missed =>
      have late : ¬ (s.dev.px n).applied = true := by simp [ha]
      exact exec_next_of_eq (.mirrorDeadline n) _ s rfl (decide_eq_true hn)
        (standby.trans ((if_neg late).trans (if_pos hd)))
    case met => exact exec_next_of_eq (.mirrorDeadline n) _ s rfl (decide_eq_true hn) (standby.trans (if_pos ha))
  case acquisition =>
    exact exec_next_of_eq (.acquisitionTimeout n) _ s rfl (decide_eq_true hn) (Dev.acqTimeout_of_over hg ha hw hb hf)
  case request =>
    intro n ok asked hn hm
    exact ⟨fun ha => exec_pxReq_of_protected (.reqClear b v) s rfl hw (by decide) ha hn hm,
      fun ha => exec_pxReq_of_protected (.reqLockout b v) s rfl hw (by decide) ha hn hm,
      fun ha => exec_pxReq_of_protected (.reqForced b v) s rfl hw (by decide) ha hn hm,
      fun ha => exec_pxReq_of_protected (.reqManual b v) s rfl hw (by decide) ha hn hm,
      fun ha => exec_pxReq_of_protected (.reqExercise b v) s rfl hw (by decide) ha hn hm⟩
  case exercise =>
    intro d1
    exact ⟨fun h4 => exec_next_of_eq (.exerciseTimeout n) _ s rfl (decide_eq_true hn) ((if_pos he).trans (if_pos h4)),
      fun h4 => exec_next_of_eq (.exerciseTimeout n) _ s rfl (decide_eq_true hn) ((if_pos he).trans (if_neg h4))⟩
  case restore =>
    exact exec_next_of_eq (.wtrExpiry n) (Dev.wtrOver · n) s rfl (decide_eq_true hn) (Dev.wtrOver_of_free hs hw hr h2 h3)
  case start =>
    exact exec_next_of_watched (.startTimeout n) _ s rfl (decide_eq_true hn) (Dev.startLate_of_silent hg hp hs hh hl hm)

end Sys2Proof.Machine
end

section
/-! The classifier's commands: the next frame of a port under its downstream profile, a decrypted frame of a tree under its
flow's profile, and the match of a recovered XGEM frame to its flow (R219–R221). -/

namespace Sys2Proof.Machine

section Frames
variable {d : Dev} {bn bf : Option Nat} {n u p f : Nat} {x : ClIn} {y : UsXgem} {rest : List ClIn}

/-! ## Profiles (R219) -/

/-- A profile that is valid and not downstream's is one of upstream. -/
theorem Dev.profOk_upstream (hv : d.rdT .clProfile p CL_PROFILE.VALID ≠ 0) (hd : d.rdT .clProfile p CL_PROFILE.DIR ≠ 0) :
    d.profOk p true = true := by
  simp [Dev.profOk, Dev.onT, hv, hd]

/-- The next frame of a port is classified under the port's profile, where that is valid and downstream's. -/
theorem Dev.dsClassify_of_valid (ht : d.takes (.cl 0) = true)
    (hx : takeIn (fun y => !y.up && y.port == u) d.path.cl = some (x, rest))
    (hp : d.profOk (d.rdT .clPortProf u CL_PORT_PROF.PROFILE) false = true) : d.dsClassify u bn bf =
    ({ d with path := { d.path with cl := rest } } : Dev).classify
      { prof := d.rdT .clPortProf u CL_PORT_PROF.PROFILE, up := false,
        rt := d.rdT .clProfile (d.rdT .clPortProf u CL_PORT_PROF.PROFILE) CL_PROFILE.TENANT, inPort := u,
        bytes := x.bytes, ts := x.ts, badFlow := bf } bn := by
  simp only [Dev.dsClassify, ht, hx, hp, if_true]

/-- A decrypted frame of a tree is counted at its flow and classified under the flow's profile, where that is valid and
upstream's. -/
theorem Dev.usWalk_of_valid (hp : d.profOk (d.rdT .clFlow x.flow CL_FLOW.US_PROFILE) true = true) :
    d.usWalk n bn bf x =
    ((d.addT .clFlow x.flow CL_FLOW.US_PKTS).addT .clFlow x.flow CL_FLOW.US_BYTES x.bytes.length).classify
      { prof := d.rdT .clFlow x.flow CL_FLOW.US_PROFILE, up := true, rt := d.rdT .clFlow x.flow CL_FLOW.TENANT,
        inPort := 128 + n, bytes := x.bytes, ts := x.ts, badFlow := bf } bn :=
  if_pos hp

/-! ## Serving a tree (R219, R220) -/

/-- A tree's frame that came out of the cipher engine is served before the recovered ones. -/
theorem Dev.usClassify_of_decrypted (ht : d.takes (.cl 0) = true)
    (hx : takeIn (fun y => y.up && y.port == n) d.path.cl = some (x, rest)) :
    d.usClassify n bn bf = ({ d with path := { d.path with cl := rest } } : Dev).usWalk n bn bf x := by
  simp only [Dev.usClassify, ht, hx, Bool.not_true, Bool.false_eq_true, if_false]

/-- Where none came out of the cipher engine, the tree's next recovered frame is matched. -/
theorem Dev.usClassify_of_recovered {t : List UsXgem} (ht : d.takes (.cl 0) = true)
    (hx : takeIn (fun y => y.up && y.port == n) d.path.cl = none) (hu : d.path.cx.us.get [] n = y :: t) :
    d.usClassify n bn bf = (d.setCx { d.path.cx with us := d.path.cx.us.put [] n t }).usMatch n bf y := by
  simp only [Dev.usClassify, ht, hx, hu, Bool.not_true, Bool.false_eq_true, if_false]

/-- A recovered frame of its flow's own ONU waits for decryption with that flow. -/
theorem Dev.usMatch_of_own (hf : d.usFlow n y.port = some f) (hb : bf ≠ some f)
    (ho : d.rdT .clFlow f CL_FLOW.ONU = y.onu) : d.usMatch n bf y =
    d.setCx { d.path.cx with dec := d.path.cx.dec.put [] n (d.path.cx.dec.get [] n ++ [(f, y)]) } := by
  simp only [Dev.usMatch, hf, hb, ho, ne_eq, not_true_eq_false, if_false]

end Frames

/-- Settles O32: each clause's premises leave one path open through its command's meaning; taking the frame out of its
queue changes neither the tables, by which its profile or its flow is found, nor the tree's queue for decryption. -/
theorem classifierComplete : Obligations.ClassifierComplete := by
  rintro s _ bn bf rfl takes
  refine ⟨fun u x rest p hu hx hp hv => ?downstream, fun n x rest p hn hx hp hv hd => ?decrypted,
    fun n x rest f hn hx hr hf hb ho => ?recovered⟩
  case downstream =>
    subst hp
    exact exec_next_of_eq (.dsFrameClassify u bn bf) _ s rfl (decide_eq_true hu) (Dev.dsClassify_of_valid takes hx hv)
  case decrypted =>
    subst hp
    exact exec_next_of_eq (.usFrameClassify n bn bf) _ s rfl (decide_eq_true hn)
      ((Dev.usClassify_of_decrypted takes hx).trans (Dev.usWalk_of_valid (Dev.profOk_upstream hv hd)))
  case recovered =>
    exact exec_next_of_eq (.usFrameClassify n bn bf) _ s rfl (decide_eq_true hn)
      ((Dev.usClassify_of_recovered takes hx hr).trans (Dev.usMatch_of_own hf hb ho))

end Sys2Proof.Machine
end

section
/-! Performance events and reports: what they leave as it was (R305, R410, R438). -/

namespace Sys2Proof.Machine

section Events
variable (d : Dev)

/-- What setting a counter keeps, a performance event keeps. -/
theorem Dev.pm_keeps {α : Type} (P : Dev → α) (h : ∀ (e : Dev) (c v : Nat), P (e.pmSet c v) = P e)
    (event inst k : Nat) : P (d.pm event inst k) = P d := by
  suffices ∀ (l : List Nat) (e : Dev), P (l.foldl (fun e c =>
      if e.rdT .pmSel c PM_SEL.INSTANCE = inst then e.pmSet c (e.pmCount c + k) else e) e) = P e from this _ d
  intro l
  induction l with
  | nil => exact fun _ => rfl
  | cons c l ih =>
    intro e
    rw [List.foldl_cons, ih]
    split
    · exact h _ _ _
    · rfl

/-- A performance event leaves the tables. -/
@[simp] theorem Dev.pm_tbls (event inst k : Nat) : (d.pm event inst k).tbls = d.tbls :=
  d.pm_keeps Dev.tbls (fun _ _ _ => rfl) event inst k

/-- A performance event leaves the registers of a page below the counters' pages. -/
theorem Dev.rd_pm {p : Page} {f : Fld} (hf : f ∈ p.fields) (hp : p.num < 0xe01) (event inst k : Nat) :
    (d.pm event inst k).rd p f = d.rd p f := by
  refine d.pm_keeps (fun e => e.rd p f) (fun e c v => ?_) event inst k
  have below (g : Fld) : p.key f ≠ (Page.pmg (c / 32)).key g := by
    have hb := Page.field_bounds hf
    rw [Page.key_eq, Page.key_eq, Fld.slot, Page.num]
    omega
  rw [Dev.pmSet, Dev.rd_wr_other _ _ _ _ _ _ (below _), Dev.rd_wr_other _ _ _ _ _ _ (below _)]

/-- A separation failure counts at its tenant and changes no other entry of a table. -/
theorem Dev.sep_tbls (tenant e detail : Nat) : (d.sep tenant e detail).tbls = (d.cnt .tnSepCnt (tenant * 8 + e)).tbls := by
  rw [Dev.sep, Dev.pm_tbls, Dev.sepFail]
  split
  · rw [Dev.reportEv_tbls, Dev.raise_tbls, Dev.wr_tbls, Dev.wr_tbls]
  · rw [Dev.raise_tbls, Dev.wr_tbls, Dev.wr_tbls]

/-- Counting leaves the registers. -/
@[simp] theorem Dev.cnt_regs (t : Tbl) (i k : Nat) : (d.cnt t i k).regs = d.regs := by
  unfold Dev.cnt
  split <;> rfl

/-- A register field read after a count. -/
@[simp] theorem Dev.rd_cnt (t : Tbl) (i k : Nat) (p : Page) (f : Fld) : (d.cnt t i k).rd p f = d.rd p f := by
  rw [Dev.rd, Dev.cnt_regs, ← Dev.rd]

/-- A field of an entry read after a count elsewhere. -/
theorem Dev.rdT_cnt_other (t u : Tbl) (i j k : Nat) (f : Fld) (h : u.key j f ≠ t.key i CNT.COUNT) :
    (d.cnt t i k).rdT u j f = d.rdT u j f := by
  unfold Dev.cnt
  split
  · rfl
  · exact d.rdT_wrT_other t u i j _ f _ h

/-- A separation failure writes no register of a page below the counters' pages. -/
theorem Dev.rd_sep {p : Page} {f : Fld} (hf : f ∈ p.fields) (hp : p.num < 0xe01) (tenant e detail : Nat) :
    (d.sep tenant e detail).rd p f = d.rd p f := by
  have elsewhere {g : Fld} (hg : g ∈ Page.tn.fields) : p.key f ≠ Page.tn.key g :=
    Page.key_ne_of_num hf hg (by rw [show Page.tn.num = 0xf00 from rfl]; omega)
  have raised : (((d.cnt .tnSepCnt (tenant * 8 + e)).wr .tn TN_SEP_LAST.TENANT tenant).wr .tn TN_SEP_LAST.TIME d.us |>.raise
      .tn 0).rd p f = d.rd p f := by
    rw [Dev.rd_raise, Dev.rd_wr_other _ _ _ _ _ _ (elsewhere (by decide +kernel)),
      Dev.rd_wr_other _ _ _ _ _ _ (elsewhere (by decide +kernel)),
      Dev.rd_wr_other _ _ _ _ _ _ (elsewhere (by decide +kernel)), Dev.rd_cnt]
  have failed : (d.sepFail tenant e detail).rd p f = d.rd p f := by
    rw [Dev.sepFail]
    split <;> exact raised
  rw [Dev.sep, Dev.rd_pm _ hf hp, failed]

end Events

end Sys2Proof.Machine
end

section
/-! Requests to return a reference and the slack tub: a request alone in its cycle, the rows of Table BUF–4, and what a
rejection writes (R246–R249). -/

namespace Sys2Proof.Machine

section Requests
variable {d : Dev} {free : Bool} {handle tag : Nat}

/-! ## A request alone in its cycle (R247) -/

/-- A request has one of the five places of its cycle. -/
theorem Dev.reqRank_lt (d : Dev) (r : BpReq) : d.reqRank r < 5 := by
  unfold Dev.reqRank
  dsimp only
  split_ifs <;> omega

/-- A cycle of one request resolves that request. -/
theorem Dev.bpCycle_of_singleton {r : BpReq} {damaged : Bool} (h : d.path.bp.cycle = [(r, damaged)]) :
    d.bpCycle = (d.setBp { d.path.bp with cycle := [] }).bpResolve r.free r.handle r.tag damaged := by
  have ordered : (List.range 5).flatMap (fun k => d.path.bp.cycle.filter (fun e => d.reqRank e.1 == k)) =
      [(r, damaged)] := by
    have hr := d.reqRank_lt r
    rw [h]
    generalize hk : d.reqRank r = k at hr
    interval_cases k <;> simp [List.range_succ, hk]
  rw [Dev.bpCycle, ordered]
  rfl

/-- A request alone in its cycle leaves the pools' input and is resolved. -/
theorem Dev.bpRequest_of_alone (h : d.path.bp.cycle = []) (free : Bool) (handle tag : Nat) (damaged : Bool) :
    Dev.bpRequest free handle tag damaged false d = (d.setBp { d.path.bp with
      reqs := takeReq { free := free, handle := handle, tag := tag } d.path.bp.reqs, cycle := [] }).bpResolve
        free handle tag damaged := by
  simp only [Dev.bpRequest, h, List.all_nil, List.nil_append, if_true, Bool.false_eq_true, if_false]
  rw [Dev.bpCycle_of_singleton (r := ⟨free, handle, tag⟩) (damaged := damaged)] <;> rfl

/-! ## The rows of Table BUF–4 (R246, R247) -/

/-- A retired descriptor, a stale generation or no reference: a double free. -/
theorem Dev.bpResolve_of_doubleFree (h : d.path.bp.retired.contains (handleIdx handle) = true ∨
      d.rdT .bpDesc (handleIdx handle) BP_DESC.GEN ≠ handle / 1048576 ∨
      d.rdT .bpDesc (handleIdx handle) BP_DESC.REFCNT = 0) :
    d.bpResolve free handle tag false = d.bpReject 1 handle tag := by
  unfold Dev.bpResolve
  by_cases hr : d.path.bp.retired.contains (handleIdx handle) = true
  · exact if_pos hr
  · exact (if_neg hr).trans (if_pos (h.resolve_left hr))

section Held
variable (hr : handleIdx handle ∉ d.path.bp.retired)
  (hg : d.rdT .bpDesc (handleIdx handle) BP_DESC.GEN = handle / 1048576)
include hr hg

/-- A tag that no holder bears: a foreign free. -/
theorem Dev.bpResolve_of_foreign (hn : d.rdT .bpDesc (handleIdx handle) BP_DESC.REFCNT ≠ 0)
    (ha : d.rdT .bpDesc (handleIdx handle) BP_DESC.HOLDER_A ≠ tag)
    (hb : d.rdT .bpDesc (handleIdx handle) BP_DESC.HOLDER_B ≠ tag) :
    d.bpResolve free handle tag false = d.bpReject 2 handle tag := by
  simp [Dev.bpResolve, hr, hg, hn, ha, hb]

section Fitting
variable (ht : tagFits tag = true)
include ht

/-- The first of two holders gives its reference up. -/
theorem Dev.bpResolve_of_firstOfTwo (hn : d.rdT .bpDesc (handleIdx handle) BP_DESC.REFCNT = 2)
    (ha : d.rdT .bpDesc (handleIdx handle) BP_DESC.HOLDER_A = tag) : d.bpResolve false handle tag false =
    d.wrTs .bpDesc (handleIdx handle) [(BP_DESC.REFCNT, 1), (BP_DESC.HOLDER_A, 0), (BP_DESC.LAST, 2)] := by
  simp [Dev.bpResolve, hr, hg, ht, hn, ha]

/-- The second of two holders gives its reference up. -/
theorem Dev.bpResolve_of_secondOfTwo (hn : d.rdT .bpDesc (handleIdx handle) BP_DESC.REFCNT = 2)
    (ha : d.rdT .bpDesc (handleIdx handle) BP_DESC.HOLDER_A ≠ tag) (h0 : tag ≠ 0)
    (hb : d.rdT .bpDesc (handleIdx handle) BP_DESC.HOLDER_B = tag) : d.bpResolve false handle tag false =
    d.wrTs .bpDesc (handleIdx handle) [(BP_DESC.REFCNT, 1), (BP_DESC.HOLDER_B, 0), (BP_DESC.LAST, 1)] := by
  simp [Dev.bpResolve, hr, hg, ht, hn, ha, h0, hb]

/-- The holder of the last reference, the first one, frees the buffer by RELEASE and by FREE. -/
theorem Dev.bpResolve_of_last (hn : d.rdT .bpDesc (handleIdx handle) BP_DESC.REFCNT = 1)
    (ha : d.rdT .bpDesc (handleIdx handle) BP_DESC.HOLDER_A = tag)
    (hl : d.rdT .bpDesc (handleIdx handle) BP_DESC.LAST = 1) :
    d.bpResolve free handle tag false = d.bpFree (handleIdx handle) := by
  simp [Dev.bpResolve, hr, hg, ht, hn, ha, hl]

end Fitting

end Held

/-! ## The slack tub (R249) -/

/-- The tub takes its next reference. -/
theorem Dev.tubReceive_of_cons {r : TubRef} {t : List TubRef} (h : d.path.bp.tub = r :: t) : d.tubReceive =
    ((((d.setBp { d.path.bp with tub := t }).tubLog r.reason r.handle r.expected r.found).cnt .bpAcctCnt
      (r.acct * 8 + 7)).raise (.bp 0) 2).release r.handle r.slot := by
  simp only [Dev.tubReceive, h]

end Requests

/-- A request's handle and tag within their widths are operands that exist (R3). -/
theorem return_wellFormed {handle tag : Nat} (hh : handle < 2 ^ 28) (ht : tag < 2 ^ 26) :
    (decide (handle < 268435456) && decide (tag < 67108864)) = true := by
  simp only [Bool.and_eq_true, decide_eq_true_eq]
  exact ⟨hh, ht⟩

/-- Settles O29: a request alone in its cycle is resolved on a descriptor that its leaving the pools' input does not
change, and each clause's premises choose one row of Table BUF–4. -/
theorem releaseCompletes : Obligations.ReleaseCompletes := by
  rintro s _ rfl alone
  refine ⟨fun handle tag hh ht => ?requests, fun r t h => ?tub⟩
  case tub => exact exec_next_of_eq .slackTubReceive _ s rfl rfl (Dev.tubReceive_of_cons h)
  case requests =>
    intro i q live gen fits
    have live : i ∉ s.dev.path.bp.retired := by simpa using live
    have release {e : Dev} (h : (q false).bpResolve false handle tag false = e) :
        exec (.releaseRequest handle tag false false) s = .next (s.after e) :=
      exec_next_of_eq (.releaseRequest handle tag false false) _ s rfl (return_wellFormed hh ht)
        ((Dev.bpRequest_of_alone alone _ _ _ _).trans h)
    have free {e : Dev} (h : (q true).bpResolve true handle tag false = e) :
        exec (.freeRequest handle tag false false) s = .next (s.after e) :=
      exec_next_of_eq (.freeRequest handle tag false false) _ s rfl (return_wellFormed hh ht)
        ((Dev.bpRequest_of_alone alone _ _ _ _).trans h)
    exact ⟨fun two first => release (Dev.bpResolve_of_firstOfTwo live gen fits two first),
      fun two other some second => release (Dev.bpResolve_of_secondOfTwo live gen fits two other some second),
      fun one first last => ⟨release (Dev.bpResolve_of_last live gen fits one first last),
        free (Dev.bpResolve_of_last live gen fits one first last)⟩⟩

end Sys2Proof.Machine
end

section
/-! Rejected requests (R247, R248): what a rejection records and counts, and why the descriptor's own fields are as they were
while a place outside every entry need not be. -/

namespace Sys2Proof.Machine

section Rejection
variable (d : Dev) (code handle tag : Nat)

/-- A rejection counts twice at the requester's account and once at its tenant, and changes no other entry of a table. -/
theorem Dev.bpReject_tbls : (d.bpReject code handle tag).tbls =
    (((d.cnt .bpAcctCnt (d.acctOfTag tag (handleIdx handle) * 8 + 4 + code)).cnt .bpAcctCnt
      (d.acctOfTag tag (handleIdx handle) * 8 + 7)).cnt .tnSepCnt (tagTenant tag * 8 + (4 + code))).tbls := by
  rw [Dev.bpReject, Dev.sep_tbls]
  simp [Dev.cnt, Dev.rdT, Dev.raise_tbls, Dev.wrT]

/-- A field of BP_ERR or BP_ERR_REQ after a rejection: what was recorded in it. -/
theorem Dev.rd_bpReject {f : Fld} (hf : f ∈ (Page.bp 0).fields) (hr : f.slot ≠ INT_RAW.RAW.slot) :
    (d.bpReject code handle tag).rd (.bp 0) f = (d.wrs (.bp 0)
      [(BP_ERR.CODE, code), (BP_ERR.HANDLE, handle), (BP_ERR_REQ.TAG, tag)]).rd (.bp 0) f := by
  rw [Dev.bpReject, Dev.rd_sep _ hf (by decide), Dev.rd_raise, Dev.rd_wr_place _ _ _ hr, Dev.rd_cnt, Dev.rd_cnt]

variable {code handle tag}

/-- A rejection is logged with its request. -/
theorem Dev.bpReject_logged (hc : code < 4) (hh : handle < 2 ^ 28) (ht : tag < 2 ^ 26) :
    (d.bpReject code handle tag).rd (.bp 0) BP_ERR.CODE = code ∧
    (d.bpReject code handle tag).rd (.bp 0) BP_ERR.HANDLE = handle ∧
    (d.bpReject code handle tag).rd (.bp 0) BP_ERR_REQ.TAG = tag := by
  have recorded {f : Fld} {v : Nat} (hm : (f, v) ∈ [(BP_ERR.CODE, code), (BP_ERR.HANDLE, handle), (BP_ERR_REQ.TAG, tag)])
      (hf : f ∈ (Page.bp 0).fields) (hr : f.slot ≠ INT_RAW.RAW.slot) (hw : v < 2 ^ f.width) :
      (d.bpReject code handle tag).rd (.bp 0) f = v := by
    have places : [BP_ERR.CODE.slot, BP_ERR.HANDLE.slot, BP_ERR_REQ.TAG.slot].Nodup := by decide
    rw [d.rd_bpReject _ _ _ hf hr, d.rd_wrs_of_mem _ _ (by exact places) hm, Nat.mod_eq_of_lt hw]
  exact ⟨recorded (by simp) (by decide +kernel) (by decide) hc,
    recorded (by simp) (by decide +kernel) (by decide) hh,
    recorded (by simp) (by decide +kernel) (by decide) ht⟩

/-- A field within an entry of BP_DESC keeps its value under a rejection, where the requester's account is one of the
table's. -/
theorem Dev.rdT_bpReject {i : Nat} {f : Fld} (hi : i < 1048576) (hf : f.lo < 512) (hc : code < 4)
    (ha : d.acctOfTag tag (handleIdx handle) < 1408) :
    (d.bpReject code handle tag).rdT .bpDesc i f = d.rdT .bpDesc i f := by
  have acct {j : Nat} (hj : j < 11264) : Tbl.bpDesc.key i f ≠ Tbl.bpAcctCnt.key j CNT.COUNT := by
    simp only [Tbl.key, Tbl.num]; omega
  have tenant (j : Nat) : Tbl.bpDesc.key i f ≠ Tbl.tnSepCnt.key j CNT.COUNT := by
    simp only [Tbl.key, Tbl.num]; omega
  rw [Dev.rdT, Dev.bpReject_tbls, ← Dev.rdT, Dev.rdT_cnt_other _ _ _ _ _ _ _ (tenant _),
    Dev.rdT_cnt_other _ _ _ _ _ _ _ (acct (by omega)), Dev.rdT_cnt_other _ _ _ _ _ _ _ (acct (by omega))]

/-- A rejection is logged and leaves the fields within an entry of BP_DESC. -/
theorem Dev.bpReject_logged_kept {i : Nat} (hi : i < 1048576) (hc : code < 4) (hh : handle < 2 ^ 28) (ht : tag < 2 ^ 26)
    (ha : d.acctOfTag tag (handleIdx handle) < 1408) :
    let e := d.bpReject code handle tag
    e.rd (.bp 0) BP_ERR.CODE = code ∧ e.rd (.bp 0) BP_ERR.HANDLE = handle ∧ e.rd (.bp 0) BP_ERR_REQ.TAG = tag ∧
      ∀ f : Fld, f.lo < 512 → e.rdT .bpDesc i f = d.rdT .bpDesc i f := by
  obtain ⟨hcode, hhandle, htag⟩ := d.bpReject_logged hc hh ht
  exact ⟨hcode, hhandle, htag, fun f hf => d.rdT_bpReject hi hf hc ha⟩

end Rejection

/-- O30's claim for the fields that an entry of BP_DESC can have, and a requester whose account is one of the table's. -/
theorem Dev.rejectedReturn_keeps_entry (d : Dev) (free : Bool) {handle tag : Nat} (hh : handle < 2 ^ 28) (ht : tag < 2 ^ 26)
    (ha : d.acctOfTag tag (handleIdx handle) < 1408) :
    let i := handleIdx handle
    let e := d.bpResolve free handle tag false
    ((d.path.bp.retired.contains i = true ∨ d.rdT .bpDesc i BP_DESC.GEN ≠ handle / 1048576 ∨
        d.rdT .bpDesc i BP_DESC.REFCNT = 0) →
      e.rd (.bp 0) BP_ERR.CODE = 1 ∧ e.rd (.bp 0) BP_ERR.HANDLE = handle ∧ e.rd (.bp 0) BP_ERR_REQ.TAG = tag ∧
        ∀ f : Fld, f.lo < 512 → e.rdT .bpDesc i f = d.rdT .bpDesc i f) ∧
    (i ∉ d.path.bp.retired → d.rdT .bpDesc i BP_DESC.GEN = handle / 1048576 → d.rdT .bpDesc i BP_DESC.REFCNT ≠ 0 →
      d.rdT .bpDesc i BP_DESC.HOLDER_A ≠ tag → d.rdT .bpDesc i BP_DESC.HOLDER_B ≠ tag →
      e.rd (.bp 0) BP_ERR.CODE = 2 ∧ e.rd (.bp 0) BP_ERR.HANDLE = handle ∧ e.rd (.bp 0) BP_ERR_REQ.TAG = tag ∧
        ∀ f : Fld, f.lo < 512 → e.rdT .bpDesc i f = d.rdT .bpDesc i f) := by
  have hi : handleIdx handle < 1048576 := Nat.mod_lt _ (by decide)
  refine ⟨fun double => ?_, fun live gen refs first second => ?_⟩
  · rw [Dev.bpResolve_of_doubleFree double]
    exact d.bpReject_logged_kept hi (by decide) hh ht ha
  · rw [Dev.bpResolve_of_foreign live gen refs first second]
    exact d.bpReject_logged_kept hi (by decide) hh ht ha

/-- A place that is no field of BP_DESC: from entry 0 its lowest bit counts on to the entry of TN_SEP_CNT in which tenant 0's
double frees are counted. -/
def pastDesc : Fld := ⟨0, (Tbl.tnSepCnt.num - Tbl.bpDesc.num) * 536870912 + 5 * 512, 40, .ro, 0⟩

/-- Read from entry 0 of BP_DESC, that place is the count of tenant 0's double frees. -/
theorem Dev.rdT_pastDesc (d : Dev) : d.rdT .bpDesc 0 pastDesc = d.rdT .tnSepCnt 5 CNT.COUNT := by
  have : Tbl.bpDesc.key 0 pastDesc = Tbl.tnSepCnt.key 5 CNT.COUNT := by decide
  rw [Dev.rdT, this, ← Dev.rdT]

/-- The first double free of T0's after reset is counted. -/
theorem Dev.reset_doubleFree_counted : Dev.reset.rdT .tnSepCnt 5 CNT.COUNT = 0 ∧
    (Dev.reset.bpResolve false 0 0 false).rdT .tnSepCnt 5 CNT.COUNT = 1 := by decide +kernel

/-- Refutes O30: its last conjunct speaks of every `Fld`, and one whose lowest bit lies beyond an entry's 512 bits names a
place of another table.  After reset a RELEASE of handle 0, to which no reference stands, is a double free; it is counted in
TN_SEP_CNT, and `pastDesc` read from descriptor 0 shows that count.  For the fields of an entry the claim is
`Dev.rejectedReturn_keeps_entry`. -/
theorem not_rejectedReturnKeepsBuffer : ¬ Obligations.RejectedReturnKeepsBuffer := by
  intro h
  obtain ⟨-, -, -, keeps⟩ := (h Dev.reset false 0 0 (by decide) (by decide)).1 (.inr (.inr (by decide +kernel)))
  obtain ⟨before, after⟩ := Dev.reset_doubleFree_counted
  have same : (Dev.reset.bpResolve false 0 0 false).rdT .tnSepCnt 5 CNT.COUNT = Dev.reset.rdT .tnSepCnt 5 CNT.COUNT := by
    rw [← Dev.rdT_pastDesc, ← Dev.rdT_pastDesc]
    exact keeps pastDesc
  rw [before, after] at same
  exact absurd same (by decide)

end Sys2Proof.Machine
end

section
/-! The uplink ports: links that rise and fall, frames in and frames out (R250, R321–R323, R348–R350). -/

namespace Sys2Proof.Machine

section Ports
variable {d : Dev} {u : Nat}

/-! ## Links (R348) -/

/-- LINK_UP rises on a port that runs, whose lanes are good and whose link is down. -/
theorem Dev.linkRise_of_down (hp : d.portOn u = true) (hl : d.portLanesGood u = true)
    (hd : d.rd (.ulp u) UL_PORT_STAT.LINK_UP = 0) : Dev.linkRise u d =
    (d.wrs (.ulp u) [(UL_PORT_STAT.ALIGNED, 1), (UL_PORT_STAT.LOCAL_FAULT, 0), (UL_PORT_STAT.REMOTE_FAULT, 0),
      (UL_PORT_STAT.LINK_UP, 1)]).raise (.ulp u) 0 := by
  simp only [Dev.linkRise, Dev.on, hp, hl, hd, bne_self_eq_false, Bool.not_false, Bool.and_self, if_true]

/-- Alignment lost or a fault on an enabled port: the status bits, the frame cut short, the fall of the link. -/
theorem Dev.linkLoss_of_bad {aligned lf rf : Bool} (trunc : Bool) (he : d.rd (.ulp u) PAGE_CTRL.EN ≠ 0)
    (hb : (aligned && !lf && !rf) = false) : Dev.linkLoss u aligned lf rf trunc d =
    (let d1 := if rf && !d.on (.ulp u) UL_PORT_STAT.REMOTE_FAULT then d.raise (.ulp u) 2 else d
     let d2 := d1.wrs (.ulp u) [(UL_PORT_STAT.ALIGNED, aligned.toNat), (UL_PORT_STAT.LOCAL_FAULT, lf.toNat),
       (UL_PORT_STAT.REMOTE_FAULT, rf.toNat)]
     let d3 := if trunc && d.on (.ulp u) UL_PORT_STAT.LINK_UP then d2.cnt (.ulCnt u) 8 else d2
     d3.linkFall u) := by
  have enabled : d.on (.ulp u) PAGE_CTRL.EN = true := by simpa [Dev.on] using he
  simp only [Dev.linkLoss, enabled, hb, Bool.not_true, Bool.false_eq_true, if_false]

/-! ## Frames with their FCS (R349) -/

/-- The FCS takes four bytes. -/
@[simp] theorem length_withFcs (l : List Byte) : (withFcs l).length = l.length + 4 := by
  simp [withFcs, leBytes]

/-- What stands before the FCS is the frame. -/
@[simp] theorem take_withFcs (l : List Byte) : (withFcs l).take l.length = l := by simp [withFcs]

/-- The FCS of a frame fits it. -/
@[simp] theorem fcsFits_withFcs (l : List Byte) : fcsFits (withFcs l) = true := by simp [fcsFits]

section Up
variable (hp : d.portOn u = true) (hl : d.rd (.ulp u) UL_PORT_STAT.LINK_UP ≠ 0)
include hp hl

/-- A good frame of a size that the port takes, and not a pause frame, goes to the classifier without its FCS. -/
theorem Dev.ulReceive_of_good {bytes : List Byte} (corr unc syms : Nat) (h60 : 60 ≤ bytes.length)
    (hm : bytes.length + 4 ≤ d.rd (.ulp u) UL_PORT_CFG.MAX_FRAME) (ht : beAt bytes 12 2 ≠ 0x8808)
    (hc : d.takes (.cl 0) = true) : Dev.ulReceive u (withFcs bytes) false corr unc syms d =
    (let ts := if hasBit (d.rd (.tm 1) TM_RXTS_EN.EN) u then some (d.time.sec % 2 ^ 32, d.time.ns) else none
     let e := ((((d.ulFec u corr unc syms).cnt (.ulCnt u) 0).cnt (.ulCnt u) 1 bytes.length).pm 13 u).pm 14 u bytes.length
     { e with path := { e.path with
       cl := e.path.cl ++ [{ up := false, port := u, flow := 0, bytes := bytes, ts := ts }] } }) := by
  have linked : d.on (.ulp u) UL_PORT_STAT.LINK_UP = true := by simpa [Dev.on] using hl
  have long : ¬ bytes.length + 4 < 64 := by omega
  simp only [Dev.ulReceive, hp, linked, hc, fcsFits_withFcs, length_withFcs, Nat.add_sub_cancel, take_withFcs, long,
    Nat.not_lt.mpr hm, ht, Bool.not_true, Bool.or_self, Bool.false_eq_true, if_false]

/-! ## Frames out (R250, R323, R350) -/

section Next
variable {f : TxFrame} {rest : List TxFrame} (hn : d.macNext u = some (f, rest))
include hn

/-- A frame that asks for no timestamp and no launch time is padded to 60 bytes, leaves with its FCS and is counted. -/
theorem Dev.ulTransmit_of_plain (hr : f.req = none) : Dev.ulTransmit u false false d =
    (let d1 : Dev := { d with path := { d.path with mac := d.path.mac.put [] u rest } }
     let b := f.bytes ++ List.replicate (60 - f.bytes.length) 0#8
     (((d1.emit (.ulFrame u (withFcs b))).cnt (.ulCnt u) 6).cnt (.ulCnt u) 7 b.length).release f.handle f.tag) := by
  have linked : d.on (.ulp u) UL_PORT_STAT.LINK_UP = true := by simpa [Dev.on] using hl
  simp [Dev.ulTransmit, hp, linked, hn, TxFrame.launchAt, hr]

/-- A frame whose data is uncorrectable is dropped and reported, and its buffer released. -/
theorem Dev.ulTransmit_of_badData (held : Bool) : Dev.ulTransmit u held true d =
    ((({ d with path := { d.path with mac := d.path.mac.put [] u rest } } : Dev).tsqLost u f.req).dataError
      f.handle).release f.handle f.tag := by
  have linked : d.on (.ulp u) UL_PORT_STAT.LINK_UP = true := by simpa [Dev.on] using hl
  simp only [Dev.ulTransmit, hp, linked, hn, Bool.not_true, Bool.or_self, Bool.false_eq_true, if_false, if_true]

end Next

end Up

end Ports

/-- Settles O26: each clause's premises leave one path open through its command's meaning. -/
theorem uplinkComplete : Obligations.UplinkComplete := by
  rintro s _ rfl
  refine ⟨fun u hu hp hl hd => ?rise, fun u aligned lf rf trunc hu he hb => ?fall,
    fun u bytes corr unc syms hw hp hl h60 hm ht hc => ?receive, fun u held f rest hu hp hl hn => ⟨?transmit, ?drop⟩⟩
  case rise => exact exec_next_of_eq (.linkUp u) _ s rfl (decide_eq_true hu) (Dev.linkRise_of_down hp hl hd)
  case fall =>
    exact exec_next_of_eq (.linkDown u aligned lf rf trunc) _ s rfl (decide_eq_true hu) (Dev.linkLoss_of_bad trunc he hb)
  case receive =>
    exact exec_next_of_eq (.ulFrameReceive u (withFcs bytes) false corr unc syms) _ s rfl hw
      (Dev.ulReceive_of_good hp hl corr unc syms h60 hm ht hc)
  case transmit =>
    rintro hr rfl
    exact exec_next_of_eq (.ulFrameTransmit u false false) _ s rfl (decide_eq_true hu) (Dev.ulTransmit_of_plain hp hl hn hr)
  case drop =>
    exact exec_next_of_eq (.ulFrameTransmit u held true) _ s rfl (decide_eq_true hu)
      (Dev.ulTransmit_of_badData hp hl hn held)

end Sys2Proof.Machine
end

section
/-! Admission to the buffer pools: the first waiting result is refused, or takes the buffer that its pool offers
(R240–R245, R252, R253). -/

namespace Sys2Proof.Machine

section Waiting
variable {d : Dev} {a : Admit} {rest : List Admit} (hq : d.path.bp.inq = a :: rest) (ht : d.takes (.bp 0) = true)
include hq ht

/-- A result that neither its account nor its pool has room for is counted, reported to its injector and dropped. -/
theorem Dev.admitWaiting_of_refused (i : Nat) (damaged : Bool)
    (hc : 2 ≤ d.admission (d.acctFor a.first) (poolOf a.bytes.length)) : Dev.admitWaiting i damaged d =
    (let acct := d.acctFor a.first
     let c := d.admission acct (poolOf a.bytes.length)
     let d0 := d.setBp { d.path.bp with inq := rest }
     ((d0.cnt .bpAcctCnt (acct * 8 + c)).pm 16 acct).admitDone a 5 (c - 1)) := by
  simp only [Dev.admitWaiting, hq, ht, hc, Bool.not_true, Bool.false_eq_true, if_true, if_false]

/-- An admitted result whose first holder passes its check takes the free descriptor of the tier offered, and each of its
holders its reference. -/
theorem Dev.admitWaiting_of_admitted {i tier : Nat}
    (hc : d.admission (d.acctFor a.first) (poolOf a.bytes.length) < 2) (ho : d.tierOf (poolOf a.bytes.length) = some tier)
    (hf : d.descFree i (poolOf a.bytes.length) tier = true) (hk : d.enqCheck a.rt a.first = 0) :
    Dev.admitWaiting i false d =
    (let acct := d.acctFor a.first
     let pool := poolOf a.bytes.length
     let d0 := d.setBp { d.path.bp with inq := rest }
     let d1 := ((d0.takeBuf a i acct pool tier).cnt .bpAcctCnt (acct * 8 + d.admission acct pool)).pm 15 acct
     let d2 := d1.holder a (d1.handleOf i) false a.first
     (match a.second with | some t => d2.holder a (d1.handleOf i) true t | none => d2).admitDone a 0 0) := by
  cases second : a.second with
  | none | some t =>
    simp only [Dev.admitWaiting, hq, ht, ho, hf, hk, second, Nat.not_le.mpr hc, Bool.not_true, Bool.false_eq_true,
      if_true, if_false]

end Waiting

/-- BUFFER_ADMIT decides once the enqueues that waited at the pools' output have gone on (R271). -/
theorem exec_bufferAdmit_of_eq (s : State) {i : Nat} {damaged : Bool} (hi : i < 1048576) {e : Dev}
    (he : Dev.admitWaiting i damaged s.dev.drainOut = e) : exec (.bufferAdmit i damaged) s = .next (s.after e) :=
  exec_next_of_eq (.bufferAdmit i damaged) (fun d => Dev.admitWaiting i damaged d.drainOut) s rfl (decide_eq_true hi) he

/-- Settles O27: the decision on the first waiting result is refusal or admission, each with one outcome. -/
theorem admissionCompletes : Obligations.AdmissionCompletes := by
  rintro s _ i a rest rfl hi hq ht
  exact ⟨fun hc => exec_bufferAdmit_of_eq s hi (Dev.admitWaiting_of_refused hq ht i false hc),
    fun _ hc ho hf hk => exec_bufferAdmit_of_eq s hi (Dev.admitWaiting_of_admitted hq ht hc ho hf hk)⟩

end Sys2Proof.Machine
end

section
/-! The scheduler's commands: a root's decision, the launch time of a head, a flush, its end, and a latency sample
(R262–R271, R275). -/

namespace Sys2Proof.Machine

section Scheduler
variable {d : Dev}

/-! ## A root's decision (R263, R264, R266, R269, R288) -/

/-- A root may always make one decision: the bound counts from 1. -/
theorem Dev.frameCount_pos (d : Dev) : 0 < d.frameCount := by
  have grows (l : List (Nat × Queue)) : ∀ k, k ≤ l.foldl (fun s e => s + e.2.frames.length + 1) k := by
    induction l with
    | nil => exact Nat.le_refl
    | cons e l ih => exact fun k => (Nat.le_add_right k (e.2.frames.length + 1)).trans (ih _)
  exact grows _ 1

/-- A head frame that passes the dequeue check, of a queue that is not paused, is counted, charged and passed on. -/
theorem Dev.selectN_of_passes {k r q : Nat} {h : Held} {t : List Held} (hk : 0 < k) (hc : d.choose r = some q)
    (hf : (d.queue q).frames = h :: t) (ho : d.deqOk q h = true) (hp : 131072 ≤ q ∨ d.flowPaused q = false) :
    Dev.selectN k false r d =
    (((d.cnt .scCnt (r * 8)).cnt .scCnt (r * 8 + 1) h.len).takeHead q h.len).passOn r q h := by
  obtain ⟨k, rfl⟩ := Nat.exists_eq_succ_of_ne_zero hk.ne'
  have runs : ¬ (q < 131072 ∧ d.flowPaused q = true) := by
    rintro ⟨flow, paused⟩
    rcases hp with agg | clear
    · omega
    · simp [clear] at paused
  simp only [Dev.selectN, hc, hf, ho, runs, Bool.false_and, Bool.not_true, Bool.false_eq_true, if_false]

/-! ## The launch time of a head (R262) -/

/-- A head whose launch time has come waits for it no longer. -/
theorem Dev.launchReached_of_due {a p l : Nat} {h : Held} {t : List Held} (hf : (d.queue (aggQ a)).frames = h :: t)
    (hl : h.req.bind TxReq.launch = some (p, l)) (hn : l ≤ d.nowNs) :
    Dev.launchReached a d = d.wrT .scQueue (aggQ a) SC_QUEUE.LAUNCH_WAIT 0 := by
  simp only [Dev.launchReached, hf, hl, hn, if_true]

/-! ## Flush (R270) -/

/-- Setting OP of SC_CMD leaves the queue that the word names. -/
@[simp] theorem SC_CMD.queue_get_op_set (v op : Nat) : SC_CMD.QUEUE.get (SC_CMD.OP.set v op) = SC_CMD.QUEUE.get v :=
  Fld.get_set_of_below (by decide) v op

/-- OP = 1 on a queue that exists, while no flush is in progress, flushes that queue. -/
theorem Dev.wScCmd_flush {v : Nat} (hi : d.rd (.sc 0) SC_CMD.STAT ≠ 1) (hq : SC_CMD.QUEUE.get v < 147456) :
    Dev.wScCmd (SC_CMD.OP.set v 1) d =
    (((d.wr (.sc 0) SC_CMD.OP 1).wr (.sc 0) SC_CMD.QUEUE (SC_CMD.QUEUE.get v)).wr (.sc 0) SC_CMD.STAT 1).flushQueue
      (SC_CMD.QUEUE.get v) := by
  have issued : SC_CMD.OP.get (SC_CMD.OP.set v 1) = 1 := Fld.get_set SC_CMD.OP v 1
  simp only [Dev.wScCmd, issued, SC_CMD.queue_get_op_set, if_neg hi, if_neg (Nat.not_le.mpr hq), if_true]
  rfl

/-! ## Sampling (R275) -/

/-- A sample without thresholds shows delay and depth, with the least and the greatest of each, and fires nothing. -/
theorem Dev.sample_of_noThresholds {q : Nat} (he : d.enabled (.sc 0) = true) (hs : d.rd (.sc 0) SC_SAMPLE_CFG.EN ≠ 0)
    (hd : d.rdT .scSample q SC_SAMPLE.DLY_THR = 65535) (hp : d.rdT .scSample q SC_SAMPLE.DEP_THR = 65535) :
    Dev.sample q d =
    (let dly := d.headDelay q
     let dep := (d.queueBytes q + 63) / 64
     d.freed.wrTs .scSample q
       [(SC_SAMPLE.DLY_LAST, dly), (SC_SAMPLE.DLY_MIN, min dly (d.rdT .scSample q SC_SAMPLE.DLY_MIN)),
        (SC_SAMPLE.DLY_MAX, max dly (d.rdT .scSample q SC_SAMPLE.DLY_MAX)), (SC_SAMPLE.DEP_LAST, dep),
        (SC_SAMPLE.DEP_MIN, min dep (d.rdT .scSample q SC_SAMPLE.DEP_MIN)),
        (SC_SAMPLE.DEP_MAX, max dep (d.rdT .scSample q SC_SAMPLE.DEP_MAX))]) := by
  have sampling : d.on (.sc 0) SC_SAMPLE_CFG.EN = true := bne_iff_ne.mpr hs
  simp only [Dev.sample, he, sampling, hd, hp, Bool.and_self, ne_eq, not_true_eq_false, false_and, or_self, if_true,
    if_false]

end Scheduler

/-- Settles O31: each clause's premises leave one path open through its command's meaning; a root's decision takes the
branch of a frame that passes, which its bound always allows. -/
theorem schedulerComplete : Obligations.SchedulerComplete := by
  rintro s _ rfl
  refine ⟨fun r q h t hr ht hc hf ho hp => ?dequeue, fun a h t p l ha hf hl hn => ?launch,
    fun b v hw ha hi hq => ?flush, fun hb => ?flushed, fun q hq he hs hd hp => ?sample⟩
  case dequeue =>
    exact exec_next_of_eq (.dequeueSelect r false) _ s rfl (decide_eq_true hr)
      ((if_pos ht).trans (Dev.selectN_of_passes (Dev.frameCount_pos _) hc hf ho hp))
  case launch =>
    exact exec_next_of_eq (.launchTimeReached a) _ s rfl (decide_eq_true ha) (Dev.launchReached_of_due hf hl hn)
  case flush => rw [exec_next_after_hostF (.flush b v) s rfl hw ha, Dev.wScCmd_flush hi hq]
  case flushed => exact exec_next_of_eq .flushDone _ s rfl rfl (if_pos hb)
  case sample =>
    exact exec_next_of_eq (.latencySample q) _ s rfl (decide_eq_true hq) (Dev.sample_of_noThresholds he hs hd hp)

end Sys2Proof.Machine
end

section
/-! The cipher engine's commands: the next downstream frame of a tree, clear or encrypted, the next matched upstream
frame, and the scan that ends a pair's pause (R273, R281–R290). -/

namespace Sys2Proof.Machine

section Cipher
variable {d : Dev} {n f : Nat}

/-! ## Downstream (R281–R285) -/

section Downstream
variable {x : CxItem} {rest : List CxItem} (hr : d.encReady n = true) (hs : d.standby n = false)
  (hx : d.takeItem (d.path.cx.ds.get [] n) = some (x, rest))
include hr hs hx

/-- A frame of a clear flow goes on as it is. -/
theorem Dev.dsEncrypt_of_clear (he : d.rdT .clFlow x.flow CL_FLOW.CIPHER_EN = 0) : Dev.dsEncrypt n false false d =
    (d.setCx { d.path.cx with ds := d.path.cx.ds.put [] n rest }).encGo n x none := by
  have clear : d.onT .clFlow x.flow CL_FLOW.CIPHER_EN = false := by simpa [Dev.onT] using he
  simp only [Dev.dsEncrypt, hr, hs, hx, clear, Bool.not_true, Bool.not_false, Bool.or_self, Bool.false_eq_true, if_false,
    if_true]

/-- A frame of an encrypted flow goes on under the usable key of its pair, where the key's tag fits and the superframe
count has not gone back: that count becomes the key's high-water mark. -/
theorem Dev.dsEncrypt_of_keyed {c : Nat} (he : d.rdT .clFlow x.flow CL_FLOW.CIPHER_EN ≠ 0)
    (hk : d.dsKey (d.flowPair x.flow) = some c) (ht : d.keyTagOk x.flow c false = true)
    (hw : d.rdT .cxKey c CX_KEY.HWM_SFC ≤ d.sfc (d.lead n)) : Dev.dsEncrypt n false false d =
    (let d1 := d.setCx { d.path.cx with ds := d.path.cx.ds.put [] n rest }
     ((d1.wrT .cxKey c CX_KEY.HWM_SFC (d.sfc (d.lead n))).cnt .cxCnt (n * 8)).encGo n x (some c)) := by
  have encrypted : d.onT .clFlow x.flow CL_FLOW.CIPHER_EN = true := bne_iff_ne.mpr he
  simp only [Dev.dsEncrypt, hr, hs, hx, encrypted, hk, ht, Nat.not_lt.mpr hw, Bool.not_true, Bool.or_self,
    Bool.false_eq_true, if_false]

end Downstream

/-! ## Upstream (R273, R290) -/

section Upstream
variable {x : UsXgem} {rest : List (Nat × UsXgem)} (hx : d.path.cx.dec.get [] n = (f, x) :: rest)
include hx

/-- A frame of a clear flow whose key index says so is policed as it is. -/
theorem Dev.usDecrypt_of_clear (he : d.rdT .clFlow f CL_FLOW.CIPHER_EN = 0) (hi : x.keyIdx = 0) (bad : Bool) :
    Dev.usDecrypt n bad d = (d.setCx { d.path.cx with dec := d.path.cx.dec.put [] n rest }).usPass n f x.payload := by
  have clear : d.onT .clFlow f CL_FLOW.CIPHER_EN = false := by simpa [Dev.onT] using he
  simp only [Dev.usDecrypt, hx, clear, hi, Bool.false_and, Bool.not_false, Bool.false_eq_true, if_false, if_true]

/-- A frame of an encrypted flow is decrypted under the context of its pair that its key index names, where that is valid
and its tag fits; the use is counted, and the plain frame is policed. -/
theorem Dev.usDecrypt_of_keyed (he : d.rdT .clFlow f CL_FLOW.CIPHER_EN ≠ 0) (hc : d.enabled .cx0 = true)
    (hi : x.keyIdx = 1 ∨ x.keyIdx = 2)
    (hv : d.rdT .cxKey (d.flowPair f * 2 + (x.keyIdx - 1)) CX_KEY.VALID ≠ 0)
    (ht : d.keyTagOk f (d.flowPair f * 2 + (x.keyIdx - 1)) true = true) : Dev.usDecrypt n false d =
    (let c := d.flowPair f * 2 + (x.keyIdx - 1)
     let d1 := d.setCx { d.path.cx with dec := d.path.cx.dec.put [] n rest }
     let ctr := if (d.groupOf n).isSome then groupBlock x.sfc 1 x.seq x.allocId else Config.ctrBlock x.sfc 1 x.pos
     ((d1.cnt .cxCnt (n * 8 + 1)).useKey c (xgemBlocks x.payload.length)).usPass n f
       (ctrMode (d.algOf c) (d.keyOf c) ctr x.payload)) := by
  have encrypted : d.onT .clFlow f CL_FLOW.CIPHER_EN = true := bne_iff_ne.mpr he
  have valid : d.onT .cxKey (d.flowPair f * 2 + (x.keyIdx - 1)) CX_KEY.VALID = true := bne_iff_ne.mpr hv
  have keyed : x.keyIdx ≠ 0 := by omega
  have named : x.keyIdx ≠ 3 := by omega
  simp only [Dev.usDecrypt, hx, encrypted, hc, keyed, named, valid, ht, Bool.not_true, Bool.and_false, Bool.or_self,
    Bool.false_eq_true, or_self, if_false]

end Upstream

/-! ## The scan after a key switch (R288) -/

/-- The scan takes PAUSED from every queue whose flow names the pair; taking the pair off the scan's list changes no
flow. -/
theorem Dev.pauseScanDone_of_scanning {pair : Nat} (h : d.path.cx.scan.contains pair = true) :
    Dev.pauseScanDone pair d =
    (((d.listedT .scQueue SC_QUEUE.PAUSED).map (fun e => e.1)).filter (fun q => d.flowPair q == pair)).foldl
      (fun (x : Dev) q => x.wrT .scQueue q SC_QUEUE.PAUSED 0)
      (d.setCx { d.path.cx with scan := d.path.cx.scan.filter (· != pair) }) :=
  if_pos h

end Cipher

/-- Settles O33: each clause's premises leave one path open through its command's meaning. -/
theorem cipherComplete : Obligations.CipherComplete := by
  rintro s _ rfl
  refine ⟨fun n x rest hn hr hs hx => ⟨fun he => ?clearDown, fun c he hk ht hw => ?keyedDown⟩,
    fun n f x rest hn hx => ⟨fun he hi => ?clearUp, fun he hc hi hv ht => ?keyedUp⟩, fun pair hp h => ?scan⟩
  case clearDown =>
    exact exec_next_of_eq (.dsEncrypt n false false) _ s rfl (decide_eq_true hn) (Dev.dsEncrypt_of_clear hr hs hx he)
  case keyedDown =>
    exact exec_next_of_eq (.dsEncrypt n false false) _ s rfl (decide_eq_true hn)
      (Dev.dsEncrypt_of_keyed hr hs hx he hk ht hw)
  case clearUp =>
    exact exec_next_of_eq (.usDecrypt n false) _ s rfl (decide_eq_true hn) (Dev.usDecrypt_of_clear hx he hi false)
  case keyedUp =>
    exact exec_next_of_eq (.usDecrypt n false) _ s rfl (decide_eq_true hn) (Dev.usDecrypt_of_keyed hx he hc hi hv ht)
  case scan =>
    exact exec_next_of_eq (.pauseScanDone pair) _ s rfl (decide_eq_true hp) (Dev.pauseScanDone_of_scanning h)

end Sys2Proof.Machine
end

section
/-! The end of a step and time alone: no event waits in FT, whatever its rounds apply (R410). -/

namespace Sys2Proof.Machine

/-- Settling ends with no event waiting: each round either finds none, or discards them while SUP is in reset, or
applies them and goes on, and the last one discards what is left. -/
theorem Dev.settleN_drained (k : Nat) (d : Dev) : (d.settleN k).drained = true := by
  induction k generalizing d with
  | zero => rfl
  | succ k ih =>
    rw [Dev.settleN]
    split
    case isTrue none => simp only [Dev.drained, none, BEq.rfl]
    case isFalse =>
      split
      · rfl
      · exact ih _

/-- After time alone has passed no event waits. -/
theorem Dev.idle_drained (d : Dev) : d.idle.drained = true := by
  rw [Dev.idle, Dev.settle]
  exact Dev.settleN_drained 16 _

/-- After a command no event waits. -/
theorem exec_drained {c : Instr} {s t : State} (h : exec c s = .next t) : t.dev.drained = true := by
  obtain ⟨f, hf⟩ := exec_eq_run c
  cases hw : c.wellFormed with
  | true =>
    rw [hf, s.run_next c f hw] at h
    obtain rfl := Host.Outcome.next.inj h
    exact Dev.settleN_drained 16 _
  | false =>
    rw [hf, s.run_fault c f hw] at h
    cases h

/-- Settles O3: a step is a command or the passing of time, and either ends in FT's rounds. -/
theorem stepLeavesNoEvent : Obligations.StepLeavesNoEvent := by
  intro s t h
  cases hq : s.pending with
  | nil =>
    rw [step_nil s hq] at h
    simp only [← Host.Outcome.next.inj h]
    exact s.dev.idle_drained
  | cons c l =>
    rw [step_of_pending hq] at h
    exact exec_drained h

/-- Settles O4: the reset state lists nothing and holds no event. -/
theorem resetDrainedCanonical : Obligations.ResetDrainedCanonical := ⟨rfl, rfl, rfl⟩

/-- Settles O2: the step is defined by the queue's front. -/
theorem emptyQueueIdles : Obligations.EmptyQueueIdles := step_nil

end Sys2Proof.Machine
end

section
/-! The canonical form of the stores under the operations that write them (R35, R36, R37, R43). -/

namespace Sys2Proof.Machine

section Canonical
variable {d : Dev}

/-- The canonical form is that of the three stores. -/
theorem Dev.canonical_iff : d.canonical = true ↔
    d.regs.wf regDefault = true ∧ d.tbls.wf tblDefault = true ∧ d.shads.wf (fun _ => 0) = true := by
  simp only [Dev.canonical, Bool.and_eq_true, and_assoc]

/-- What leaves the three stores leaves their form. -/
theorem Dev.canonical_of_stores {e : Dev} (h : d.canonical = true) (hr : e.regs = d.regs) (ht : e.tbls = d.tbls)
    (hs : e.shads = d.shads) : e.canonical = true := by
  rw [Dev.canonical, hr, ht, hs]
  exact h

theorem Dev.canonical_wr (h : d.canonical = true) (p : Page) (f : Fld) (v : Nat) : (d.wr p f v).canonical = true := by
  obtain ⟨hr, ht, hs⟩ := Dev.canonical_iff.mp h
  exact Dev.canonical_iff.mpr ⟨d.wr_wf p f v hr, ht, hs⟩

theorem Dev.canonical_wrT (h : d.canonical = true) (t : Tbl) (i : Nat) (f : Fld) (v : Nat) :
    (d.wrT t i f v).canonical = true := by
  obtain ⟨hr, ht, hs⟩ := Dev.canonical_iff.mp h
  exact Dev.canonical_iff.mpr ⟨hr, d.wrT_wf t i f v ht, hs⟩

theorem Dev.canonical_wrTs (h : d.canonical = true) (t : Tbl) (i : Nat) (l : List (Fld × Nat)) :
    (d.wrTs t i l).canonical = true := by
  induction l generalizing d with
  | nil => exact h
  | cons e l ih => exact ih (Dev.canonical_wrT h t i e.1 e.2)

/-- What neither the vectors nor what leaves the module show, a message keeps. -/
theorem Dev.msixSend_keeps {α : Type} (P : Dev → α) (hv : ∀ (e : Dev) (v : Hif), P { e with hif := v } = P e)
    (ho : ∀ (e : Dev) (o : Out), P (e.emit o) = P e) (d : Dev) (f v : Nat) (keep : Bool) :
    P (d.msixSend f v keep) = P d := by
  unfold Dev.msixSend
  dsimp only
  split
  · rfl
  · split
    · exact hv _ _
    · exact ho _ _

/-- What no write of a register and no message changes, an event keeps. -/
theorem Dev.raise_keeps {α : Type} (P : Dev → α) (hw : ∀ (e : Dev) (p : Page) (f : Fld) (v : Nat), P (e.wr p f v) = P e)
    (hv : ∀ (e : Dev) (v : Hif), P { e with hif := v } = P e) (ho : ∀ (e : Dev) (o : Out), P (e.emit o) = P e)
    (d : Dev) (p : Page) (b : Nat) : P (d.raise p b) = P d := by
  unfold Dev.raise Dev.pendEdge
  split
  · exact (Dev.msixSend_keeps P hv ho _ _ _ _).trans (hw _ _ _ _)
  · exact hw _ _ _ _

/-- An event leaves the shadows. -/
@[simp] theorem Dev.raise_shads (d : Dev) (p : Page) (b : Nat) : (d.raise p b).shads = d.shads :=
  Dev.raise_keeps Dev.shads (fun _ _ _ _ => rfl) (fun _ _ => rfl) (fun _ _ => rfl) d p b

/-- An event writes INT_RAW, and its message touches no store. -/
theorem Dev.canonical_raise (h : d.canonical = true) (p : Page) (b : Nat) : (d.raise p b).canonical = true :=
  Dev.canonical_of_stores (Dev.canonical_wr h p INT_RAW.RAW (setBit (d.rd p INT_RAW.RAW) b)) (d.raise_regs p b)
    (d.raise_tbls p b) (Dev.raise_shads d p b)

/-- An error of a page writes its count, the first error where armed, and INT_RAW. -/
theorem Dev.canonical_logErr (h : d.canonical = true) (p : Page) (code : Nat) : (d.logErr p code).canonical = true := by
  have counted : (d.sat p ERR_COUNT.COUNT).canonical = true := Dev.canonical_wr h _ _ _
  refine Dev.canonical_raise ?_ p 29
  split
  · exact Dev.canonical_wr (Dev.canonical_wr counted _ _ _) _ _ _
  · exact counted

/-- The engine's start afresh leaves the three stores. -/
theorem Dev.canonical_bwRestart (h : d.canonical = true) : d.bwRestart.canonical = true := by
  unfold Dev.bwRestart
  exact List.foldlRecOn (motive := fun e : Dev => e.canonical = true) (List.range 48) _ h fun _ he _ _ =>
    Dev.canonical_of_stores he rfl rfl rfl

/-- What a domain's blocks hold beside pages and tables is no store of fields. -/
theorem Dev.canonical_resetInner (h : d.canonical = true) (k : Nat) : (d.resetInner k).canonical = true := by
  have restarted := Dev.canonical_iff.mp (Dev.canonical_bwRestart h)
  have held := Dev.canonical_iff.mp h
  unfold Dev.resetInner
  split_ifs
  case pos => exact Dev.canonical_of_stores h (Dev.setCtl_regs _ _ _) (Dev.setCtl_tbls _ _ _) (Dev.setCtl_shads _ _ _)
  all_goals simp only [Dev.canonical_iff, restarted, held, and_self]

/-- A block reset keeps some register fields and every table. -/
theorem Dev.canonical_resetPage (h : d.canonical = true) (p : Page) : (d.resetPage p).canonical = true := by
  obtain ⟨regs, tbls, shads⟩ := Dev.canonical_iff.mp h
  simp only [Dev.canonical_iff, Dev.resetPage]
  exact ⟨Store.wf_keep _ _ _ regs, tbls, shads⟩

/-- A domain reset keeps some fields, entries and shadows, and writes the domain's gating. -/
theorem Dev.canonical_resetDomain (h : d.canonical = true) (k : Nat) : (d.resetDomain k).canonical = true := by
  obtain ⟨regs, tbls, shads⟩ := Dev.canonical_iff.mp h
  unfold Dev.resetDomain
  refine Dev.canonical_of_stores (Dev.canonical_wrTs (Dev.canonical_resetInner ?kept k) .ckDomainCtrl k _)
    (Dev.setDom_regs _ _ _) (Dev.setDom_tbls _ _ _) (Dev.setDom_shads _ _ _)
  simp only [Dev.canonical_iff]
  exact ⟨Store.wf_keep _ _ _ regs, Store.wf_keep _ _ _ tbls, Store.wf_keep _ _ _ shads⟩

/-- Counters cleared together are entries no longer listed. -/
theorem Dev.canonical_clearRange (h : d.canonical = true) {t : Tbl} (ht : t.isCounter = true) (i k : Nat) :
    (d.clearRange t i k).canonical = true := by
  obtain ⟨regs, tbls, shads⟩ := Dev.canonical_iff.mp h
  simp only [Dev.clearRange, if_pos ht, Dev.canonical_iff]
  exact ⟨regs, Store.wf_keep _ _ _ tbls, shads⟩

end Canonical

/-- Settles O7: each operation writes keys, or keeps some of them, of stores in canonical form. -/
theorem storeOperationsKeepCanonical : Obligations.StoreOperationsKeepCanonical := fun _ h =>
  ⟨Dev.canonical_wr h, Dev.canonical_wrT h, Dev.canonical_resetPage h, Dev.canonical_resetDomain h,
    Dev.canonical_raise h, Dev.canonical_logErr h, fun _ i k ht => Dev.canonical_clearRange h ht i k⟩

end Sys2Proof.Machine
end

section
/-! Module time: a number of 2^-32 ns as a time, and what the updates after a step leave of it (R310, R311). -/

namespace Sys2Proof.Machine

/-! ## Times and their counts -/

theorem TimeVal.ok_iff (t : TimeVal) : t.ok = true ↔ t.sec < 2 ^ 48 ∧ t.ns < 1000000000 ∧ t.frac < 2 ^ 32 := by
  simp only [TimeVal.ok, Bool.and_eq_true, decide_eq_true_eq, and_assoc]

/-- A count of 2^-32 ns is a time, modulo 2^48 seconds. -/
theorem TimeVal.ofInt_ok (v : Int) : (TimeVal.ofInt v).ok = true := by
  rw [TimeVal.ok_iff, TimeVal.ofInt]
  dsimp only
  omega

/-- A time is determined by its count. -/
theorem TimeVal.ofInt_toNat {t : TimeVal} (h : t.ok = true) : TimeVal.ofInt t.toNat = t := by
  obtain ⟨sec, ns, frac⟩ := t
  obtain ⟨hs, hn, hf⟩ := (TimeVal.ok_iff _).mp h
  simp only [TimeVal.ofInt, TimeVal.toNat, TimeVal.mk.injEq] at *
  omega

/-! ## What leaves module time -/

section Kept
variable (d : Dev)

@[simp] theorem Dev.raise_time (p : Page) (b : Nat) : (d.raise p b).time = d.time :=
  Dev.raise_keeps Dev.time (fun _ _ _ _ => rfl) (fun _ _ => rfl) (fun _ _ => rfl) d p b

@[simp] theorem Dev.cnt_time (t : Tbl) (i k : Nat) : (d.cnt t i k).time = d.time := by
  unfold Dev.cnt
  split <;> rfl

@[simp] theorem Dev.wrs_time (p : Page) (l : List (Fld × Nat)) : (d.wrs p l).time = d.time :=
  d.wrs_keeps p l Dev.time fun _ _ _ _ => rfl

/-- What every element's turn keeps, the turns together keep. -/
theorem Dev.foldl_keeps {α β : Type} (P : Dev → α) {f : Dev → β → Dev} (h : ∀ e b, P (f e b) = P e) (l : List β) :
    P (l.foldl f d) = P d := by
  induction l generalizing d with
  | nil => rfl
  | cons b l ih => exact (ih _).trans (h d b)

/-- The tick takes shadows and shows the second. -/
@[simp] theorem Dev.tick_time (byStep : Bool) : (d.tick byStep).time = d.time := by
  simp [Dev.tick]

/-- Launches set back wait in their queues' entries. -/
@[simp] theorem Dev.relaunch_time : d.relaunch.time = d.time := by
  refine d.foldl_keeps Dev.time (fun e b => ?_) _
  split
  · split <;> rfl
  · rfl

/-- Announcements built before a step are marked and counted. -/
@[simp] theorem Dev.annStepped_time : d.annStepped.time = d.time :=
  d.foldl_keeps Dev.time (fun e b => by simp) _

/-- Module time after a step is the value stepped to. -/
@[simp] theorem Dev.stepTo_time (t : TimeVal) : (d.stepTo t).time = t := by
  unfold Dev.stepTo
  dsimp only
  split <;> simp

end Kept

/-! ## Counting (R311) -/

/-- Five cycles of the TM domain end at a count's time. -/
theorem Dev.countTime_time (d : Dev) : d.countTime.time = TimeVal.ofInt ((d.time.toNat : Int) + 5 * d.inc) := by
  unfold Dev.countTime
  dsimp only
  split
  · rfl
  · exact Dev.tick_time _ _

/-- The next second begins at its first instant. -/
theorem Dev.wrapSecond_time (d : Dev) : d.wrapSecond.time = ⟨(d.time.sec + 1) % 2 ^ 48, 0, 0⟩ :=
  Dev.tick_time _ _

/-- Settles O38: every new time is a count's time or a second's first instant. -/
theorem moduleTimeStaysTime : Obligations.ModuleTimeStaysTime := by
  refine ⟨TimeVal.ofInt_ok, fun d _ => ⟨?counted, ?wrapped⟩, fun d v => ?stepped, fun t => TimeVal.ofInt_toNat⟩
  case counted => exact d.countTime_time ▸ TimeVal.ofInt_ok _
  case wrapped =>
    rw [Dev.wrapSecond_time, TimeVal.ok_iff]
    exact ⟨Nat.mod_lt _ (by decide), Nat.succ_pos _, Nat.two_pow_pos _⟩
  case stepped =>
    rw [Dev.stepBy, Dev.stepTo_time]
    exact TimeVal.ofInt_ok _

end Sys2Proof.Machine
end

section
/-! Check values (R443): feeding byte by byte, and the width of the register. -/

namespace Sys2Proof.Machine

variable {alg : Nat}

/-- The polynomial of an algorithm fits its register. -/
theorem cvPoly_lt (alg : Nat) : cvPoly alg < 2 ^ cvWidth alg := by
  unfold cvPoly cvWidth
  split_ifs <;> omega

/-- One bit of the division stays within the register. -/
theorem cvShift_lt (alg reg : Nat) : cvShift alg reg < 2 ^ cvWidth alg := by
  have shifted : reg * 2 % 2 ^ cvWidth alg < 2 ^ cvWidth alg := Nat.mod_lt _ (Nat.two_pow_pos _)
  unfold cvShift
  dsimp only
  split
  · exact Nat.xor_lt_two_pow shifted (cvPoly_lt alg)
  · exact shifted

/-- A byte ends with its eighth shift. -/
theorem cvByte_lt (alg reg : Nat) (b : Byte) : cvByte alg reg b < 2 ^ cvWidth alg := by
  unfold cvByte
  dsimp only
  rw [List.range_succ, List.foldl_append]
  exact cvShift_lt alg _

/-- Fed with any bytes, the register stays within its width. -/
theorem cvFeed_lt {l : List Byte} (h : l ≠ []) (reg : Nat) : cvFeed alg reg l < 2 ^ cvWidth alg := by
  induction l generalizing reg with
  | nil => exact absurd rfl h
  | cons b l ih =>
    cases l with
    | nil => exact cvByte_lt alg reg b
    | cons c l => exact ih (List.cons_ne_nil c l) (cvByte alg reg b)

/-- Settles O46: the four values are computed, feeding is a fold, and every byte ends in a shift. -/
theorem checkValues : Obligations.CheckValues :=
  ⟨by decide +kernel, fun alg reg _ _ => ⟨List.foldl_append, fun h => cvFeed_lt h reg⟩⟩

end Sys2Proof.Machine
end

section
/-! Host accesses that reach their register, and HI_ERR (R437). -/

namespace Sys2Proof.Machine

/-- A field that is not zero is on. -/
theorem Dev.on_of_ne {d : Dev} {p : Page} {f : Fld} (h : d.rd p f ≠ 0) : d.on p f = true := bne_iff_ne.mpr h

/-- A field that is zero is off. -/
theorem Dev.off_of_eq {d : Dev} {p : Page} {f : Fld} (h : d.rd p f = 0) : d.on p f = false := bne_eq_false_iff_eq.mpr h

/-- A host command whose write is accepted answers the state after its known effect. -/
theorem exec_next_of_accepted (c : Instr) (s : State) {b : By} {p : Page} {fld : Fld} {v : Nat} {k : Dev → Dev}
    {e : Dev} (hx : exec c s = s.run c (fun d => d.hostF b p fld v k)) (hw : c.wellFormed = true)
    (ha : s.dev.accepts b p fld v = true) (he : k s.dev = e) : exec c s = .next (s.after e) :=
  he ▸ exec_next_after_hostF c s hx hw ha

/-- A host command whose read reaches its page returns the value, and answers the state after its known effect. -/
theorem exec_next_of_read (c : Instr) (s : State) {b : By} {p : Page} {off x : Nat} {k : Dev → Nat × Dev} {e : Dev}
    (hx : exec c s = s.run c (fun d => d.hostR b p off k)) (hw : c.wellFormed = true)
    (hr : s.dev.readable b p = true) (he : k s.dev = (x, e)) :
    exec c s = .next (s.after (e.emit (.rdata b.func (bytesOf b x)))) := by
  rw [exec_next_after c _ s hx hw, Dev.hostR_readable _ _ _ _ _ hr, he]
  rfl

/-- A bit reads as set once it is set. -/
theorem hasBit_setBit_zero (v : Nat) : hasBit (setBit v 0 % 2 ^ 32) 0 = true := by
  unfold setBit
  split
  case isTrue set =>
    simp only [hasBit, beq_iff_eq] at *
    omega
  case isFalse clear =>
    simp only [hasBit, beq_iff_eq] at *
    omega

section HiErr
variable (d : Dev) (code func ofs : Nat) (isRead : Bool)

/-- The fields of the record in HI_ERR and HI_ERR_ADDR. -/
def hiErrFields : List (Fld × Nat) :=
  [(HI_ERR.CODE, code), (HI_ERR.FUNC, func), (HI_ERR.RD, isRead.toNat), (HI_ERR_ADDR.OFS, ofs)]

/-- On HI's own page a logged error writes the record, the count and INT_RAW; what else it reports stands elsewhere. -/
theorem Dev.rd_hiErr {f : Fld} (hf : f ∈ Page.hi0.fields) : (d.hiErr code func isRead ofs).rd .hi0 f =
    (((d.wrs .hi0 (hiErrFields code func ofs isRead)).sat .hi0 HI_ERR_CNT.COUNT).raise .hi0 0).rd .hi0 f := by
  unfold Dev.hiErr
  dsimp only
  split
  · exact Dev.rd_sep _ hf (by decide) _ _ _
  · split <;> rfl

/-- The record shows what was logged, where the values fit their fields. -/
theorem Dev.rd_hiErr_record {f : Fld} {v : Nat} (hc : (f, v) ∈ hiErrFields code func ofs isRead)
    (hf : f ∈ Page.hi0.fields) (hn : f.slot ≠ HI_ERR_CNT.COUNT.slot) (hr : f.slot ≠ INT_RAW.RAW.slot)
    (hv : v < 2 ^ f.width) : (d.hiErr code func isRead ofs).rd .hi0 f = v := by
  rw [Dev.rd_hiErr _ _ _ _ _ hf, Dev.rd_raise, Dev.rd_wr_place _ _ _ hr, Dev.sat, Dev.rd_wr_place _ _ _ hn]
  exact (Dev.rd_wrs_of_mem _ _ _ (by simp only [hiErrFields, List.map_cons, List.map_nil]; decide) hc).trans
    (Nat.mod_eq_of_lt hv)

/-- The count goes on, up to its width. -/
theorem Dev.rd_hiErr_count : (d.hiErr code func isRead ofs).rd .hi0 HI_ERR_CNT.COUNT =
    min (d.rd .hi0 HI_ERR_CNT.COUNT + 1) (2 ^ HI_ERR_CNT.COUNT.width - 1) := by
  rw [Dev.rd_hiErr _ _ _ _ _ (by decide), Dev.rd_raise, Dev.rd_wr_place _ _ _ (by decide), Dev.sat, Dev.rd_wr_same,
    Dev.rd_wrs_place _ _ (by simp only [hiErrFields, List.forall_mem_cons]; decide)]
  exact Nat.mod_eq_of_lt (Nat.lt_of_le_of_lt (Nat.min_le_right _ _) (by decide))

/-- ERR_LOG is raised. -/
theorem Dev.rd_hiErr_raw : hasBit ((d.hiErr code func isRead ofs).rd .hi0 INT_RAW.RAW) 0 = true := by
  rw [Dev.rd_hiErr _ _ _ _ _ (by decide), Dev.rd_raise, Dev.rd_wr_same]
  exact hasBit_setBit_zero _

end HiErr

/-- Settles O44: each field of the record is written once, with a value that fits it. -/
theorem accessErrorRecord : Obligations.AccessErrorRecord := by
  intro d code func ofs isRead hc hf ho
  have record {f : Fld} {v : Nat} := Dev.rd_hiErr_record d code func ofs isRead (f := f) (v := v)
  refine ⟨?code, ?func, ?dir, ?offset, d.rd_hiErr_count code func ofs isRead, d.rd_hiErr_raw code func ofs isRead⟩
  case code => exact record (by simp [hiErrFields]) (by decide) (by decide) (by decide) hc
  case func => exact record (by simp [hiErrFields]) (by decide) (by decide) (by decide) hf
  case dir => exact record (by simp [hiErrFields]) (by decide) (by decide) (by decide) isRead.toNat_lt
  case offset => exact record (by simp [hiErrFields]) (by decide) (by decide) (by decide) ho

end Sys2Proof.Machine
end

section
/-! The host's rings: indices, descriptors taken, the messages they carry, and their ends (R428–R436). -/

namespace Sys2Proof.Machine

section Rings
variable {d : Dev} {f r i : Nat}

/-- A ring as set. -/
@[simp] theorem Dev.ring_setRing (d : Dev) (f r : Nat) (g : Ring) : (d.setRing f r g).ring f r = g :=
  Store.get_put_same _ _ _ _

/-! ## Descriptors taken (R429) -/

/-- A descriptor is taken from a running, enabled ring that has one beyond those taken. -/
theorem Dev.txTake_eq_some {len : Nat} {e : Dev} : d.txTake f r len = some (i, e) ↔
    (d.ringsLive f = true ∧ d.on (.hir f) (HI_RING_CFG.EN r) = true ∧ (d.ring f r).taken.length < d.ringUsed f r) ∧
    (d.rd (.hir f) (HI_RING_IDX.CI r) + (d.ring f r).taken.length) % 8192 = i ∧
    d.setRing f r { d.ring f r with taken := (d.ring f r).taken ++ [⟨i, len, none⟩] } = e := by
  unfold Dev.txTake
  dsimp only
  split
  case isTrue h =>
    simp only [h, and_self, true_and, Option.some.injEq, Prod.mk.injEq]
    constructor
    · rintro ⟨rfl, rfl⟩
      exact ⟨rfl, rfl⟩
    · rintro ⟨rfl, rfl⟩
      exact ⟨rfl, rfl⟩
  case isFalse h => simp only [h, false_and, reduceCtorEq]

/-- A message is treated on the device with its descriptor taken. -/
theorem Dev.txWith_of_taken {len : Nat} {e : Dev} (h : d.txTake f r len = some (i, e)) (k : Nat → Dev → Dev) :
    d.txWith f r len k = k i e := by
  rw [Dev.txWith, h]

/-! ## Indices (R428) -/

/-- A producer index within the ring is taken. -/
theorem Dev.wRingIdx_tx {s v : Nat} (hs : s < 8)
    (h : ((HI_RING_IDX.PI s).get v + 8192 - d.rd (.hir f) (HI_RING_IDX.CI s)) % 8192 ≤ d.ringSize f s) :
    Dev.wRingIdx f s v [] d = d.wr (.hir f) (HI_RING_IDX.PI s) ((HI_RING_IDX.PI s).get v) := by
  rw [Dev.wRingIdx, if_pos hs]
  exact if_neg (Nat.not_lt.mpr h)

/-- A consumer index within the ring frees descriptors, and what waits for one is offered again. -/
theorem Dev.wRingIdx_rx {s v : Nat} {lens : List Nat} (hs : 8 ≤ s)
    (h : (d.rd (.hir f) (HI_RING_IDX.PI s) + 8192 - (HI_RING_IDX.CI s).get v) % 8192 ≤ d.ringSize f s) :
    Dev.wRingIdx f s v lens d =
    (let old := d.rd (.hir f) (HI_RING_IDX.CI s)
     let ci := (HI_RING_IDX.CI s).get v
     let bl := lens.zipIdx.foldl (fun (st : Store Nat) (e : Nat × Nat) =>
       st.put 16384 ((old + e.2) % d.ringSize f s) e.1) (d.ring f s).bufLens
     let d1 := (d.wr (.hir f) (HI_RING_IDX.CI s) ci).setRing f s { d.ring f s with bufLens := bl }
     (if f = 0 then (d1.azConsumed 0 s old ci).azConsumed 1 s old ci else d1).rxRetry f) := by
  rw [Dev.wRingIdx, if_neg (Nat.not_lt.mpr hs)]
  exact if_neg (Nat.not_lt.mpr h)

end Rings

/-- Settles O41: a descriptor is taken under one condition, with one effect. -/
theorem txTakeIsNext : Obligations.TxTakeIsNext := by
  refine fun d f r len => ⟨fun i e h => ?_, fun hl he hu => ?_⟩
  · obtain ⟨⟨live, enabled, -⟩, rfl, rfl⟩ := Dev.txTake_eq_some.mp h
    exact ⟨bne_iff_ne.mp enabled, live, rfl, by rw [Dev.ring_setRing], rfl, rfl, rfl⟩
  · exact Option.isSome_iff_exists.mpr ⟨(_, _), Dev.txTake_eq_some.mpr ⟨⟨hl, bne_iff_ne.mpr he, hu⟩, rfl, rfl⟩⟩

/-- Settles O39: an index within the ring passes the one check of its write. -/
theorem doorbellsComplete : Obligations.DoorbellsComplete := by
  rintro s _ rfl
  refine ⟨fun b f r v hw ha hi => ?producer, fun b f x v lens hw ha hi => ?consumer⟩
  case producer =>
    have hr : r < 8 := by
      simp only [Instr.wellFormed, Bool.and_eq_true, decide_eq_true_eq] at hw
      exact hw.1.2
    exact exec_next_of_accepted (.txRingDoorbell b f r v) s rfl hw ha (Dev.wRingIdx_tx hr hi)
  case consumer =>
    exact exec_next_of_accepted (.rxRingConsume b f x v lens) s rfl hw ha (Dev.wRingIdx_rx (Nat.le_add_right 8 x) hi)

/-! ## TX messages (R322, R324, R433, R434) -/

section Messages
variable {d e : Dev} {f r i target : Nat} {bytes : List Byte}

/-- A tenant's message may name what its own function owns, T0's anything. -/
theorem not_foreign {a : Nat} (h : f = 0 ∨ a = f) : ¬ (f ≠ 0 ∧ a ≠ f) := by omega

theorem Dev.txFlow_of_allowed {x : Stamp} (ht : target < 131072) (ho : f = 0 ∨ e.rdT .clFlow target CL_FLOW.TENANT = f)
    (h60 : 60 ≤ bytes.length) (hl : bytes.length ≤ 16384) (hd : d.txTake f r bytes.length = some (i, e))
    (hx : x.bad f bytes.length false = false) :
    Dev.txFlow f r target bytes x d = e.txFrame f r i (.flow target) bytes none := by
  simp only [Dev.txFlow, Dev.txWith_of_taken hd, not_foreign ho, Nat.not_le.mpr ht, Nat.not_lt.mpr h60,
    Nat.not_lt.mpr hl, hx, or_self, if_false, Bool.false_eq_true]

theorem Dev.txAgg_of_allowed {x : Stamp} (ht : target < 16384) (ho : f = 0 ∨ e.rdT .scAgg target SC_AGG.TENANT = f)
    (h60 : 60 ≤ bytes.length) (hl : bytes.length ≤ 16384) (hd : d.txTake f r bytes.length = some (i, e))
    (hx : x.bad f bytes.length true = false) : Dev.txAgg f r target bytes x d =
    (if x.tsMode = 3 then e.freed else e).txFrame f r i (.agg target) bytes (some (e.stampReq x f)) := by
  simp only [Dev.txAgg, Dev.txWith_of_taken hd, not_foreign ho, Nat.not_le.mpr ht, Nat.not_lt.mpr h60,
    Nat.not_lt.mpr hl, hx, or_self, if_false, Bool.false_eq_true]

theorem Dev.txOmci_of_allowed {u : Nat} (ht : target < 12288) (h1 : 1 ≤ bytes.length) (hl : bytes.length ≤ 2048)
    (hd : d.txTake f r bytes.length = some (i, e))
    (ho : f = 0 ∨ (e.rdT .tnTenant f TN_TENANT.OMCI_EN ≠ 0 ∧ e.onuTenant target = f))
    (hv : e.rdT .cxOnuKeys target CX_ONU_KEYS.OMCI_V ≠ 0) (hu : e.pathUnit = some u) :
    Dev.txOmci f r target bytes false d = (e.omciSend target u bytes).txEnd f r i 0 0 := by
  have enabled : ¬ (f ≠ 0 ∧ (!e.onT .tnTenant f TN_TENANT.OMCI_EN) = true) := by
    rintro ⟨vf, off⟩
    simp only [Dev.onT, Bool.not_eq_true', bne_eq_false_iff_eq] at off
    exact (ho.resolve_left vf).1 off
  have own : ¬ (f ≠ 0 ∧ e.onuTenant target ≠ f) := not_foreign (ho.imp_right And.right)
  have keyed : e.onT .cxOnuKeys target CX_ONU_KEYS.OMCI_V = true := bne_iff_ne.mpr hv
  simp only [Dev.txOmci, Dev.txWith_of_taken hd, enabled, own, keyed, hu, Nat.not_le.mpr ht, Nat.not_lt.mpr h1,
    Nat.not_lt.mpr hl, or_self, if_false, Bool.not_true, Bool.false_eq_true]

theorem Dev.txPloam_of_allowed {onu : Nat} {type : DsPloamType} {body : List Byte} (ht : target < 48)
    (hq : d.hostPloams target < 64) (hd : d.txTake 0 r 40 = some (i, e)) :
    Dev.txPloam 0 r target 40 onu type body false d = { e with te := { e.te with subs := e.te.subs ++
      [(target, { ring := some (r, i), host := true, onu := onu, type := type, body := body })] } } := by
  simp only [Dev.txPloam, Dev.txWith_of_taken hd, Nat.not_le.mpr ht, Nat.not_le.mpr hq, and_false, if_false, ne_eq,
    not_true_eq_false, Bool.false_eq_true]

theorem Dev.txAztil_of_allowed {k : Nat} (hk : k < 2) (h1 : 1 ≤ bytes.length) (hl : bytes.length ≤ 2046)
    (hd : d.txTake 0 r bytes.length = some (i, e)) (hn : d.linkOn k = true) (hq : (d.lnk k).unacked.length < 64)
    (he : e.rd (.pxl k) PX_PEER_CFG.EN ≠ 0) : Dev.txAztil 0 r k bytes false d =
    (let l := e.lnk k
     ((e.setLnk k { l with unacked := l.unacked ++ [{ ring := r, idx := i, id := l.seqs.get 0 3 }] }).cnt
       (.pxLinkCnt k) 8).cellsOut k 3 r (beBytes 2 (e.epoch 16) ++ bytes)) := by
  simp only [Dev.txAztil, Dev.txWith_of_taken hd, Dev.on_of_ne he, hn, Nat.not_le.mpr hk, Nat.not_le.mpr hq,
    Nat.not_lt.mpr h1, Nat.not_lt.mpr hl, or_self, and_false, if_false, ne_eq, not_true_eq_false, Bool.not_true,
    Bool.false_eq_true]

end Messages

/-- Settles O40: each message passes its checks in turn. -/
theorem txMessagesComplete : Obligations.TxMessagesComplete := by
  rintro s _ f r i e rfl -
  refine ⟨fun target bytes tm ti tofs uo ps pn hw ht ho h60 hl hd hx => ?flow,
    fun target bytes tm ti tofs uo l ps pn hw ht ho h60 hl hd hx => ?agg,
    fun target bytes u hw ht h1 hl hd ho hv hu => ?omci, ?hostOnly⟩
  case flow =>
    exact exec_next_of_eq (.txFlowFrame f r target bytes tm ti tofs uo false ps pn) _ s rfl hw
      (Dev.txFlow_of_allowed ht ho h60 hl hd hx)
  case agg =>
    exact exec_next_of_eq (.txAggFrame f r target bytes tm ti tofs uo l ps pn) _ s rfl hw
      (Dev.txAgg_of_allowed ht ho h60 hl hd hx)
  case omci =>
    exact exec_next_of_eq (.txOmci f r target bytes false) _ s rfl hw (Dev.txOmci_of_allowed ht h1 hl hd ho hv hu)
  case hostOnly =>
    rintro rfl
    refine ⟨fun target onu type body hw ht hq hd => ?ploam, fun k bytes hw hk h1 hl hd hn hq he => ?aztil⟩
    case ploam =>
      exact exec_next_of_eq (.txPloam 0 r target 40 onu type body false) _ s rfl hw (Dev.txPloam_of_allowed ht hq hd)
    case aztil =>
      exact exec_next_of_eq (.txAztilMessage 0 r k bytes false) _ s rfl hw (Dev.txAztil_of_allowed hk h1 hl hd hn hq he)

end Sys2Proof.Machine
end

section
/-! Host aggregates, failed DMAs, coalesced messages, the PCIe link and the counters that a read clears (R430, R431,
R436, R437, R444, R445). -/

namespace Sys2Proof.Machine

section Events
variable {d : Dev} {f slot : Nat}

/-- Function `f`'s aggregate is a scheduler aggregate: its frames count in events 9 and 10. -/
theorem Dev.aggCount_host (x : Dev) (hf : f < 16) (len : Nat) :
    x.aggCount (aggQ (16368 + f)) len = (x.pm 9 (16368 + f)).pm 10 (16368 + f) len := by
  have inst : aggQ (16368 + f) - 131072 = 16368 + f := by simp [aggQ]
  rw [Dev.aggCount, if_pos (by simp only [aggQ]; omega), inst]

/-- The head frame of a host aggregate is written to the accepting ring, and its buffer released. -/
theorem Dev.aggServeN_of_written {k r : Nat} {x e : Dev} {h : Held} {t : List Held} (hk : 0 < k) (hf : f < 16)
    (hq : (x.queue (aggQ (16368 + f))).frames = h :: t) (hr : x.rxRing f 2 = some r)
    (hi : x.itemReady (.queue (aggQ (16368 + f))) = true) (hd : x.rxFree f r = true)
    (hc : x.deqOk (aggQ (16368 + f)) h = true)
    (ho : (((x.pm 9 (16368 + f)).pm 10 (16368 + f) h.len).takeHead (aggQ (16368 + f)) h.len).rxOffer f
      { cls := 2, reason := 0, source := 16368 + f, ts := (x.pkt h.handle).bind Pkt.ts, epoch := x.epoch f,
        bytes := x.pktBytes h.handle } = (.written, e)) :
    Dev.aggServeN f false k false x = e.release h.handle h.tag := by
  obtain ⟨k, rfl⟩ := Nat.exists_eq_succ_of_ne_zero hk.ne'
  simp only [Dev.aggServeN, hq, hr, hi, hd, hc, Dev.aggCount_host x hf, ho, Bool.not_true, Bool.or_self,
    Bool.false_and, Bool.false_eq_true, if_false, if_true]

/-- A failed DMA of an RX ring stops the ring, and is logged and reported. -/
theorem Dev.dmaError_rx {i : Nat} {isRead : Bool} (hs : 8 ≤ slot) (hl : d.ringsLive f = true)
    (he : d.rd (.hir f) (HI_RING_CFG.EN slot) ≠ 0) : Dev.dmaError f slot i isRead true d =
    (let d2 := d.wrs (.hir f) [(HI_RING_CFG.ERR slot, 1), (HI_RING_CFG.EN slot, 0)]
     ((d2.freed.hiErr 8 f isRead d2.free).raise (.hir f) 0).report 53 0) := by
  simp only [Dev.dmaError, hl, Dev.on_of_ne he, Nat.not_lt.mpr hs, false_and, if_false, Bool.and_self, if_true]

/-- Completions not yet signalled are signalled by one message. -/
theorem Dev.coalesceEnd_of_unsignalled (hl : d.ringsLive f = true) (hu : (d.ring f slot).unsig ≠ 0) :
    Dev.coalesceEnd f slot d =
    (d.setRing f slot { d.ring f slot with unsig := 0 }).msixSend f (d.rd (.hir f) (HI_RING_CFG.VECTOR slot)) true := by
  simp only [Dev.coalesceEnd, hl, hu, decide_false, Bool.not_true, Bool.or_self, Bool.false_eq_true, if_false]

end Events

/-- Settles O42: each clause's premises leave one path open through its event's meaning. -/
theorem ringEventsComplete : Obligations.RingEventsComplete := by
  rintro s _ rfl
  refine ⟨fun f h t r e hf ht hl hq hr hi hd hc ho => ?aggregate, fun f slot i isRead hf h8 hs hi hl he => ?dma,
    fun f slot hf hs hl hu => ?coalesced⟩
  case aggregate =>
    have served : Dev.aggServe f false false s.dev = e.release h.handle h.tag := by
      rw [Dev.aggServe, ht, hl]
      exact Dev.aggServeN_of_written (Dev.frameCount_pos _) hf hq hr hi hd hc ho
    exact exec_next_of_eq (.hostAggDequeue f false false) _ s rfl (decide_eq_true hf) served
  case dma =>
    have hw : (Instr.dmaError f slot i isRead true).wellFormed = true :=
      show (decide (f < 16) && decide (slot < 16) && decide (i < 8192)) = true by simp [hf, hs, hi]
    exact exec_next_of_eq (.dmaError f slot i isRead true) _ s rfl hw (Dev.dmaError_rx h8 hl he)
  case coalesced =>
    have hw : (Instr.ringCoalesceTimeout f slot).wellFormed = true :=
      show (decide (f < 16) && decide (slot < 16)) = true by simp [hf, hs]
    exact exec_next_of_eq (.ringCoalesceTimeout f slot) _ s rfl hw (Dev.coalesceEnd_of_unsignalled hl hu)

/-- Settles O43: a link change by whether L0 changes, and two reads that clear what they return. -/
theorem hostEventsComplete : Obligations.HostEventsComplete := by
  rintro s _ rfl
  refine ⟨fun up rate width hw => ⟨fun h => ?same, fun h => ?changed⟩, ?uncorrectable, fun b hb hr => ⟨?errors, ?drops⟩⟩
  case same => exact exec_next_of_eq (.pcieLinkChange up rate width) _ s rfl hw (if_pos h)
  case changed => exact exec_next_of_eq (.pcieLinkChange up rate width) _ s rfl hw (if_neg h)
  case uncorrectable => exact exec_next_after .pcieUncorrectableError Dev.pcieError s rfl rfl
  case errors => exact exec_next_of_read (.hiErrCntRead b) s rfl hb hr rfl
  case drops => exact exec_next_of_read (.hiOmciDropRead b) s rfl hb hr rfl

end Sys2Proof.Machine
end

section
/-! Performance counters' snapshots and the check-value units (R440, R443, R444). -/

namespace Sys2Proof.Machine

/-! ## The snapshot of a group (R440) -/

section Snapshot
variable (d : Dev) (p : Page)

/-- What the snapshot of counter `k` writes: its snapshot takes its value, and the counter is cleared. -/
def snapWrites (d : Dev) (p : Page) (k : Nat) : List (Fld × Nat) :=
  [(PM_SNAPV.LO k, d.rd p (PM_CNT.LO k)), (PM_SNAPV.HI k, d.rd p (PM_CNT.HI k)), (PM_CNT.LO k, 0), (PM_CNT.HI k, 0)]

/-- The snapshot of the first `n` counters. -/
def Dev.snapped (d : Dev) (p : Page) (n : Nat) : Dev :=
  (List.range n).foldl (fun (x : Dev) k => x.wrs p (snapWrites x p k)) d

theorem Dev.snapped_succ (n : Nat) :
    d.snapped p (n + 1) = (d.snapped p n).wrs p (snapWrites (d.snapped p n) p n) := by
  rw [Dev.snapped, List.range_succ, List.foldl_append, ← Dev.snapped]
  rfl

/-- A counter's snapshot writes four places. -/
theorem snapWrites_nodup (k : Nat) : ((snapWrites d p k).map (fun c => c.1.slot)).Nodup := by
  simp only [snapWrites, List.map_cons, List.map_nil, List.nodup_cons, List.mem_cons, List.not_mem_nil, or_false,
    not_false_eq_true, List.nodup_nil, and_true, Fld.slot, PM_SNAPV.LO, PM_SNAPV.HI, PM_CNT.LO, PM_CNT.HI]
  omega

/-- The fields of another counter and of its snapshot are none of them. -/
theorem snapWrites_other {k j : Nat} (hk : k < 32) (hj : j < 32) (hn : j ≠ k) {f : Fld}
    (hf : f ∈ [PM_SNAPV.LO j, PM_SNAPV.HI j, PM_CNT.LO j, PM_CNT.HI j]) :
    ∀ c ∈ snapWrites d p k, f.slot ≠ c.1.slot := by
  simp only [List.mem_cons, List.not_mem_nil, or_false] at hf
  simp only [snapWrites, List.forall_mem_cons, List.not_mem_nil, false_implies, implies_true, and_true, Fld.slot,
    PM_SNAPV.LO, PM_SNAPV.HI, PM_CNT.LO, PM_CNT.HI]
  rcases hf with rfl | rfl | rfl | rfl
  all_goals
    simp only [PM_SNAPV.LO, PM_SNAPV.HI, PM_CNT.LO, PM_CNT.HI]
    omega

/-- A counter not reached yet stands as it did. -/
theorem Dev.rd_snapped_after {n j : Nat} (hn : n ≤ j) (hj : j < 32) {f : Fld}
    (hf : f ∈ [PM_SNAPV.LO j, PM_SNAPV.HI j, PM_CNT.LO j, PM_CNT.HI j]) : (d.snapped p n).rd p f = d.rd p f := by
  induction n with
  | zero => rfl
  | succ n ih =>
    rw [Dev.snapped_succ, Dev.rd_wrs_place _ _ (snapWrites_other _ p (by omega) hj (by omega) hf)]
    exact ih (by omega)

/-- A counter passed is cleared, and its snapshot holds what it was. -/
theorem Dev.rd_snapped_before {n j : Nat} (hj : j < n) (hn : n ≤ 32) :
    ∀ c ∈ snapWrites d p j, (d.snapped p n).rd p c.1 = c.2 % 2 ^ c.1.width := by
  induction n with
  | zero => omega
  | succ n ih =>
    intro c hc
    rw [Dev.snapped_succ]
    rcases Nat.lt_succ_iff_lt_or_eq.mp hj with earlier | rfl
    · have place : c.1 ∈ [PM_SNAPV.LO j, PM_SNAPV.HI j, PM_CNT.LO j, PM_CNT.HI j] :=
        List.mem_map_of_mem (f := Prod.fst) hc
      rw [Dev.rd_wrs_place _ _ (snapWrites_other _ p (by omega) (by omega) (by omega) place)]
      exact ih earlier (by omega) c hc
    · have same : snapWrites (d.snapped p j) p j = snapWrites d p j := by
        rw [snapWrites, d.rd_snapped_after p (Nat.le_refl j) (by omega) (by simp),
          d.rd_snapped_after p (Nat.le_refl j) (by omega) (by simp), ← snapWrites]
      rw [same]
      exact Dev.rd_wrs_of_mem _ _ _ (snapWrites_nodup d p j) hc

/-- The time of the snapshot (PM_SNAP_TIME). -/
def snapTime (t : TimeVal) : List (Fld × Nat) :=
  [(PM_SNAP_TIME.SEC_LO, t.sec), (PM_SNAP_TIME.SEC_HI, t.sec / 2 ^ 32), (PM_SNAP_TIME.FRAC, t.frac / 65536),
   (PM_SNAP_TIME.NS, t.ns)]

/-- SNAP takes the snapshot of a group's 32 counters, and the time. -/
theorem Dev.wPmSnap_of_snap (g v : Nat) : Dev.wPmSnap g (PM_SNAP_CMD.SNAP.set v 1) d =
    (d.snapped (.pmg g) 32).wrs (.pmg g) (snapTime d.time) :=
  if_pos (Fld.get_set PM_SNAP_CMD.SNAP v 1)

/-- The time stands beside counters and snapshots. -/
theorem snapTime_other {t : TimeVal} {j : Nat} (hj : j < 32) {f : Fld}
    (hf : f ∈ [PM_SNAPV.LO j, PM_SNAPV.HI j, PM_CNT.LO j, PM_CNT.HI j]) : ∀ c ∈ snapTime t, f.slot ≠ c.1.slot := by
  simp only [List.mem_cons, List.not_mem_nil, or_false] at hf
  simp only [snapTime, List.forall_mem_cons, List.not_mem_nil, false_implies, implies_true, and_true, Fld.slot]
  rcases hf with rfl | rfl | rfl | rfl
  all_goals
    simp only [PM_SNAPV.LO, PM_SNAPV.HI, PM_CNT.LO, PM_CNT.HI]
    omega

/-- After SNAP each counter's four fields read what its snapshot wrote. -/
theorem Dev.rd_snap {j : Nat} (hj : j < 32) (t : TimeVal) :
    ∀ c ∈ snapWrites d p j, ((d.snapped p 32).wrs p (snapTime t)).rd p c.1 = c.2 % 2 ^ c.1.width := by
  intro c hc
  have place : c.1 ∈ [PM_SNAPV.LO j, PM_SNAPV.HI j, PM_CNT.LO j, PM_CNT.HI j] := List.mem_map_of_mem (f := Prod.fst) hc
  rw [Dev.rd_wrs_place _ _ (snapTime_other hj place)]
  exact d.rd_snapped_before p hj (Nat.le_refl 32) c hc

/-- What no register write changes, SNAP keeps. -/
theorem Dev.snap_keeps {α : Type} (P : Dev → α) (h : ∀ (e : Dev) (f : Fld) (x : Nat), P (e.wr p f x) = P e)
    (t : TimeVal) : P ((d.snapped p 32).wrs p (snapTime t)) = P d := by
  rw [Dev.wrs_keeps _ _ _ P fun e c _ x => h e c.1 x]
  exact d.foldl_keeps P (fun e k => e.wrs_keeps p _ P fun e c _ x => h e c.1 x) _

end Snapshot

/-! ## The check-value units (R443, R444) -/

section CheckUnits
variable {d : Dev} {b : By} {u v : Nat}

/-- PATH is taken when T0 writes the word. -/
def Dev.withPath (d : Dev) (b : By) (u v : Nat) : Dev :=
  if b.func = 0 then d.wr (.cv u) CV_CTRL.PATH (CV_CTRL.PATH.get v) else d

theorem Dev.rd_withPath {f : Fld} (h : f.slot ≠ CV_CTRL.PATH.slot) :
    (d.withPath b u v).rd (.cv u) f = d.rd (.cv u) f := by
  unfold Dev.withPath
  split
  · exact Dev.rd_wr_place _ _ _ h
  · rfl

@[simp] theorem CV_CTRL.alg_get_start_set (v x : Nat) : CV_CTRL.ALG.get (CV_CTRL.START.set v x) = CV_CTRL.ALG.get v :=
  Fld.get_set_of_below (by decide) v x

@[simp] theorem CV_CTRL.path_get_start_set (v x : Nat) :
    CV_CTRL.PATH.get (CV_CTRL.START.set v x) = CV_CTRL.PATH.get v :=
  Fld.get_set_of_above (by decide) v x

section Owner
variable (ho : b.func = d.owner (.cv u)) (hp : d.rd (.cv u) CV_CTRL.PATH = 0)
include ho hp

/-- The owner's word without START writes ALG and sets CV_INIT. -/
theorem Dev.wCvCtrl_of_alg : Dev.wCvCtrl b u (CV_CTRL.START.set v 0) d = (d.withPath b u v).wrs (.cv u)
    [(CV_CTRL.ALG, CV_CTRL.ALG.get v), (CV_INIT.INIT, cvInit (CV_CTRL.ALG.get v))] := by
  have own : d.mayWrite b.func (.cv u) CV_CTRL.ALG = true := beq_iff_eq.mpr ho
  have path : d.mayWrite b.func (.cv u) CV_CTRL.PATH = (b.func == 0) := rfl
  simp [Dev.wCvCtrl, own, Dev.off_of_eq hp, path, Fld.get_set CV_CTRL.START, Dev.withPath]

/-- The owner's word with START that leaves ALG as it is loads the check register from CV_INIT. -/
theorem Dev.wCvCtrl_of_start (ha : CV_CTRL.ALG.get v = d.rd (.cv u) CV_CTRL.ALG) :
    Dev.wCvCtrl b u (CV_CTRL.START.set v 1) d =
    ((d.withPath b u v).setCvReg u (d.rd (.cv u) CV_INIT.INIT % 2 ^ cvWidth (CV_CTRL.ALG.get v))).wr (.cv u)
      CV_STAT.BYTES 0 := by
  have own : d.mayWrite b.func (.cv u) CV_CTRL.ALG = true := beq_iff_eq.mpr ho
  have path : d.mayWrite b.func (.cv u) CV_CTRL.PATH = (b.func == 0) := rfl
  have alg := Dev.rd_withPath (d := d) (b := b) (u := u) (v := v) (f := CV_CTRL.ALG) (by decide)
  have init := Dev.rd_withPath (d := d) (b := b) (u := u) (v := v) (f := CV_INIT.INIT) (by decide)
  simp only [Dev.withPath] at alg init
  simp [Dev.wCvCtrl, own, Dev.off_of_eq hp, path, Fld.get_set CV_CTRL.START, Dev.withPath, ha, alg, init]

end Owner

/-- Off the OMCI path a unit takes the bytes that the host writes. -/
theorem Dev.cvData_of_hostUnit (hp : d.rd (.cv u) CV_CTRL.PATH = 0) (l : List Byte) : Dev.cvData u l d =
    (d.setCvReg u (cvFeed (d.rd (.cv u) CV_CTRL.ALG) (d.cvReg u) l)).sat (.cv u) CV_STAT.BYTES l.length := by
  simp only [Dev.cvData, Dev.cvAlg, Dev.off_of_eq hp, Bool.false_eq_true, if_false]

/-- A command that names a unit, a way and a word. -/
theorem unitWord_wellFormed {b : By} {u n v : Nat} (hb : b.ok = true) (hu : u < n) (hv : v < 2 ^ 32) :
    (b.ok && decide (u < n) && decide (v < 4294967296)) = true := by
  simp [hb, hu, show v < 4294967296 from hv]

end CheckUnits

/-- Settles O45: the snapshot counter by counter, and one rule for each other command. -/
theorem countersAndChecksComplete : Obligations.CountersAndChecksComplete := by
  rintro s _ rfl
  refine ⟨fun b g v hw ha => ?snap, fun b g c hw hr => ⟨?count, ?counted⟩, fun b u v hu hb hv ho hp => ⟨fun ha => ?alg,
    fun ha he => ?start⟩, fun b u v hu hb hv hp => ⟨fun ha => ?byte, fun ha => ?half, fun ha => ?word⟩,
    fun b u hb hu hr => ?stat⟩
  case snap =>
    refine ⟨_, exec_next_of_accepted (.pmSnap b g v) s rfl hw ha (s.dev.wPmSnap_of_snap g v),
      fun k hk => ?_, ?_, ?_, ?_⟩
    · have read := s.dev.rd_snap (.pmg g) hk s.dev.time
      simp only [snapWrites, List.forall_mem_cons] at read
      obtain ⟨lo, hi, cleared, cleared', -⟩ := read
      exact ⟨lo, hi, cleared, cleared'⟩
    · exact Dev.rd_wrs_of_mem _ _ _ (by simp only [snapTime, List.map_cons, List.map_nil]; decide)
        (c := (PM_SNAP_TIME.NS, s.dev.time.ns)) (by simp [snapTime])
    · exact s.dev.snap_keeps (.pmg g) Dev.tbls (fun _ _ _ => rfl) _
    · exact s.dev.snap_keeps (.pmg g) Dev.ft (fun _ _ _ => rfl) _
  case count => exact exec_next_of_read (.pmCntLoRead b g c false) s rfl hw hr rfl
  case counted => exact exec_next_of_read (.pmCntLoRead b g c true) s rfl hw hr rfl
  case alg =>
    exact exec_next_of_accepted (.cvAlgWrite b u v) s rfl (unitWord_wellFormed hb hu hv) ha (Dev.wCvCtrl_of_alg ho hp)
  case start =>
    exact exec_next_of_accepted (.cvStart b u v) s rfl (unitWord_wellFormed hb hu hv) ha
      (Dev.wCvCtrl_of_start ho hp he)
  case byte =>
    exact exec_next_of_accepted (.cvData8 b u v) s rfl (unitWord_wellFormed hb hu hv) ha (Dev.cvData_of_hostUnit hp _)
  case half =>
    exact exec_next_of_accepted (.cvData16 b u v) s rfl (unitWord_wellFormed hb hu hv) ha (Dev.cvData_of_hostUnit hp _)
  case word =>
    exact exec_next_of_accepted (.cvData32 b u v) s rfl (unitWord_wellFormed hb hu hv) ha (Dev.cvData_of_hostUnit hp _)
  case stat => exact exec_next_of_read (.cvStatRead b u) s rfl (entry_wellFormed hb hu) hr rfl

end Sys2Proof.Machine
end

section
/-! The servo's samples, its timeout, and the gate that measures XTAL_A (R316–R320). -/

namespace Sys2Proof.Machine

section Servo
variable {d : Dev} {u tr ver dom id pn seq sec ns corr : Nat}

/-- A host sample is taken while the servo runs from the host's samples. -/
theorem Dev.wOfsIn_of_hostPairs {v : Nat} (he : d.rd (.tm 0) TM_SERVO.EN ≠ 0) (hs : d.rd (.tm 0) TM_SERVO.SRC = 0) :
    Dev.wOfsIn v d = d.servo (sext 32 (TM_OFS_IN.OFS.get v) * 65536) := by
  simp only [Dev.wOfsIn, Dev.on_of_ne he, Dev.off_of_eq hs, Bool.not_true, Bool.or_self, Bool.false_eq_true, if_false]

section Match
variable (hm : d.ptpMatch u tr ver dom id pn = true)
include hm

/-- A one-step Sync is a sample at once. -/
theorem Dev.ptpSync_of_oneStep (hn : d.tm.sync = none) : Dev.ptpSync u tr ver dom id pn seq false sec ns corr d =
    (d.cnt .tmCnt (u * 8 + 6)).servo
      (((d.time.toNat / 65536 : Nat) : Int) - ptpTime sec ns (sext 64 corr) - d.mpd) := by
  simp only [Dev.ptpSync, hm, Dev.syncDrop, hn, Option.isSome_none, Bool.not_true, Bool.false_eq_true, if_false]

/-- A two-step Sync waits for its Follow_Up. -/
theorem Dev.ptpSync_of_twoStep (hn : d.tm.sync = none) : Dev.ptpSync u tr ver dom id pn seq true sec ns corr d =
    d.setTm { d.tm with
      sync := some { seq := seq, t2 := ((d.time.toNat / 65536 : Nat) : Int), stale := false } } := by
  simp only [Dev.ptpSync, hm, Dev.syncDrop, hn, Option.isSome_none, Bool.not_true, Bool.false_eq_true, if_false,
    if_true]

/-- The Follow_Up of the waiting Sync is its sample, unless module time was stepped in between. -/
theorem Dev.ptpFollowUp_of_waiting {w : SyncWait} (hw : d.tm.sync = some w) (hf : w.stale = false) :
    Dev.ptpFollowUp u tr ver dom id pn w.seq sec ns corr d =
    ((d.setTm { d.tm with sync := none }).cnt .tmCnt (u * 8 + 6)).servo
      (w.t2 - ptpTime sec ns (sext 64 corr) - d.mpd) := by
  simp only [Dev.ptpFollowUp, hm, hw, hf, ne_eq, not_true_eq_false, Bool.not_true, Bool.false_eq_true, if_false]

end Match

/-- Silence sets FREERUN once. -/
theorem Dev.servoTimeout_of_running (h : d.rd (.tm 0) TM_STAT.FREERUN = 0) :
    d.servoTimeout = ((d.wr (.tm 0) TM_STAT.FREERUN 1).raise (.tm 0) 3).report 5 0 := by
  simp only [Dev.servoTimeout, Dev.off_of_eq h, Bool.false_eq_true, if_false]

/-- A gate shows XTAL_A's rate against a reference that is there. -/
theorem Dev.xtalGate_of_reference (v : Nat) (hr : d.rd (.tm 0) TM_STAT.REF ≠ 0)
    (hh : d.rd (.tm 0) TM_STAT.HOLDOVER = 0) : Dev.xtalGate v d = d.wr (.tm 0) TM_XTAL_PPB.XTAL v := by
  exact if_pos ⟨hr, by rw [Dev.off_of_eq hh]; rfl⟩

end Servo

/-- Settles O37: each message that the servo is offered has one meaning. -/
theorem servoComplete : Obligations.ServoComplete := by
  rintro s _ rfl
  refine ⟨fun b v hw ha he hs => ?host, fun u tr ver dom id pn seq sec ns corr hw hm hn => ⟨?oneStep, ?twoStep⟩,
    fun u tr ver dom id pn w sec ns corr hw hm hq hf => ?followUp, fun h => ?timeout, fun v hv hr hh => ?gate⟩
  case host => exact exec_next_of_accepted (.hostOffsetSample b v) s rfl hw ha (Dev.wOfsIn_of_hostPairs he hs)
  case oneStep =>
    exact exec_next_of_eq (.ptpSyncReceive u tr ver dom id pn seq false sec ns corr) _ s rfl hw
      (Dev.ptpSync_of_oneStep hm hn)
  case twoStep =>
    exact exec_next_of_eq (.ptpSyncReceive u tr ver dom id pn seq true sec ns corr) _ s rfl hw
      (Dev.ptpSync_of_twoStep hm hn)
  case followUp =>
    exact exec_next_of_eq (.ptpFollowUpReceive u tr ver dom id pn w.seq sec ns corr) _ s rfl hw
      (Dev.ptpFollowUp_of_waiting hm hq hf)
  case timeout => exact exec_next_of_eq .servoTimeout _ s rfl rfl (Dev.servoTimeout_of_running h)
  case gate =>
    exact exec_next_of_eq (.xtalGate v) _ s rfl (decide_eq_true hv) (Dev.xtalGate_of_reference v hr hh)

end Sys2Proof.Machine
end

section
/-! Quench and the supervisor pair (R403, R405–R407). -/

namespace Sys2Proof.Machine

section Supervisor
variable {d : Dev}

theorem Dev.quenchAssert_of_high (h : d.rd .rs RS_KEYS.QUENCH_PIN = 0) :
    d.quenchAssert = (d.wrs .rs [(RS_KEYS.QUENCH_PIN, 1), (RS_KEYS.QREL, 0)]).report 55 0 :=
  if_neg (by simp only [Dev.off_of_eq h, Bool.false_eq_true, not_false_eq_true])

theorem Dev.quenchRelease_of_low (h : d.rd .rs RS_KEYS.QUENCH_PIN ≠ 0) :
    d.quenchRelease = { d.wr .rs RS_KEYS.QUENCH_PIN 0 with sup := { d.sup with quenchHighAt := d.now } } :=
  if_pos (Dev.on_of_ne h)

/-- QREL is set with the pin high for 1 µs, no quench of every tree in force and no mismatch latched (R403). -/
theorem Dev.qrel_of_allowed (v : Nat) (hp : d.rd .rs RS_KEYS.QUENCH_PIN = 0) (ht : d.sup.quenchHighAt + 1000 ≤ d.now)
    (hq : d.quenchAll = false) (hm : d.rd .rs RS_KEYS.MISMATCH = 0) :
    Dev.qrel (RS_KEYS.QREL.set v 1) d = d.wr .rs RS_KEYS.QREL 1 := by
  have asked : RS_KEYS.QREL.get (RS_KEYS.QREL.set v 1) = 1 := Fld.get_set RS_KEYS.QREL v 1
  have allowed : d.qrelOk = true := by
    simp only [Dev.qrelOk, Dev.off_of_eq hp, Dev.off_of_eq hm, ht, hq, decide_true, Bool.not_false, Bool.and_self]
  rw [Dev.qrel, if_pos asked, if_pos allowed]

theorem Dev.lockstep_of_matched (sig : Nat) (h : d.rd .rs RS_KEYS.MISMATCH = 0) : Dev.lockstep sig d =
    (d.wrs .rs [(RS_KEYS.QREL, 0), (RS_KEYS.MISMATCH, 1), (RS_SUP_STAT.MISMATCH_SIG, sig)]).giveUpAll.report 0 0 :=
  if_neg (by simp only [Dev.off_of_eq h, Bool.false_eq_true, not_false_eq_true])

theorem Dev.cmpDone_of_running (ok : Bool) (h : d.rd .rs RS_SUP_STAT.CMP_RUN ≠ 0) : Dev.cmpDone ok d =
    (let e := d.wrs .rs [(RS_SUP_CTRL.CMP_TEST, 0), (RS_SUP_STAT.CMP_RUN, 0), (RS_SUP_STAT.CMP_OK, ok.toNat)]
     if ok then e else e.report 54 0) :=
  if_pos (Dev.on_of_ne h)

end Supervisor

/-- Settles O22: each command changes the keys, the comparator or a land in the one way that its premises leave. -/
theorem supervisorCommandsComplete : Obligations.SupervisorCommandsComplete := by
  rintro s _ rfl
  refine ⟨fun h => ?assert, fun h => ?release, fun b v hw ha hp ht hq hm => ?qrel, fun sig hw h => ?mismatch,
    fun b v hw ha => ?check, fun ok h => ?checked, ?land0, ?land1⟩
  case assert => exact exec_next_of_eq .quenchNAssert _ s rfl rfl (Dev.quenchAssert_of_high h)
  case release => exact exec_next_of_eq .quenchNRelease _ s rfl rfl (Dev.quenchRelease_of_low h)
  case qrel => exact exec_next_of_accepted (.qrelWrite b v) s rfl hw ha (Dev.qrel_of_allowed v hp ht hq hm)
  case mismatch => exact exec_next_of_eq (.lockstepMismatch sig) _ s rfl hw (Dev.lockstep_of_matched sig h)
  case check => exact exec_next_of_accepted (.cmpTest b v) s rfl hw ha rfl
  case checked => exact exec_next_of_eq (.cmpTestDone ok) _ s rfl rfl (Dev.cmpDone_of_running ok h)
  case land0 => exact exec_next_of_eq (.holdOutputMismatch 0) (Dev.holdOdd 0) s rfl rfl rfl
  case land1 => exact exec_next_of_eq (.holdOutputMismatch 1) (Dev.holdOdd 1) s rfl rfl rfl

end Sys2Proof.Machine
end

section
/-! Serial lanes: power states, receive adaptation, and the PRBS generator and checker (R336–R343). -/

namespace Sys2Proof.Machine

/-- Under the watch on some trees only what the effect makes of the device at hand counts. -/
theorem Dev.watch_congr (l : List Nat) {f g : Dev → Dev} {d : Dev} (h : f d = g d) :
    Dev.watch l f d = Dev.watch l g d := by
  simp only [Dev.watch, h]

section Lanes
variable {d : Dev} {l v : Nat}

/-! ## Power states (R338, R339, R341) -/

/-- A target other than L0 is taken of a lane that neither its block nor PRBS needs. -/
theorem Dev.wPstate_of_allowed (h3 : LN_PSTATE.TARGET.get v ≠ 3)
    (h : LN_PSTATE.TARGET.get v = 0 ∨ (d.laneActive l = false ∧ d.prbsOn l = false)) :
    Dev.wPstate l v d = (d.wr (.ln l) LN_PSTATE.TARGET (LN_PSTATE.TARGET.get v)).laneKick l := by
  have free : ¬ (LN_PSTATE.TARGET.get v ≠ 0 ∧ (d.laneActive l = true ∨ d.prbsOn l = true)) := by
    rintro ⟨asleep, needed⟩
    simp only [(h.resolve_left asleep).1, (h.resolve_left asleep).2, Bool.false_eq_true, or_self] at needed
  rw [Dev.wPstate, if_neg h3, if_neg free]

/-- A transition ends in its destination. -/
theorem Dev.pstateDone_of_moving (h : d.rd (.ln l) LN_PSTATE.TRANS ≠ 0) : Dev.pstateDone l d =
    (let st := (d.lane l).dest
     let d1 := d.wrs (.ln l) [(LN_PSTATE.STATE, st), (LN_PSTATE.TRANS, 0)]
     let d2 :=
       if st = 2 then d1.wrs (.ln l) [(LN_RX_ADAPT.STATE, 0), (LN_STAT.CDR_LOCK, 0), (LN_PRBS.CHK_LOCK, 0)] else d1
     let d3 := if st = d.rd (.ln l) LN_PSTATE.TARGET then d2.raise (.ln l) 0 else d2
     d3.laneKick l) :=
  if_pos (Dev.on_of_ne h)

/-! ## Receive adaptation (R336) -/

/-- RESTART begins the adaptation of a continuous lane. -/
theorem Dev.wRxAdapt_of_restart (hl : 48 ≤ l) : Dev.wRxAdapt l (LN_RX_ADAPT.RESTART.set v 1) d =
    (d.wr (.ln l) LN_RX_ADAPT.FREEZE (LN_RX_ADAPT.FREEZE.get (LN_RX_ADAPT.RESTART.set v 1))).adaptStart l := by
  rw [Dev.wRxAdapt, if_neg (Nat.not_lt.mpr hl)]
  exact if_pos (Fld.get_set LN_RX_ADAPT.RESTART v 1)

/-! ## PRBS (R341–R343) -/

@[simp] theorem LN_PRBS_INJ.len_get_inj_set (v x : Nat) :
    LN_PRBS_INJ.LEN.get (LN_PRBS_INJ.INJ.set v x) = LN_PRBS_INJ.LEN.get v :=
  Fld.get_set_of_below (by decide) v x

/-- An injection starts while the generator runs and none is pending. -/
theorem Dev.wPrbsInj_of_idle (hv : LN_PRBS_INJ.LEN.get v ≠ 0) (hg : d.rd (.ln l) LN_PRBS.GEN_EN ≠ 0)
    (hp : d.rd (.ln l) LN_PRBS_INJ.PENDING = 0) : Dev.wPrbsInj l (LN_PRBS_INJ.INJ.set v 1) d =
    d.wrs (.ln l) [(LN_PRBS_INJ.LEN, LN_PRBS_INJ.LEN.get v), (LN_PRBS_INJ.PENDING, 1)] := by
  have asked : LN_PRBS_INJ.INJ.get (LN_PRBS_INJ.INJ.set v 1) = 1 := Fld.get_set LN_PRBS_INJ.INJ v 1
  simp only [Dev.wPrbsInj, LN_PRBS_INJ.len_get_inj_set, hv, asked, Dev.on_of_ne hg, Dev.off_of_eq hp, Bool.not_true,
    Bool.false_eq_true, or_self, if_true, if_false]

/-- A word of LN_PRBS with polynomials that exist, of a lane whose block is idle, is taken; CLR clears both counters. -/
theorem Dev.wPrbs_of_clear (hg : LN_PRBS.GEN_POLY.get (LN_PRBS.CLR.set v 1) < 5)
    (hc : LN_PRBS.CHK_POLY.get (LN_PRBS.CLR.set v 1) < 5) (ha : d.laneActive l = false) :
    Dev.wPrbs l (LN_PRBS.CLR.set v 1) d =
    (let w := LN_PRBS.CLR.set v 1
     let d1 := d.wrs (.ln l)
        [(LN_PRBS.GEN_EN, LN_PRBS.GEN_EN.get w), (LN_PRBS.CHK_EN, LN_PRBS.CHK_EN.get w),
         (LN_PRBS.GEN_POLY, LN_PRBS.GEN_POLY.get w), (LN_PRBS.CHK_POLY, LN_PRBS.CHK_POLY.get w),
         (LN_PRBS.GEN_INV, LN_PRBS.GEN_INV.get w), (LN_PRBS.CHK_INV, LN_PRBS.CHK_INV.get w)]
     (if LN_PRBS.CHK_EN.get w = 0 then d1.wr (.ln l) LN_PRBS.CHK_LOCK 0 else d1).prbsClear l) := by
  have clears : LN_PRBS.CLR.get (LN_PRBS.CLR.set v 1) = 1 := Fld.get_set LN_PRBS.CLR v 1
  simp only [Dev.wPrbs, Nat.not_le.mpr hg, Nat.not_le.mpr hc, ha, clears, Bool.false_eq_true, false_and, or_self,
    if_true, if_false]

/-- A checker that loses lock has counted what it compared. -/
theorem Dev.prbsLost_of_locked (bits errs : Nat) (h : d.rd (.ln l) LN_PRBS.CHK_LOCK ≠ 0) : Dev.prbsLost l bits errs d =
    ((d.prbsCompared l bits errs).wr (.ln l) LN_PRBS.CHK_LOCK 0).raise (.ln l) 2 :=
  if_pos (Dev.on_of_ne h)

end Lanes

/-- Settles O24: each clause's premises leave one path open through its command's meaning. -/
theorem laneStateComplete : Obligations.LaneStateComplete := by
  rintro s _ rfl
  refine ⟨fun b l v hw ha h3 h => ?request, fun l hl h => ?moved, fun b l v hw hl ha => ?restart, fun l hl h => ?done,
    fun l present hl h => ?fail⟩
  case request =>
    exact exec_next_of_eq (.pstateRequest b l v) _ s rfl hw
      (Dev.watch_congr _ ((Dev.hostF_accepts _ _ _ _ _ _ ha).trans (Dev.wPstate_of_allowed h3 h)))
  case moved =>
    exact exec_next_of_eq (.pstateTransitionDone l) _ s rfl (decide_eq_true hl)
      (Dev.watch_congr _ (Dev.pstateDone_of_moving h))
  case restart => exact exec_next_of_accepted (.adaptRestart b l v) s rfl hw ha (Dev.wRxAdapt_of_restart hl)
  case done => exact exec_next_of_eq (.adaptDone l) _ s rfl (decide_eq_true hl) (if_pos h)
  case fail => exact exec_next_of_eq (.adaptFail l present) _ s rfl (decide_eq_true hl) (if_pos h)

/-- Settles O25: the generator and the checker each act where their enables and the lock allow it. -/
theorem prbsComplete : Obligations.PrbsComplete := by
  rintro s _ rfl
  refine ⟨fun b l v hw ha hv hg hp => ?inject, fun l hl => ?injected, fun b l v hw ha hg hc hi => ?clear,
    fun l hl h => ?lock, fun l bits errs hw h => ?lost, fun b l bits errs hw hr => ⟨?total, ?errors⟩⟩
  case inject => exact exec_next_of_accepted (.prbsInject b l v) s rfl hw ha (Dev.wPrbsInj_of_idle hv hg hp)
  case injected =>
    exact exec_next_after (.prbsInjectDone l) (fun d => d.wr (.ln l) LN_PRBS_INJ.PENDING 0) s rfl
      (decide_eq_true hl)
  case clear => exact exec_next_of_accepted (.prbsClear b l v) s rfl hw ha (Dev.wPrbs_of_clear hg hc hi)
  case lock => exact exec_next_of_eq (.prbsLock l) _ s rfl (decide_eq_true hl) (if_pos (Dev.on_of_ne h))
  case lost => exact exec_next_of_eq (.prbsLost l bits errs) _ s rfl hw (Dev.prbsLost_of_locked bits errs h)
  case total =>
    exact exec_next_of_eq (.prbsErrLoRead b l true bits errs)
      (fun d => (d.prbsCompared l bits errs).hostR b (.ln l) LN_PRBS_BITS_LO.BITS_LO.off (Dev.prbsLoad l true b.func))
      s rfl hw
      (Dev.hostR_readable (s.dev.prbsCompared l bits errs) b (.ln l) _ (Dev.prbsLoad l true b.func) hr)
  case errors =>
    exact exec_next_of_eq (.prbsErrLoRead b l false bits errs)
      (fun d => (d.prbsCompared l bits errs).hostR b (.ln l) LN_PRBS_ERR_LO.ERR_LO.off (Dev.prbsLoad l false b.func))
      s rfl hw
      (Dev.hostR_readable (s.dev.prbsCompared l bits errs) b (.ln l) _ (Dev.prbsLoad l false b.func) hr)

end Sys2Proof.Machine
end

section
/-! The rules of FT_CTRL and of an FT_CLASS image (R420). -/

namespace Sys2Proof.Machine

section FaultControl
variable (d : Dev)

/-- An accepted write of a block register on FT's page has the register's behaviour, watched for the keys. -/
theorem exec_registerWrite_ft (s : State) {b : By} {pg off v : Nat} {f : Fld}
    (hw : (Instr.registerWrite b pg off (.write v)).wellFormed = true) (hp : s.dev.pageOf (viaOf b pg) pg = some .ft)
    (hf : f ∈ Page.ft.at off) (h4 : off % 4 = 0) (ho : 0x100 ≤ off)
    (ha : s.dev.accepts (viaOf b pg) .ft f v = true) {g : Dev → Dev}
    (hg : s.dev.wBlock (viaOf b pg) .ft off v = g s.dev) :
    exec (.registerWrite b pg off (.write v)) s = .next (s.after (s.dev.watchAll g)) := by
  obtain ⟨-, rfl⟩ := Page.mem_at.mp hf
  obtain ⟨hn, hd, hm, hnf⟩ := (s.dev.accepts_iff (viaOf b pg) .ft f v).mp ha
  have reached : s.dev.regWrite b pg f.off v =
      s.dev.hostW (viaOf b pg) .ft f.off (Page.ft.guarded (Dev.wWord (viaOf b pg) .ft f.off v)) := by
    rw [Dev.regWrite, Nat.div_mul_cancel (Nat.dvd_of_mod_eq_zero h4), hp]
  have written : s.dev.wWord (viaOf b pg) .ft f.off v = g s.dev :=
    (s.dev.wWord_of_block _ v (fun _ => Page.noConfusion) ho hnf (List.any_eq_true.mpr ⟨f, hf, hm⟩)).trans hg
  rw [exec_next_after (.registerWrite b pg f.off (.write v)) _ s rfl hw, Dev.hostAccess, reached,
    Dev.hostW_reaches _ _ _ _ _ hn hd, Page.guarded_congr .ft written]
  rfl

/-- A write of FT_CTRL out of range is refused with 0x363. -/
theorem Dev.wBlock_ftCtrl_refused {b : By} {v : Nat} (h : FT_CTRL.COAL_MS.get v < 1 ∨ 1000 < FT_CTRL.COAL_MS.get v ∨
    FT_CTRL.FAULT_MIN.get v = 7) : d.wBlock b .ft 0x100 v = d.logErr .ft 0x363 := by
  have bad : (decide (1 ≤ FT_CTRL.COAL_MS.get v) && decide (FT_CTRL.COAL_MS.get v ≤ 1000) &&
      FT_CTRL.FAULT_MIN.get v != 7) = false := by
    simp only [Bool.and_eq_false_iff, decide_eq_false_iff_not, bne_eq_false_iff_eq]
    omega
  simp only [Dev.wBlock, Dev.wRanged, bad, if_true, Bool.false_eq_true, if_false]

/-- A write of FT_CTRL within range is taken. -/
theorem Dev.wBlock_ftCtrl_taken {b : By} {v : Nat} (h1 : 1 ≤ FT_CTRL.COAL_MS.get v)
    (h2 : FT_CTRL.COAL_MS.get v ≤ 1000) (h3 : FT_CTRL.FAULT_MIN.get v ≠ 7) :
    d.wBlock b .ft 0x100 v = d.wrPlain b .ft 0x100 v := by
  simp only [Dev.wBlock, Dev.wRanged, h1, h2, bne_iff_ne.mpr h3, decide_true, Bool.and_self, if_true]

/-- An image that differs in a field of FT_CLASS that no writer may write is refused with 0x360. -/
theorem Dev.imageCheck_ftClass_readOnly {i e : Nat} {f : Fld} (hf : f ∈ Tbl.ftClass.fields)
    (hr : Tbl.ftClass.acc i f = .ro) (h : f.get e ≠ d.view .ftClass i f) : d.imageCheck 0 .ftClass i e = 0x360 := by
  have differs : d.roDiffers .ftClass i e = true :=
    List.any_eq_true.mpr ⟨f, hf, by simp [hr, Tbl.computed, h]⟩
  simp [Dev.imageCheck, Tbl.noWrite, Tbl.sealed, Tbl.isCounter, differs, Tbl.roCode]

/-- An image that fails the rules of FT_CLASS is refused with 0x360, whatever else it changes. -/
theorem Dev.imageCheck_ftClass_rule {i e : Nat} (h : ftClassCheck i e = 0x360) :
    d.imageCheck 0 .ftClass i e = 0x360 := by
  simp [Dev.imageCheck, Tbl.noWrite, Tbl.sealed, Tbl.isCounter, Tbl.roCode, Dev.chapterCheck, h]

/-- A command whose image is refused keeps the refusal and changes nothing. -/
theorem Dev.tblPut_ftClass_refused {i e : Nat} (h : d.imageCheck 0 .ftClass i e = 0x360) :
    d.tblPut 0 .ftClass i e = (TblCmd.fail 0x360, d) := by
  simp [Dev.tblPut, h]

/-- An image that breaks a rule of R420 is refused with 0x360. -/
theorem Dev.imageCheck_ftClass_refused {i e : Nat}
    (h : FT_CLASS.N.get e = 0 ∨ FT_CLASS.W_MS.get e < 1 ∨ 3600000 < FT_CLASS.W_MS.get e ∨ FT_CLASS.ACTION.get e = 6 ∨
      FT_CLASS.ACTION.get e = 7 ∨
      ((FT_CLASS.ACTION.get e = 2 ∨ FT_CLASS.ACTION.get e = 5) ∧ (ftRow i).scope ∈ [0, 1, 5]) ∨
      FT_CLASS.SCOPE.get e ≠ d.view .ftClass i FT_CLASS.SCOPE ∨
      FT_CLASS.FIXED.get e ≠ d.view .ftClass i FT_CLASS.FIXED) : d.imageCheck 0 .ftClass i e = 0x360 := by
  simp only [List.mem_cons, List.not_mem_nil, or_false] at h
  by_cases hs : FT_CLASS.SCOPE.get e = d.view .ftClass i FT_CLASS.SCOPE
  · by_cases hf : FT_CLASS.FIXED.get e = d.view .ftClass i FT_CLASS.FIXED
    · exact d.imageCheck_ftClass_rule (if_pos (by omega))
    · exact d.imageCheck_ftClass_readOnly (by decide) rfl hf
  · exact d.imageCheck_ftClass_readOnly (by decide) rfl hs

/-- A command of FT's window that fails with 0x360 keeps that failure on the started window, watched for the keys. -/
theorem Dev.tblCmd_ft_refused {b : By} {pg v op : Nat} (ho : op < 5) (hp : d.pageOf (viaOf b pg) pg = some .ft)
    (ha : d.accepts (viaOf b pg) .ft TBL_CMD.OP (TBL_CMD.OP.set v op) = true) (hi : d.rd .ft TBL_STAT.BUSY = 0)
    (hr : (d.tblStart .ft op (TBL_CMD.ARG.get v)).tblRun b.func .ft op (TBL_CMD.ARG.get v) false =
      (TblCmd.fail 0x360, d.tblStart .ft op (TBL_CMD.ARG.get v))) :
    d.tblCmd b pg (TBL_CMD.OP.set v op) false =
      d.watchAll (fun x => (x.tblStart .ft op (TBL_CMD.ARG.get v)).tblKeep .ft (TblCmd.fail 0x360)) := by
  have ran : d.tblOp b.func .ft (TBL_CMD.OP.set v op) false =
      (d.tblStart .ft op (TBL_CMD.ARG.get v)).tblKeep .ft (TblCmd.fail 0x360) := by
    rw [Dev.tblOp_of_window _ _ _ _ (fun _ => Page.noConfusion), if_neg (by simp [Dev.on, hi]),
      TBL_CMD.op_get_op_set v ho, TBL_CMD.arg_get_op_set]
    exact congrArg (fun r : TblCmd × Dev => r.2.tblKeep .ft r.1) hr
  rw [d.tblCmd_accepts b pg _ false hp ha]
  exact Page.guarded_congr .ft ran
    (g := fun x => (x.tblStart .ft op (TBL_CMD.ARG.get v)).tblKeep .ft (TblCmd.fail 0x360))

end FaultControl

/-- Settles O60: FT_CTRL is taken within its range and refused outside; an FT_CLASS image that breaks a rule makes its
command fail, which is all that the command keeps. -/
theorem faultControlRule : Obligations.FaultControlRule := by
  constructor
  · rintro s _ rfl b pg v hw w hp ha ms
    have word {g : Dev → Dev} (hg : s.dev.wBlock w .ft 0x100 v = g s.dev) :=
      exec_registerWrite_ft s hw hp (f := FT_CTRL.COAL_MS) (by decide) rfl (Nat.le_refl _) ha hg
    have apart : ∀ f ∈ [FT_CTRL.COAL_MS, FT_CTRL.FAULT_MIN, FT_CTRL.RING_MSG], ∀ g ∈ errFields, f.slot ≠ g.slot := by
      decide
    exact ⟨fun h => ⟨word (s.dev.wBlock_ftCtrl_refused h), fun f hf => s.dev.rd_logErr_place _ 0x363 (apart f hf),
        s.dev.rd_logErr_count _ 0x363, s.dev.rd_logErr_code _ 0x363⟩,
      fun h1 h2 h3 => word (s.dev.wBlock_ftCtrl_taken h1 h2 h3)⟩
  · rintro s _ rfl b pg v rmw c o w arg d1 i old e ms act hw hb hp ha hi ht hx h
    have refused : d1.tblPut b.func .ftClass i e = (TblCmd.fail 0x360, d1) := by
      rw [hb]
      exact d1.tblPut_ftClass_refused (d1.imageCheck_ftClass_refused h)
    cases rmw
    case false =>
      exact exec_next_of_eq (.tblWrite b pg v) _ s rfl hw (s.dev.tblCmd_ft_refused (by decide) hp ha hi
        ((d1.tblRun_write _ false ht hx).trans refused))
    case true =>
      exact exec_next_of_eq (.tblRmw b pg v false) _ s rfl hw (s.dev.tblCmd_ft_refused (by decide) hp ha hi
        ((d1.tblRun_rmw _ ht hx).trans refused))

end Sys2Proof.Machine
end

section
/-! Tenant jobs: a core serves a job for one chunk, and a finished job completes (R278, R286, R293). -/

namespace Sys2Proof.Machine

section Jobs
variable (d : Dev) {f : Nat} {j : Job}

/-- The status that the last chunk leaves: 6 for a verification that finds another code than the one at AUX. -/
def Dev.jobStatus (j : Job) : Nat :=
  if decide (j.op = 4 ∧ cmac (d.algOf j.ctx) (d.keyOf j.ctx) (j.src.take j.len) ≠ j.aux.take 16) then 6 else 0

/-- The job after its next chunk. -/
def Dev.jobAdvanced (j : Job) : Job :=
  let j1 : Job := { j with chunks := j.chunks + 1 }
  if j.len ≤ j1.chunks * 4096 then { j1 with fin := true, status := d.jobStatus j, out := d.jobOut j1 true } else j1

/-- A chunk under a context that is not frozen uses the key for its blocks; the last one leaves status and output. -/
theorem Dev.jobChunk_of_thawed (hf : d.rdT .cxKey j.ctx CX_KEY.FROZEN = 0) : d.jobChunk f j =
    (d.useKey j.ctx (blocks16 (min (j.len - j.chunks * 4096) 4096))).setJob f (some (d.jobAdvanced j)) := by
  have thawed : d.onT .cxKey j.ctx CX_KEY.FROZEN = false := bne_eq_false_iff_eq.mpr hf
  simp only [Dev.jobChunk, Dev.jobAdvanced, thawed, Bool.false_eq_true, if_false]
  split <;> rfl

/-- A core that goes to the tenant goes on with the job in progress. -/
theorem Dev.runJob_goesOn {key len addr : Nat} {src aux : List Byte} (ht : d.jobTakes f = true)
    (hj : d.job f = some j) : d.runJob f j.op key len addr src aux false = (d.jobTurn f).jobChunk f j := by
  simp only [Dev.runJob, ht, hj, Bool.not_true, Bool.false_eq_true, if_false, if_true]

/-- A core that goes to a tenant without one begins the queue's next job, under a valid KIND 3 context of its window. -/
theorem Dev.runJob_begins {op key len addr : Nat} {src aux : List Byte} (ht : d.jobTakes f = true)
    (hn : d.job f = none) (h1 : 1 ≤ len) (hl : len ≤ 65536) (hk : key < d.rdT .cxJobWin f CX_JOB_WIN.COUNT)
    (hv : d.rdT .cxKey (d.rdT .cxJobWin f CX_JOB_WIN.BASE + key) CX_KEY.VALID ≠ 0)
    (h3 : d.rdT .cxKey (d.rdT .cxJobWin f CX_JOB_WIN.BASE + key) CX_KEY.KIND = 3) :
    d.runJob f op key len addr src aux false = (d.jobTurn f).jobChunk f
      { op := op, status := 0, ctx := d.rdT .cxJobWin f CX_JOB_WIN.BASE + key, len := len, src := src, aux := aux,
        addr := addr, chunks := 0, fin := false, out := [] } := by
  have valid : d.onT .cxKey (d.rdT .cxJobWin f CX_JOB_WIN.BASE + key) CX_KEY.VALID = true := bne_iff_ne.mpr hv
  have fits : ¬ (65536 < len ∨ (len = 0 ∧ op < 3)) := by omega
  simp only [Dev.runJob, ht, hn, valid, h3, fits, Nat.not_le.mpr hk, Bool.not_true, Bool.or_self, bne_self_eq_false,
    Bool.false_eq_true, if_false]

/-- CFB encryption leaves the text of the chunks done. -/
theorem Dev.jobOut_encrypt (all : Bool) (h : j.op = 1) : d.jobOut j all =
    (cfbMode (d.algOf j.ctx) (d.keyOf j.ctx) false (j.len / 16 + 1) (toBlock j.aux) (j.src.take j.len)).take
      (j.chunks * 4096) := by
  simp [Dev.jobOut, h]

/-- CFB decryption leaves the text of the chunks done. -/
theorem Dev.jobOut_decrypt (all : Bool) (h : j.op = 2) : d.jobOut j all =
    (cfbMode (d.algOf j.ctx) (d.keyOf j.ctx) true (j.len / 16 + 1) (toBlock j.aux) (j.src.take j.len)).take
      (j.chunks * 4096) := by
  simp [Dev.jobOut, h]

/-- The generation of a code leaves the code once all chunks are done. -/
theorem Dev.jobOut_generate (h : j.op = 3) :
    d.jobOut j true = cmac (d.algOf j.ctx) (d.keyOf j.ctx) (j.src.take j.len) := by
  simp [Dev.jobOut, h]

/-- The verification of a code leaves no output. -/
theorem Dev.jobOut_verify (all : Bool) (h : j.op = 4) : d.jobOut j all = [] := by
  simp [Dev.jobOut, h]

/-- Only a verification ends with an error. -/
theorem Dev.jobStatus_of_ne (h : j.op ≠ 4) : d.jobStatus j = 0 := by
  simp [Dev.jobStatus, h]

/-- A verification ends without error where the codes agree. -/
theorem Dev.jobStatus_verify (h : j.op = 4) : d.jobStatus j =
    if cmac (d.algOf j.ctx) (d.keyOf j.ctx) (j.src.take j.len) = j.aux.take 16 then 0 else 6 := by
  simp [Dev.jobStatus, h, ite_not]

/-- The job after its next chunk, from the status and the output that its end would leave. -/
theorem Dev.jobAdvanced_eq {st : Nat} {out : List Byte} (hs : d.jobStatus j = st)
    (ho : d.jobOut { j with chunks := j.chunks + 1 } true = out) : d.jobAdvanced j =
      if j.len ≤ (j.chunks + 1) * 4096 then { j with chunks := j.chunks + 1, fin := true, status := st, out := out }
      else { j with chunks := j.chunks + 1 } := by
  simp only [Dev.jobAdvanced, hs, ho]

/-- A finished job completes. -/
theorem Dev.jobComplete_of_fin (hj : d.job f = some j) (hf : j.fin = true) : d.jobComplete f false =
    (((((d.setJob f none).emit (.jobDone f (d.jobDesc f (d.rd (.cxt f) CX_JOBQ_CI.CI)) j.status (d.epoch f) j.dest
      j.out)).wr (.cxt f) CX_JOBQ_CI.CI ((d.rd (.cxt f) CX_JOBQ_CI.CI + 1) % 8192)).cnt (.cxJobCnt f) j.status).raise
      (.cxt f) (if j.status = 0 then 0 else 1)) := by
  simp only [Dev.jobComplete, hj, hf, if_true]

/-- A PI within the ring is taken. -/
theorem Dev.wJobPi_of_fits {v : Nat} (h : (CX_JOBQ_PI.PI.get v + 8192 - d.rd (.cxt f) CX_JOBQ_CI.CI) % 8192 ≤
    2 ^ d.rd (.cxt f) CX_JOBQ_CFG.SIZE_LOG2) : d.wJobPi f v = d.wr (.cxt f) CX_JOBQ_PI.PI (CX_JOBQ_PI.PI.get v) :=
  if_neg (Nat.not_lt.mpr h)

end Jobs

/-- Settles O34: whether begun or in progress, the job is served for one chunk by the same rule; the four operations
differ in the status and the output of their end. -/
theorem jobsComplete : Obligations.JobsComplete := by
  rintro s _ f key len addr src aux rfl hf hk hl ha
  refine ⟨fun j ht hz hj => ?served, fun j hj hfin => ?completed, fun b v hw ha h => ?index⟩
  case served =>
    intro k b cfb code turn goes
    have wf : (decide (f < 16) && decide (key < 65536) && decide (len < 4294967296) &&
        decide (addr < 18446744073709551616)) = true := by
      simp only [hf, hk, show len < 4294967296 from hl, show addr < 18446744073709551616 from ha, decide_true,
        Bool.and_self]
    have served : s.dev.runJob f j.op key len addr src aux false =
        turn.setJob f (some ((s.dev.jobTurn f).jobAdvanced j)) := by
      rw [← (s.dev.jobTurn f).jobChunk_of_thawed hz]
      rcases hj with hj | ⟨hn, h1, h2, hj, hc, hv, h3⟩
      · exact s.dev.runJob_goesOn ht hj
      · have hctx := congrArg Job.ctx hj
        rw [hctx] at hv h3
        exact (s.dev.runJob_begins ht hn h1 h2 hc hv h3).trans (congrArg _ hj.symm)
    have ends {op st : Nat} {out : List Byte} (ho : j.op = op) (hs : s.dev.jobStatus j = st)
        (hout : s.dev.jobOut { j with chunks := k } true = out) {c : Instr} (hw : c.wellFormed = true)
        (hx : exec c s = s.run c (Dev.runJob f op key len addr src aux false)) : exec c s = .next (goes st out) := by
      subst ho
      refine exec_next_of_eq c _ s hx hw (served.trans ?_)
      exact congrArg (fun x => turn.setJob f (some x)) ((s.dev.jobTurn f).jobAdvanced_eq hs hout)
    have unverified (h : j.op ≠ 4) := s.dev.jobStatus_of_ne h
    refine ⟨fun h => ?encrypt, fun h => ?decrypt, fun h => ?generate, fun h => ?verify⟩
    case encrypt => exact ends h (unverified (by omega)) (s.dev.jobOut_encrypt true h) wf rfl
    case decrypt => exact ends h (unverified (by omega)) (s.dev.jobOut_decrypt true h) wf rfl
    case generate => exact ends h (unverified (by omega)) (s.dev.jobOut_generate h) wf rfl
    case verify => exact ends h (s.dev.jobStatus_verify h) (s.dev.jobOut_verify true h) wf rfl
  case completed =>
    exact exec_next_of_eq (.jobComplete f false) _ s rfl (decide_eq_true hf) (s.dev.jobComplete_of_fin hj hfin)
  case index => exact exec_next_of_accepted (.jobqPiWrite b f v) s rfl hw ha (s.dev.wJobPi_of_fits h)

end Sys2Proof.Machine
end

section
/-! Power and reset: the feeds, the last word, the resets and their release, the watchdog and the calibration banks
(R377–R398, R416, R469). -/

namespace Sys2Proof.Machine

section Power
variable {d : Dev}

/-- A feed whose state stays is shown. -/
theorem Dev.feedChange_same {feed mag : Nat} {rev : Bool}
    (h : d.rd .pw (feedFlds feed).1 = feedState (d.rd .pw (feedFlds feed).1) mag rev) :
    let st := feedState (d.rd .pw (feedFlds feed).1) mag rev
    let d1 := d.wrs .pw [((feedFlds feed).1, st), ((feedFlds feed).2.2.2, mag)]
    d.feedChange feed mag rev = (if st < 3 then d1.setUsable feed false else d1).feedCarry :=
  if_pos h

/-- A feed whose state changes is shown, counted, raised and reported, and the new state may add to that. -/
theorem Dev.feedChange_changed {feed mag : Nat} {rev : Bool}
    (h : d.rd .pw (feedFlds feed).1 ≠ feedState (d.rd .pw (feedFlds feed).1) mag rev) :
    let st := feedState (d.rd .pw (feedFlds feed).1) mag rev
    let d1 := d.wrs .pw [((feedFlds feed).1, st), ((feedFlds feed).2.2.2, mag)]
    let d4 := ((((if st < 3 then d1.setUsable feed false else d1).feedCarry).cnt .pwCnt feed).raise .pw 0).report 6 feed
    d.feedChange feed mag rev =
      if st = 3 then d4.cnt .pwCnt 2 else if st = 5 then d4.cnt .pwCnt 3
      else if st = 1 then ((d4.cnt .pwCnt 4).raise .pw 1).report 7 feed else d4 :=
  if_neg h

/-- Feed B at its usable voltage becomes usable; beside a usable feed A, with no last word, no power-on is due. -/
theorem Dev.feedUsable_besideA (hs : 3 ≤ d.rd .pw PW_FEED_STATUS.STATE_B) (hm : 3500 ≤ d.rd .pw PW_FEED_B_MV.MAG)
    (hl : d.pwr.lw = 0) (ha : d.pwr.usableA = true) : d.feedUsable 1 = (d.setUsable 1 true).feedCarry := by
  have fit : ¬ (d.rd .pw (feedFlds 1).1 < 3 ∨ d.rd .pw (feedFlds 1).2.2.2 < 3500) :=
    not_or.mpr ⟨Nat.not_lt.mpr hs, Nat.not_lt.mpr hm⟩
  simp only [Dev.feedUsable, fit, hl, ha, bne_self_eq_false, Bool.true_or, Bool.not_true, Bool.or_self,
    Bool.false_eq_true, if_false]

/-- Both feeds low on an armed and enabled last word: everything but AON and SUP stops, and the record waits. -/
theorem Dev.lastWord_of_armed {magA magB lid : Nat} (hl : d.pwr.lw = 0) (hm : max magA magB < 3300)
    (ha : d.rd .rs RS_LW_STAT.ARMED ≠ 0) (he : d.rd .rs RS_LW_CFG.EN ≠ 0) :
    let ws := d.lwWords magA magB lid
    let d1 : Dev := { d with pwr := { d.pwr with lw := 1 } }
    let d2 := ((d1.stopDomains sagFirst).giveUpAll).stopDomains sagRest
    d.lastWord magA magB lid = { d2 with pwr := { d2.pwr with lwPend := some (wordStore (ws ++ [crcWords ws])) } } := by
  simp only [Dev.lastWord, hl, Nat.not_le.mpr hm, Dev.on_of_ne ha, Dev.on_of_ne he, ne_eq, not_true_eq_false, or_self,
    Bool.and_self, if_false, if_true]

/-- The record that waits becomes the newer valid one. -/
theorem Dev.lwDone_of_pending {im : Store Nat} (h : d.pwr.lwPend = some im) :
    let d1 := (d.rawLoad .rsLwRec im).wrs .rs [(RS_LW_STAT.VALID, 1), (RS_LW_STAT.ARMED, 0)]
    d.lwDone = { d1 with pwr := { d1.pwr with lw := 2, lwPend := none } } := by
  simp only [Dev.lwDone, h]

/-- A charged hold-up store is shown. -/
theorem Dev.holdup_charged : d.holdup true = d.wr .pw PW_FEED_STATUS.HOLDUP_OK 1 := by
  simp only [Dev.holdup, Bool.not_true, Bool.and_false, Bool.false_eq_true, if_false, Bool.toNat_true]

/-- The charge that falls disarms the last word, and is raised and reported. -/
theorem Dev.holdup_lost (h : d.rd .pw PW_FEED_STATUS.HOLDUP_OK ≠ 0) : d.holdup false =
    (((d.wr .pw PW_FEED_STATUS.HOLDUP_OK 0).wr .rs RS_LW_STAT.ARMED 0).raise .pw 2).report 8 0 := by
  simp only [Dev.holdup, Dev.on_of_ne h, Bool.not_false, Bool.and_self, if_true, Bool.toNat_false]

/-- A charged store arms a last word that is not armed. -/
theorem Dev.lwArm_of_charged (hh : d.rd .pw PW_FEED_STATUS.HOLDUP_OK ≠ 0) (hl : d.pwr.lw = 0) (hr : d.live .rs = true)
    (ha : d.rd .rs RS_LW_STAT.ARMED = 0) : d.lwArm = (d.wr .rs RS_LW_STAT.ARMED 1).raise .rs 3 :=
  if_pos ⟨Dev.on_of_ne hh, hl, hr, by rw [Dev.off_of_eq ha]; rfl⟩

/-- A power-on that is due, with the retained rail's marker and no valid record, is a cold reset that keeps the rail. -/
theorem Dev.powerOn_retained (hp : d.pwr.lwPowerOn = true) (hl : d.pwr.lw ≠ 1) :
    let d1 := Dev.bigReset true 1 { d with pwr := { d.pwr with lw := 0, lwPowerOn := false } }
    let d2 := (d1.wr .rs RS_STAT.RETAIN_VALID 1).wr .pw PW_FEED_STATUS.HOLDUP_OK 0
    d2.rd .rs RS_LW_STAT.VALID = 0 → d.powerOn true = d2 := by
  intro d1 d2 hv
  have unrecorded : d2.on .rs RS_LW_STAT.VALID = false := Dev.off_of_eq hv
  have ran : d.powerOn true =
      if d2.on .rs RS_LW_STAT.VALID then d2.cnt .pwCnt 6 (d2.rawRd .rsLwRec 1) else d2 := if_pos ⟨hp, hl⟩
  rw [ran, unrecorded, if_neg Bool.false_ne_true]

/-- RST_N without PIN_WARM is a cold reset, in force while the pin is low. -/
theorem Dev.rstN_cold (hl : d.pwr.lw = 0) (hp : d.rd .rs RS_RESET_CTRL.PIN_WARM = 0) :
    let d1 := Dev.bigReset true 2 d
    d.rstN = { d1 with pwr := { d1.pwr with rstN := true } } := by
  simp only [Dev.rstN, hl, Dev.off_of_eq hp, Bool.not_false, Bool.not_true, Bool.false_eq_true, false_and, or_self,
    ne_eq, not_true_eq_false, if_false]

/-- A hot reset with HOT_WARM is a warm reset. -/
theorem Dev.hotReset_warm (h : d.rd .rs RS_RESET_CTRL.HOT_WARM ≠ 0) : d.hotReset = Dev.bigReset false 3 d :=
  if_pos (Dev.on_of_ne h)

/-- A hot reset without HOT_WARM resets HI, with no last word and no reset in force. -/
theorem Dev.hotReset_hi (h : d.rd .rs RS_RESET_CTRL.HOT_WARM = 0) (hl : d.pwr.lw = 0) (hs : d.pwr.scope = 0) :
    d.hotReset = d.hiReset := by
  simp only [Dev.hotReset, Dev.off_of_eq h, hl, hs, ne_eq, not_true_eq_false, or_self, Bool.false_eq_true, if_false]

/-- A domain's reset that ends releases the domain, unless an escalation holds it. -/
theorem Dev.domainDone_of_free {k : Nat} (hr : (d.dom k).inRst = true) (hh : (d.dom k).held = false) :
    d.domainDone k = (d.reachRelease k).rsBusy := by
  simp only [Dev.domainDone, hr, hh, if_true, Bool.false_eq_true, if_false]

/-- The release sequence goes on while a reset is in force, its pin and the last word are released and no domain waits:
step 1 releases domain 1, reads the calibration and starts the comparator check. -/
theorem Dev.releaseStep_first (hs : d.pwr.scope ≠ 0) (hr : d.pwr.rstN = false) (hl : d.pwr.lw = 0)
    (hq : d.pwr.relQ = []) (hp : d.rd .rs RS_STAT.PHASE = 1) :
    d.releaseStep = (((d.releaseDom 1).calRead).cmpStart).wr .rs RS_STAT.PHASE 2 := by
  simp only [Dev.releaseStep, hs, hr, hl, hq, hp, Bool.false_eq_true, ne_eq, not_true_eq_false, or_self, if_false]
  rfl

/-- Step 2 releases domain 3. -/
theorem Dev.releaseStep_second (hs : d.pwr.scope ≠ 0) (hr : d.pwr.rstN = false) (hl : d.pwr.lw = 0)
    (hq : d.pwr.relQ = []) (hp : d.rd .rs RS_STAT.PHASE = 2) :
    d.releaseStep = (d.releaseDom 3).wr .rs RS_STAT.PHASE 3 := by
  simp only [Dev.releaseStep, hs, hr, hl, hq, hp, Bool.false_eq_true, ne_eq, not_true_eq_false, or_self, if_false]
  rfl

/-- The watchdog warns once. -/
theorem Dev.wdtWarn_of_running (he : d.rd .rs RS_WDT.EN ≠ 0) (hw : d.pwr.wdtWarned = false) : d.wdtWarn =
    (({ d with pwr := { d.pwr with wdtWarned := true } } : Dev).raise .rs 0).report 9 0 :=
  if_pos (by rw [Dev.on_of_ne he, hw]; rfl)

/-- The watchdog's period without WDT_COLD ends in a warm reset. -/
theorem Dev.wdtExpire_warm (he : d.rd .rs RS_WDT.EN ≠ 0) (hc : d.rd .rs RS_WDT.WDT_COLD = 0) :
    d.wdtExpire = Dev.bigReset false 4 d := by
  simp only [Dev.wdtExpire, Dev.on_of_ne he, Dev.off_of_eq hc, if_true]

/-- A kick of a running watchdog that keeps its settings restarts the count. -/
theorem Dev.wWdt_of_kick {v : Nat} (he : d.rd .rs RS_WDT.EN = 1) (hp : 10 ≤ RS_WDT.PERIOD_MS.get v)
    (hs : RS_WDT.PERIOD_MS.get v = d.rd .rs RS_WDT.PERIOD_MS) (hc : RS_WDT.WDT_COLD.get v = d.rd .rs RS_WDT.WDT_COLD) :
    let d1 := d.wrs .rs [(RS_WDT.PERIOD_MS, RS_WDT.PERIOD_MS.get v), (RS_WDT.WDT_COLD, RS_WDT.WDT_COLD.get v),
      (RS_WDT.EN, 1)]
    d.wWdt (RS_WDT.KICK.set v 1) = { d1 with pwr := { d1.pwr with wdtStart := d.now, wdtWarned := false } } := by
  have running : d.on .rs RS_WDT.EN = true := Dev.on_of_ne (by rw [he]; decide)
  have period : RS_WDT.PERIOD_MS.get (RS_WDT.KICK.set v 1) = RS_WDT.PERIOD_MS.get v :=
    Fld.get_set_of_below (by decide) v 1
  have cold : RS_WDT.WDT_COLD.get (RS_WDT.KICK.set v 1) = RS_WDT.WDT_COLD.get v := Fld.get_set_of_above (by decide) v 1
  have kick : RS_WDT.KICK.get (RS_WDT.KICK.set v 1) = 1 := Fld.get_set RS_WDT.KICK v 1
  simp only [Dev.wWdt, running, period, cold, kick, Nat.not_lt.mpr hp, ← hs, ← hc, ne_eq, not_true_eq_false, or_self,
    and_false, true_or, if_false, if_true]

end Power

section ResetControl
variable {d : Dev} {v : Nat}

/-- The settings that a write of RS_RESET_CTRL stores, whatever its OP. -/
def Dev.resetCtrlSet (d : Dev) (v : Nat) : Dev :=
  d.wrs .rs [(RS_RESET_CTRL.DOMAIN, RS_RESET_CTRL.DOMAIN.get v), (RS_RESET_CTRL.HOT_WARM, RS_RESET_CTRL.HOT_WARM.get v),
    (RS_RESET_CTRL.PIN_WARM, RS_RESET_CTRL.PIN_WARM.get v)]

/-- The command that a write of RS_RESET_CTRL carries. -/
theorem RS_RESET_CTRL.op_get_op_set (v : Nat) {op : Nat} (h : op < 16) :
    RS_RESET_CTRL.OP.get (RS_RESET_CTRL.OP.set v op) = op :=
  (Fld.get_set RS_RESET_CTRL.OP v op).trans (Nat.mod_eq_of_lt h)

/-- Setting OP leaves the domain. -/
theorem RS_RESET_CTRL.domain_get_op_set (v op : Nat) :
    RS_RESET_CTRL.DOMAIN.get (RS_RESET_CTRL.OP.set v op) = RS_RESET_CTRL.DOMAIN.get v :=
  Fld.get_set_of_below (by decide) v op

/-- Setting OP leaves the settings. -/
theorem Dev.resetCtrlSet_op_set (d : Dev) (v op : Nat) :
    d.resetCtrlSet (RS_RESET_CTRL.OP.set v op) = d.resetCtrlSet v := by
  simp only [Dev.resetCtrlSet, RS_RESET_CTRL.domain_get_op_set,
    Fld.get_set_of_below (f := RS_RESET_CTRL.OP) (g := RS_RESET_CTRL.HOT_WARM) (by decide),
    Fld.get_set_of_below (f := RS_RESET_CTRL.OP) (g := RS_RESET_CTRL.PIN_WARM) (by decide)]

/-- OP 1 is a cold reset. -/
theorem Dev.wResetCtrl_cold : d.wResetCtrl (RS_RESET_CTRL.OP.set v 1) = Dev.bigReset true 6 (d.resetCtrlSet v) := by
  rw [← d.resetCtrlSet_op_set v 1, Dev.wResetCtrl, RS_RESET_CTRL.op_get_op_set v (by decide)]
  rfl

/-- OP 2 is a warm reset. -/
theorem Dev.wResetCtrl_warm : d.wResetCtrl (RS_RESET_CTRL.OP.set v 2) = Dev.bigReset false 6 (d.resetCtrlSet v) := by
  rw [← d.resetCtrlSet_op_set v 2, Dev.wResetCtrl, RS_RESET_CTRL.op_get_op_set v (by decide)]
  rfl

/-- OP 3 resets a domain that it may name, with no reset in progress and no last word. -/
theorem Dev.wResetCtrl_domain (hk : opDomain (RS_RESET_CTRL.DOMAIN.get v) = true) (hb : d.rd .rs RS_STAT.BUSY = 0)
    (hs : d.pwr.scope = 0) (hl : d.pwr.lw = 0) : d.wResetCtrl (RS_RESET_CTRL.OP.set v 3) =
      Dev.domainReset 6 (RS_RESET_CTRL.DOMAIN.get v) (d.resetCtrlSet v) := by
  rw [← d.resetCtrlSet_op_set v 3, Dev.wResetCtrl, RS_RESET_CTRL.op_get_op_set v (by decide),
    RS_RESET_CTRL.domain_get_op_set]
  simp only [hk, Dev.off_of_eq hb, hs, hl, Bool.not_true, Bool.or_self, Bool.false_eq_true, ne_eq, not_true_eq_false,
    or_self, if_false]
  rw [Dev.resetCtrlSet, RS_RESET_CTRL.domain_get_op_set]

/-- OP 4 ends the lasting states that hold the domain. -/
theorem Dev.wResetCtrl_release (hh : d.holders (RS_RESET_CTRL.DOMAIN.get v) ≠ []) :
    d.wResetCtrl (RS_RESET_CTRL.OP.set v 4) = (d.holders (RS_RESET_CTRL.DOMAIN.get v)).foldl
      (fun (x : Dev) e => x.ftEnd e.1 e.2) (d.resetCtrlSet v) := by
  rw [← d.resetCtrlSet_op_set v 4, Dev.wResetCtrl, RS_RESET_CTRL.op_get_op_set v (by decide),
    RS_RESET_CTRL.domain_get_op_set]
  simp only [List.isEmpty_eq_false_iff.mpr hh, Bool.false_eq_true, if_false]
  rw [Dev.resetCtrlSet, RS_RESET_CTRL.domain_get_op_set]

/-- An accepted write of RS_RESET_CTRL with an OP has the register's behaviour, watched for the keys. -/
theorem exec_resetOp (c : Instr) (s : State) {b : By} {op : Nat} {e : Dev}
    (hx : exec c s = s.run c (Dev.resetOp b v op)) (hw : c.wellFormed = true)
    (ha : s.dev.accepts b .rs RS_RESET_CTRL.OP (RS_RESET_CTRL.OP.set v op) = true)
    (he : s.dev.wResetCtrl (RS_RESET_CTRL.OP.set v op) = e) :
    exec c s = .next (s.after (s.dev.watchAll (fun _ => e))) :=
  exec_next_of_eq c _ s hx hw (Dev.watchAll_congr ((s.dev.hostF_accepts _ _ _ _ _ ha).trans he))

end ResetControl

section Calibration
variable {d : Dev} {a v : Nat}

/-- The command that a write of RS_CAL_CMD carries. -/
theorem RS_CAL_CMD.op_get_op_set (v : Nat) {op : Nat} (h : op < 16) :
    RS_CAL_CMD.OP.get (RS_CAL_CMD.OP.set v op) = op :=
  (Fld.get_set RS_CAL_CMD.OP v op).trans (Nat.mod_eq_of_lt h)

/-- The image of a commit comes from RS_CAL_IMG alone. -/
theorem Dev.calImage_wr (d : Dev) (p : Page) (f : Fld) (x seq : Nat) : (d.wr p f x).calImage seq = d.calImage seq := rfl

/-- A commit writes the bank that is not active, with the next sequence number. -/
theorem Dev.wCalCmd_commit (hs : d.rd .rs RS_CAL_CMD.STAT ≠ 1) (ha : d.activeBank = some a) :
    let seq := ((d.bank a).seq + 1) % 2 ^ 32
    let d1 := ((d.wr .rs RS_CAL_CMD.OP 1).wr .rs RS_CAL_CMD.STAT 1).setBank (1 - a)
      { image := (d.wr .rs RS_CAL_CMD.OP 1).calImage seq, seq := seq, valid := false }
    d.wCalCmd (RS_CAL_CMD.OP.set v 1) = { d1 with pwr := { d1.pwr with commit := some (1 - a) } } := by
  simp only [Dev.wCalCmd, RS_CAL_CMD.op_get_op_set v (show 1 < 16 by decide), hs, ha, Option.getD_some, Dev.calImage_wr,
    if_false, if_true]

/-- A reload takes the active bank's image. -/
theorem Dev.wCalCmd_reload (hs : d.rd .rs RS_CAL_CMD.STAT ≠ 1) (ha : d.activeBank = some a) :
    d.wCalCmd (RS_CAL_CMD.OP.set v 2) =
      ((d.wr .rs RS_CAL_CMD.OP 2).wr .rs RS_CAL_CMD.STAT 0).rawLoad .rsCalImg (d.bank a).image := by
  simp only [Dev.wCalCmd, RS_CAL_CMD.op_get_op_set v (show 2 < 16 by decide), hs, ha, if_false, if_true,
    show ¬ (2 : Nat) = 1 by decide]

/-- A commit that was verified marks its bank. -/
theorem Dev.calDone_verified (h : d.pwr.commit = some a) :
    let d1 := ({ d with pwr := { d.pwr with commit := none } } : Dev).wr .rs RS_CAL_CMD.STAT 0
    d.calDone true = ((d1.setBank a { d1.bank a with valid := true }).calShow).raise .rs 1 := by
  simp only [Dev.calDone, h, if_true]

/-- A commit that fails its verification is shown, raised and reported. -/
theorem Dev.calDone_failed (h : d.pwr.commit = some a) :
    let d1 := ({ d with pwr := { d.pwr with commit := none } } : Dev).wr .rs RS_CAL_CMD.STAT 0
    d.calDone false = ((d1.wr .rs RS_CAL_STAT.VERIFY_FAIL 1).raise .rs 2).report 10 0 := by
  simp only [Dev.calDone, h, Bool.false_eq_true, if_false]

end Calibration

/-- Settles O57: each event and command has the one effect that its premises leave; resets and the last word run under
the watch on the keys. -/
theorem powerComplete : Obligations.PowerComplete := by
  rintro s _ rfl
  refine ⟨fun feed mag rev hw => ⟨fun h => ?same, fun h => ?changed⟩, fun hs hm hl ha => ?usable,
    fun magA magB lid hw hl hm ha he => ?lastWord, fun im h => ?record, ?charged, fun h => ?lost,
    fun hh hl hr ha => ?armed, fun hp hl _ hv => ?powerOn, fun hl hp => ?pin, ?pinHigh, fun h => ?hotWarm,
    fun h hl hs => ?hotReset, fun b v hw => ⟨fun ha => ?cold, fun ha => ?warm, fun ha hk hb hs hl => ?domain,
    fun ha hh => ?release⟩, fun k hk hr hh => ?domainDone, fun hs hr hl hq => ⟨fun hp => ?first, fun hp => ?second⟩,
    fun b v hw ha he hp hs hc => ?kick, fun he hw => ?warn, fun he hc => ?expiry,
    fun b v hw hs => ⟨fun a ha hb => ?commit, fun a ha hb => ?reload⟩, fun k h => ⟨?verified, ?failed⟩,
    fun cur hw h => ?current⟩
  case same => exact exec_next_of_eq (.feedStateChange feed mag rev) _ s rfl hw (Dev.feedChange_same h)
  case changed => exact exec_next_of_eq (.feedStateChange feed mag rev) _ s rfl hw (Dev.feedChange_changed h)
  case usable => exact exec_next_of_eq (.feedUsable 1) _ s rfl rfl (Dev.feedUsable_besideA hs hm hl ha)
  case lastWord =>
    exact exec_next_of_eq (.lastWordStart magA magB lid) _ s rfl hw
      (Dev.watchAll_congr (Dev.lastWord_of_armed hl hm ha he))
  case record => exact exec_next_of_eq .lastWordRecordDone _ s rfl rfl (Dev.lwDone_of_pending h)
  case charged => exact exec_next_of_eq (.holdupOk true) _ s rfl rfl Dev.holdup_charged
  case lost => exact exec_next_of_eq (.holdupOk false) _ s rfl rfl (Dev.holdup_lost h)
  case armed => exact exec_next_of_eq .lwArmed _ s rfl rfl (Dev.lwArm_of_charged hh hl hr ha)
  case powerOn => exact exec_next_of_eq (.powerOnReset true) _ s rfl rfl (Dev.powerOn_retained hp hl hv)
  case pin => exact exec_next_of_eq .rstNAssert _ s rfl rfl (Dev.rstN_cold hl hp)
  case pinHigh =>
    exact exec_next_after .rstNRelease (fun d => { d with pwr := { d.pwr with rstN := false } }) s rfl rfl
  case hotWarm => exact exec_next_of_watched .pcieHotReset _ s rfl rfl (Dev.hotReset_warm h)
  case hotReset => exact exec_next_of_watched .pcieHotReset _ s rfl rfl (Dev.hotReset_hi h hl hs)
  case cold => exact exec_resetOp (.resetCold b v) s rfl hw ha Dev.wResetCtrl_cold
  case warm => exact exec_resetOp (.resetWarm b v) s rfl hw ha Dev.wResetCtrl_warm
  case domain => exact exec_resetOp (.resetDomain b v) s rfl hw ha (Dev.wResetCtrl_domain hk hb hs hl)
  case release => exact exec_resetOp (.releaseEscalated b v) s rfl hw ha (Dev.wResetCtrl_release hh)
  case domainDone =>
    exact exec_next_of_eq (.domainResetDone k) _ s rfl (decide_eq_true hk) (Dev.domainDone_of_free hr hh)
  case first => exact exec_next_of_eq .releaseStep _ s rfl rfl (Dev.releaseStep_first hs hr hl hq hp)
  case second => exact exec_next_of_eq .releaseStep _ s rfl rfl (Dev.releaseStep_second hs hr hl hq hp)
  case kick => exact exec_next_of_accepted (.watchdogKick b v) s rfl hw ha (Dev.wWdt_of_kick he hp hs hc)
  case warn => exact exec_next_of_eq .watchdogWarn _ s rfl rfl (Dev.wdtWarn_of_running he hw)
  case expiry => exact exec_next_of_eq .watchdogExpiry _ s rfl rfl (Dev.wdtExpire_warm he hc)
  case commit => exact exec_next_of_accepted (.calCommit b v) s rfl hw ha (Dev.wCalCmd_commit hs hb)
  case reload => exact exec_next_of_accepted (.calReload b v) s rfl hw ha (Dev.wCalCmd_reload hs hb)
  case verified => exact exec_next_of_eq (.calDone true) _ s rfl rfl (Dev.calDone_verified h)
  case failed => exact exec_next_of_eq (.calDone false) _ s rfl rfl (Dev.calDone_failed h)
  case current => exact exec_next_of_eq (.inputCurrentHigh cur) _ s rfl hw (if_pos h)

end Sys2Proof.Machine
end
